-- ==== Sys2Proof/Word.lean ====
section
/-! DEFINITION. The word and byte types, the two sides of the part (arm A with port A, arm B with port B), and a
pair that holds one thing for each side. -/

namespace Sys2Proof

/-- A 16-bit word of the exchange memory or of a port register (section 1.7). -/
abbrev Word := BitVec 16

/-- An 8-bit byte of a position frame; also a post tag, a result tag or a feed sequence number (R1). -/
abbrev Byte := BitVec 8

/-- Port A and the A-feed belong to arm A, port B and the B-feed to arm B (section 1.7), so one type names both. -/
inductive Side where
  | a
  | b
  deriving DecidableEq, Repr

/-- A pick arm. -/
abbrev Arm := Side

/-- A controller's port. -/
abbrev Port := Side

/-- "The other arm" of A is B and the reverse. -/
def Side.other : Side → Side
  | .a => .b
  | .b => .a

/-- One value for each side. -/
structure Pair (α : Type) where
  a : α
  b : α
  deriving DecidableEq, Repr

/-- The value of one side. -/
def Pair.get {α : Type} (p : Pair α) : Side → α
  | .a => p.a
  | .b => p.b

/-- Replace the value of one side. -/
def Pair.set {α : Type} (p : Pair α) (x : Side) (v : α) : Pair α :=
  match x with
  | .a => { p with a := v }
  | .b => { p with b := v }

/-- Change the value of one side. -/
def Pair.modify {α : Type} (p : Pair α) (x : Side) (f : α → α) : Pair α :=
  p.set x (f (p.get x))

end Sys2Proof
end

