-- ==== Sys2Proof/Syntax.lean ====
section
/-! DEFINITION. The commands of the block: one constructor for each row of spec/opcode_table.json, with its operands. -/

namespace Sys2Proof

/-- R21: one character of a feed line: its 8 data bits, of which bit i is the i-th sent (least significant first), and
the level sampled at its stop bit, which the receiver does not test. -/
structure LineChar where
  data : Byte
  stopHigh : Bool
  deriving DecidableEq, Repr

/-- An event that may arrive while a service is being carried out and whose meeting with the service a rule gives an
outcome of its own (log 7). -/
inductive Event where
  /-- A port's write to exchange memory (R81, R158, R159, R187). -/
  | portWrite (port : Port) (addr : BitVec 11) (value : Word)
  /-- A port's write to PLOCK (R157, R158). -/
  | plockWrite (port : Port) (value : Word)
  /-- The completion of a feed frame (R31, R45, R63, R125). -/
  | frameComplete (arm : Arm) (chars : List LineChar)
  /-- A miss (R63, R125). -/
  | missExpiry (arm : Arm)
  /-- A loss-grace expiry (R125). -/
  | lossGraceExpiry (arm : Arm)
  deriving DecidableEq, Repr

/-- An event and the numbered point of the service at which it falls. -/
structure Arrival where
  point : Nat
  event : Event
  deriving DecidableEq, Repr

/-- The commands, in the order of spec/opcode_table.json. -/
inductive Instr where
  | powerOn
  | resetNAssert
  | resetNRelease
  | readyRise
  | frameComplete (arm : Arm) (chars : List LineChar)
  | missTimerExpiry (arm : Arm)
  | lossGraceExpiry (arm : Arm)
  | stateSnapshotWrite (arm : Arm)
  | frameEvaluation (arm : Arm) (during : List Arrival)
  | surveyTick (during : List Arrival)
  | configurationService (during : List Arrival)
  | refillTest
  | surveyGrantPhase (during : List Arrival)
  | surveyEnd
  | rfreqChange (high : Bool)
  | debounceExpiry
  | stallTimerExpiry
  | installWindowExpiry
  | lockRequest (port : Port) (value : Word) (meetsOther : Bool)
  | lockRelease (port : Port) (value : Word)
  | pstatRead (port : Port)
  | pmaskWrite (port : Port) (value : Word)
  | pguardRead (port : Port)
  | registerWrite (port : Port) (select : BitVec 3) (value : Word)
  | stagingWrite (port : Port) (offset : Byte) (value : Word)
  | memoryWrite (port : Port) (addr : BitVec 11) (value : Word)
  | feedIdleSeen (arm : Arm)
  deriving DecidableEq, Repr

end Sys2Proof
end

