-- ==== Sys2Proof/Decode.lean ====
section
/-! DEFINITION. The commands that a word spells by the table's bits. spec/opcode_table.json gives bits to none of its
27 rows ("fields" is empty in each and no row has a "fixed" entry), so no word spells a command. -/

namespace Sys2Proof

/-- The command that the `nbits` bits `w` spell: none, since no row of the table has bits. -/
def decodeTableWord (_nbits _w : Nat) : Option Instr := none

end Sys2Proof
end

