-- ==== Sys2Proof/Config.lean ====
section
/-! DEFINITION. What the spec fixes as numbers for the whole part, and the one value it leaves open. -/

namespace Sys2Proof

/-- R2: 16 columns. -/
def Config.columns : Nat := 16
/-- R2: 16 rows. -/
def Config.rows : Nat := 16
/-- R2: 4 tiers. -/
def Config.tiers : Nat := 4
/-- R2: 16 × 16 × 4 cells. -/
def Config.cellCount : Nat := 1024
/-- R171: the exchange memory is the 1280 words at 0x000–0x4FF. -/
def Config.memoryWords : Nat := 0x500

/-- R174: a port that reads a guard-written word while READY is 0 "may find either its old contents or its reset
contents". A FREE VALUE (log 13): at this address, for the read with this number, are the old contents found? -/
opaque Config.unreadyReadsOld : Nat → Nat → Bool

end Sys2Proof
end

