-- ==== Sys2Proof/Machine/Memory.lean ====
section
/-! DEFINITION. The exchange memory: a list of (word offset, word) pairs in one canonical form (R171). -/

namespace Sys2Proof.Machine

/-- The exchange memory. The part addresses words, not bytes, so a pair is an offset and a whole word (R171, log 5). -/
abbrev Memory := List (Nat × Word)

/-- What an offset that is not listed reads as: R173, "the guard clears every word of 0x000–0x4FF to zero". -/
def Memory.unlisted : Word := 0

/-- The word at an offset. -/
def Memory.read : Memory → Nat → Word
  | [], _ => Memory.unlisted
  | (b, w) :: m, a => if b = a then w else Memory.read m a

/-- Write one whole word (R171), keeping the canonical form. -/
def Memory.write : Memory → Nat → Word → Memory
  | [], a, v => if v = Memory.unlisted then [] else [(a, v)]
  | (b, w) :: m, a, v =>
    if a < b then (if v = Memory.unlisted then (b, w) :: m else (a, v) :: (b, w) :: m)
    else if a = b then (if v = Memory.unlisted then m else (a, v) :: m)
    else (b, w) :: Memory.write m a v

/-- Write words at successive offsets. -/
def Memory.writeFrom : Memory → Nat → List Word → Memory
  | m, _, [] => m
  | m, a, v :: vs => Memory.writeFrom (m.write a v) (a + 1) vs

/-- The offsets listed rise strictly from `lo` on, and no entry equals what an unlisted offset reads as. -/
def Memory.wfFrom : Nat → Memory → Bool
  | _, [] => true
  | lo, (b, w) :: m => decide (lo ≤ b) && decide (w ≠ Memory.unlisted) && Memory.wfFrom (b + 1) m

/-- The canonical form: equal memories are equal lists. -/
def Memory.wf (m : Memory) : Bool := Memory.wfFrom 0 m

/-- R171: mailbox A's and B's result halves follow their request halves; port A's mailbox is at 0x0C0, B's at 0x0E0. -/
def mailboxBase : Port → Nat
  | .a => 0x0C0
  | .b => 0x0E0

/-- R171: lane A occupies 0x100–0x1FF and lane B 0x200–0x2FF. -/
def laneBase : Arm → Nat
  | .a => 0x100
  | .b => 0x200

/-- A lane has sixteen slots, 0 to 15 (section 5.1). -/
abbrev Slot := Fin 16

/-- The slots in slot order. -/
def slotOrder : List Slot := [0, 1, 2, 3, 4, 5, 6, 7, 8, 9, 10, 11, 12, 13, 14, 15]

/-- Slot s of a lane is the sixteen words from the lane's base plus 16 × s (section 5.1). -/
def slotBase (arm : Arm) (slot : Slot) : Nat := laneBase arm + 16 * slot.val

/-- R171: snapshot A is at 0x080 and snapshot B at 0x0A0. -/
def snapshotBase : Arm → Nat
  | .a => 0x080
  | .b => 0x0A0

/-- R171: the staging table. -/
def inStaging (a : Nat) : Bool := decide (0x300 ≤ a) && decide (a < 0x400)

/-- R171: the request half of a port's mailbox. -/
def inMailboxRequest (p : Port) (a : Nat) : Bool :=
  decide (mailboxBase p ≤ a) && decide (a < mailboxBase p + 16)

/-- R171: the request halves of a port's lane. -/
def inLaneRequest (p : Port) (a : Nat) : Bool :=
  decide (laneBase p ≤ a) && decide (a < laneBase p + 256) && decide (a % 16 < 8)

/-- R171: the request halves a port may write. -/
def inRequestHalf (p : Port) (a : Nat) : Bool := inMailboxRequest p a || inLaneRequest p a

/-- The words that are not the guard's to write: "the guard never writes a request half or the staging table" (R171). -/
def portWritten (a : Nat) : Bool := inRequestHalf .a a || inRequestHalf .b a || inStaging a

end Sys2Proof.Machine
end

