-- ==== Sys2Proof/Machine/Bits.lean ====
section
/-! DEFINITION. Bit fields of words and the saturation of section 1.7. -/

namespace Sys2Proof.Machine

/-- The `len` bits of a word from bit `lo` up, as a number. -/
def bitsAt (w : Word) (lo len : Nat) : Nat := w.toNat / 2 ^ lo % 2 ^ len

/-- One bit of a word. -/
def bitAt (w : Word) (i : Nat) : Bool := w.getLsbD i

/-- A number as a word, modulo 65536. -/
def wordOf (n : Nat) : Word := BitVec.ofNat 16 n

/-- A signed figure as a word, two's complement (R175). -/
def wordOfInt (i : Int) : Word := BitVec.ofInt 16 i

/-- A mark as the value of its bit. -/
def markAt (b : Bool) (i : Nat) : Nat := if b then 2 ^ i else 0

/-- A word with the `len` bits from bit `lo` up replaced. -/
def putBits (w : Word) (lo len v : Nat) : Word :=
  wordOf (w.toNat - bitsAt w lo len * 2 ^ lo + v % 2 ^ len * 2 ^ lo)

/-- Bits 0–7 of a word: a post tag or a result tag (R178, R179). -/
def tagOf (w : Word) : Byte := BitVec.ofNat 8 w.toNat

/-- A result limited to lo … hi (section 1.7). -/
def saturate (lo hi x : Int) : Int := if x < lo then lo else if hi < x then hi else x

/-- A coordinate limited to −32768…32767 (R43). -/
def saturateCoord (x : Int) : Int := saturate (-32768) 32767 x

/-- ceil(n / d). -/
def ceilDiv (n d : Nat) : Nat := (n + d - 1) / d

end Sys2Proof.Machine
end

