-- ==== Sys2Proof/Machine/Table.lean ====
section
/-! DEFINITION. The zone table: its fields (R5, R7, R10–R17), its copy from the staging words and its image (R181),
its validation (R18, R19), and the cell sets it gives (R5–R7). -/

namespace Sys2Proof.Machine

/-- R5: a block of cells given by one bound per axis; the fields are as wide as their places in the table (R17, R181). -/
structure Zone where
  colLo : BitVec 4
  colHi : BitVec 4
  rowLo : BitVec 4
  rowHi : BitVec 4
  tierLo : BitVec 4
  tierHi : BitVec 4
  wildX : Bool
  wildY : Bool
  wildZ : Bool
  deriving DecidableEq, Repr

/-- R13–R16: the fields of one arm. -/
structure ArmFields where
  dx : Word
  dy : Word
  dz : Word
  mirrorX : Bool
  mirrorY : Bool
  hx : BitVec 12
  hy : BitVec 12
  hz : BitVec 12
  rf : BitVec 5
  dec : Word
  w : Word
  fp : Word
  rc : Word
  fc : Word
  lg : Byte
  pr : Word
  deriving DecidableEq, Repr

/-- R8, R181: one complete zone table, with the zone records and refill entries that it carries beyond NZ and the
refill count (R5, R7). -/
structure ZoneTable where
  serial : Word
  px : Word
  py : Word
  pz : Word
  nz : Word
  sc : Word
  rdr : Word
  rdf : Word
  rsl : Word
  refillCount : Word
  refillEntries : List Word
  zones : List Zone
  arms : Pair ArmFields
  deriving DecidableEq, Repr

/-- The zone read where no record is carried (a table always carries 32). -/
def Zone.blank : Zone := ⟨0, 0, 0, 0, 0, 0, false, false, false⟩

/-! ## Cells and cell sets -/

/-- The column of a cell; the records are indexed column first, then row, then tier (R2, R56). -/
def columnOf (i : Nat) : Nat := i % 16
/-- The row of a cell. -/
def rowOf (i : Nat) : Nat := i / 16 % 16
/-- The tier of a cell. -/
def tierOf (i : Nat) : Nat := i / 256

/-- lo ≤ x ≤ hi. -/
def within (lo hi x : Nat) : Bool := decide (lo ≤ x) && decide (x ≤ hi)

/-- R5: the zone contains the cell when on each axis the wildcard mark is set or lo ≤ index ≤ hi. -/
def Zone.contains (z : Zone) (i : Nat) : Bool :=
  (z.wildX || within z.colLo.toNat z.colHi.toNat (columnOf i)) &&
  (z.wildY || within z.rowLo.toNat z.rowHi.toNat (rowOf i)) &&
  (z.wildZ || within z.tierLo.toNat z.tierHi.toNat (tierOf i))

/-- Zone record z of a table. -/
def ZoneTable.zone (t : ZoneTable) (z : Nat) : Zone := t.zones.getD z Zone.blank

/-- R5: the cells of the zone numbered z; a record at NZ or above defines no zone. -/
def ZoneTable.zoneHas (t : ZoneTable) (z i : Nat) : Bool :=
  decide (z < t.nz.toNat) && (t.zone z).contains i

/-- R6: the cell set of a list of zones is the union of their cells. -/
def ZoneTable.setHas (t : ZoneTable) (zs : List Nat) (i : Nat) : Bool :=
  zs.any (fun z => t.zoneHas z i)

/-- R7: the refill list is the first count entries. -/
def ZoneTable.refillList (t : ZoneTable) : List Nat :=
  (t.refillEntries.take t.refillCount.toNat).map BitVec.toNat

/-- R7: the cells of the refill set. -/
def ZoneTable.refillHas (t : ZoneTable) (i : Nat) : Bool := t.setHas t.refillList i

/-- R7: a list whose count is 0 means that the table has no refill set. -/
def ZoneTable.hasRefillSet (t : ZoneTable) : Bool := decide (t.refillCount.toNat ≠ 0)

/-! ## The copy and the image (R17, R181) -/

/-- A zone record from its two words. -/
def Zone.ofWords (w v : Word) : Zone where
  colLo := BitVec.ofNat 4 (bitsAt w 0 4)
  colHi := BitVec.ofNat 4 (bitsAt w 4 4)
  rowLo := BitVec.ofNat 4 (bitsAt w 8 4)
  rowHi := BitVec.ofNat 4 (bitsAt w 12 4)
  tierLo := BitVec.ofNat 4 (bitsAt v 0 4)
  tierHi := BitVec.ofNat 4 (bitsAt v 4 4)
  wildX := bitAt v 8
  wildY := bitAt v 9
  wildZ := bitAt v 10

/-- The two words of a zone record, the bits the copy ignores as zero. -/
def Zone.toWords (z : Zone) : List Word :=
  [wordOf (z.colLo.toNat + z.colHi.toNat * 2 ^ 4 + z.rowLo.toNat * 2 ^ 8 + z.rowHi.toNat * 2 ^ 12),
   wordOf (z.tierLo.toNat + z.tierHi.toNat * 2 ^ 4 + markAt z.wildX 8 + markAt z.wildY 9 + markAt z.wildZ 10)]

/-- The fields of one arm from its arm block, given by a reader of the copied words. -/
def ArmFields.ofWords (f : Nat → Word) : ArmFields where
  dx := f 0
  dy := f 1
  dz := f 2
  mirrorX := bitAt (f 3) 0
  mirrorY := bitAt (f 3) 1
  hx := BitVec.ofNat 12 (bitsAt (f 4) 0 12)
  hy := BitVec.ofNat 12 (bitsAt (f 5) 0 12)
  hz := BitVec.ofNat 12 (bitsAt (f 6) 0 12)
  rf := BitVec.ofNat 5 (bitsAt (f 7) 0 5)
  dec := f 8
  w := f 9
  fp := f 10
  rc := f 11
  fc := f 12
  lg := BitVec.ofNat 8 (bitsAt (f 13) 0 8)
  pr := f 14

/-- The arm block of an arm, word 15 and the bits the copy ignores as zero. -/
def ArmFields.toWords (m : ArmFields) : List Word :=
  [m.dx, m.dy, m.dz, wordOf (markAt m.mirrorX 0 + markAt m.mirrorY 1),
   wordOf m.hx.toNat, wordOf m.hy.toNat, wordOf m.hz.toNat, wordOf m.rf.toNat,
   m.dec, m.w, m.fp, m.rc, m.fc, wordOf m.lg.toNat, m.pr, 0]

/-- R165: the table that the 256 copied staging words hold. -/
def ZoneTable.ofWords (ws : List Word) : ZoneTable :=
  let f := fun k => ws.getD k 0
  { serial := f 0x00
    px := f 0x01
    py := f 0x02
    pz := f 0x03
    nz := f 0x04
    sc := f 0x05
    rdr := f 0x06
    rdf := f 0x07
    rsl := f 0x08
    refillCount := f 0x09
    refillEntries := (List.range 32).map (fun k => f (0x20 + k))
    zones := (List.range 32).map (fun z => Zone.ofWords (f (0x40 + 2 * z)) (f (0x41 + 2 * z)))
    arms := ⟨ArmFields.ofWords (fun k => f (0x80 + k)), ArmFields.ofWords (fun k => f (0x90 + k))⟩ }

/-- R181: the active-table image, 256 words in the staging layout, what the copy did not read written zero. -/
def ZoneTable.image (t : ZoneTable) : List Word :=
  [t.serial, t.px, t.py, t.pz, t.nz, t.sc, t.rdr, t.rdf, t.rsl, t.refillCount] ++ List.replicate 22 0 ++
  t.refillEntries ++ t.zones.flatMap Zone.toWords ++
  t.arms.a.toWords ++ t.arms.b.toWords ++ List.replicate 96 0

/-! ## Validation (R18, R19) -/

/-- The validation reasons of R19, in their order. -/
inductive Reason where
  | pitch
  | zoneCount
  | zoneRange
  | refillZone
  | armDec
  | armWindow
  | feedPeriod
  | feedCount
  | timing
  deriving DecidableEq, Repr

/-- R180: validation reasons 1–9 in the order of R19. -/
def Reason.code : Reason → Nat
  | .pitch => 1
  | .zoneCount => 2
  | .zoneRange => 3
  | .refillZone => 4
  | .armDec => 5
  | .armWindow => 6
  | .feedPeriod => 7
  | .feedCount => 8
  | .timing => 9

/-- A value outside lo … hi. -/
def outside (lo hi : Nat) (w : Word) : Bool := decide (w.toNat < lo) || decide (hi < w.toNat)

/-- ZONE_RANGE for one record: on an axis without wildcard, lo is greater than hi, or the tier hi is greater than 3. -/
def Zone.badRange (z : Zone) : Bool :=
  (!z.wildX && decide (z.colHi.toNat < z.colLo.toNat)) ||
  (!z.wildY && decide (z.rowHi.toNat < z.rowLo.toNat)) ||
  (!z.wildZ && (decide (z.tierHi.toNat < z.tierLo.toNat) || decide (3 < z.tierHi.toNat)))

/-- A condition that holds for either arm's fields. -/
def ZoneTable.eitherArm (t : ZoneTable) (p : ArmFields → Bool) : Bool := p t.arms.a || p t.arms.b

/-- The condition under which R19 refuses the table with this reason. -/
def ZoneTable.fails (t : ZoneTable) : Reason → Bool
  | .pitch => outside 1 4095 t.px || outside 1 4095 t.py || outside 1 4095 t.pz
  | .zoneCount => outside 1 32 t.nz
  | .zoneRange => (t.zones.take t.nz.toNat).any Zone.badRange
  | .refillZone => decide (32 < t.refillCount.toNat) || t.refillList.any (fun z => decide (t.nz.toNat ≤ z))
  | .armDec => t.eitherArm (fun m => decide (m.dec.toNat = 0))
  | .armWindow => t.eitherArm (fun m => outside 1 8 m.w)
  | .feedPeriod => t.eitherArm (fun m => outside 62 8000 m.fp)
  | .feedCount => t.eitherArm (fun m => outside 2 15 m.rc || outside 1 8 m.fc)
  | .timing => outside 1 15 t.sc || outside 1 255 t.rdr || outside 1 255 t.rdf || decide (t.rsl.toNat = 0) ||
      t.eitherArm (fun m => outside 1 15 m.pr)

/-- The order in which R19 tests the reasons. -/
def Reason.order : List Reason :=
  [.pitch, .zoneCount, .zoneRange, .refillZone, .armDec, .armWindow, .feedPeriod, .feedCount, .timing]

/-- R18: the first reason whose condition holds anywhere in the table, or none when the table is valid. -/
def ZoneTable.validate (t : ZoneTable) : Option Reason := Reason.order.find? t.fails

end Sys2Proof.Machine
end

