-- ==== Sys2Proof/Machine/State.lean ====
section
/-! DEFINITION. The state of the guard, block by block (section 1.4), as plain data, and its value after reset. -/

namespace Sys2Proof.Machine

/-! ## Port interfaces -/

/-- R186: the two stages of PGUARD. -/
inductive GuardStage where
  | history
  | present
  deriving DecidableEq, Repr

/-- One port's own registers (R182–R186). PID, the live bits of PSTAT and the read of PLOCK follow other state. -/
structure PortRegs where
  /-- R183: the eleven event flags, in their bit positions in PSTAT. -/
  flags : BitVec 11
  /-- R184: the eleven enables. -/
  mask : BitVec 11
  /-- R186: the stage of PGUARD. -/
  stage : GuardStage
  /-- R186: the history marks, in their bit positions in PGUARD. -/
  history : Word
  /-- The model's own (log 14): what the port's last read of PSTAT or PGUARD returned. -/
  readData : Word
  deriving DecidableEq, Repr

/-! ## Feed receivers -/

/-- R32. -/
inductive FeedState where
  | absent
  | acquiring
  | steady
  | lost
  deriving DecidableEq, Repr

/-- R29: the held frame. The gap is absent exactly when the first-frame mark is set. -/
structure HeldFrame where
  x : Word
  y : Word
  z : Word
  enabled : Bool
  brake : Bool
  seq : Byte
  gap : Option Nat
  deriving DecidableEq, Repr

/-- A timer: stopped, or running for the time in ns that it was last started with (log 6). -/
abbrev Timer := Option Nat

/-- R40: one feed receiver. -/
structure Feed where
  state : FeedState
  goodRun : Nat
  faultRun : Nat
  lastSeq : Option Byte
  missTimer : Timer
  graceTimer : Timer
  holding : Option HeldFrame
  good : Word
  bad : Word
  duplicate : Word
  overrun : Word
  /-- R22: 5 µs of idle has been seen since reset, so the receiver may begin a frame. -/
  idleSeen : Bool
  deriving DecidableEq, Repr

/-! ## Reach calculator -/

/-- Three coordinates or figures, one per axis. -/
structure Vec (α : Type) where
  x : α
  y : α
  z : α
  deriving DecidableEq, Repr

/-- R50, R51: one axis of a block: the coordinate range, and the index range or "no cells". -/
structure AxisRange where
  lo : Int
  hi : Int
  cells : Option (Nat × Nat)
  deriving DecidableEq, Repr

/-- R50–R52: the envelope block or the sweep block. -/
abbrev Block := Vec AxisRange

/-- R42: the reach record of one arm. -/
structure Reach where
  position : Option (Vec Int)
  velocity : Vec Int
  stopReach : Vec Nat
  stopPoint : Option (Vec Int)
  envelope : Option Block
  sweep : Option Block
  firstMark : Bool
  enabled : Bool
  brake : Bool
  deriving DecidableEq, Repr

/-! ## Claim table -/

/-- R56: one cell record. -/
structure Cell where
  owner : Option Arm
  count : Nat
  linger : Bool
  deriving DecidableEq, Repr

/-- R57: the tallies of one arm. -/
structure Tally where
  owned : Nat
  lingering : Nat
  deriving DecidableEq, Repr

/-- R69: the requests that the claim-table arbiter serves. -/
inductive Request where
  | evaluation (arm : Arm)
  | configuration
  | refillTest
  | grantPhase
  deriving DecidableEq, Repr

/-! ## Lane controller -/

/-- R84. -/
inductive Mode where
  | counted
  | openEnded
  deriving DecidableEq, Repr

/-- R78. -/
inductive SlotState where
  | free
  | waiting
  | granted
  | done
  | withdrawn
  | yielded
  deriving DecidableEq, Repr

/-- R77: the lane controller's copy of a traverse. -/
structure Traverse where
  number : Word
  mode : Mode
  budget : Nat
  remaining : Nat
  zones : List Nat
  deriving DecidableEq, Repr

/-- R77: a slot entry. -/
structure SlotEntry where
  state : SlotState
  traverse : Option Traverse
  deriving DecidableEq, Repr

/-- R77, R79: one lane's entries and record. The lane is UNSET exactly when next expected is none. -/
structure Lane where
  next : Option Word
  waitingList : List Slot
  grantedList : List Slot
  slots : Vector SlotEntry 16
  deriving DecidableEq, Repr

/-! ## Survey arbiter -/

/-- R113. -/
inductive PriorityMode where
  | fixedA
  | fixedB
  | alternate
  deriving DecidableEq, Repr

/-- R100, R103–R105, R113, R117: the survey arbiter's state. -/
structure Survey where
  timer : Timer
  /-- R101: the timer is restarted for half a period when SIP falls. -/
  restart : Bool
  period : Nat
  hold : Bool
  sip : Bool
  count : BitVec 32
  mode : PriorityMode
  favoured : Arm
  oneShot : Option Arm
  standoff : Nat
  deriving DecidableEq, Repr

/-! ## Enforcement unit -/

/-- R123: the pause cause set. -/
structure PauseSet where
  noTable : Bool
  feed : Bool
  unseated : Bool
  shortfall : Bool
  starved : Bool
  stopped : Bool
  deriving DecidableEq, Repr

/-- R124: the stop cause set. -/
structure StopSet where
  noTable : Bool
  trespass : Bool
  feedLoss : Bool
  seatConflict : Bool
  deriving DecidableEq, Repr

/-- R123, R124, R129, R133: the enforcement unit's state for one arm. -/
structure Enforcement where
  pause : PauseSet
  stop : StopSet
  seated : Bool
  runCounter : Nat
  /-- R128: a snapshot write that is made when the claim table lies between two services. -/
  snapshotOrdered : Bool
  deriving DecidableEq, Repr

/-! ## Refill interlock -/

/-- R146. -/
inductive RefillState where
  | idle
  | requested
  | granted
  deriving DecidableEq, Repr

/-- R146: the refill interlock. -/
structure Refill where
  state : RefillState
  debounced : Bool
  debounceTimer : Timer
  stalled : Bool
  stallTimer : Timer
  deriving DecidableEq, Repr

/-! ## Configuration unit -/

/-- R154: the configuration lock. -/
structure Lock where
  holder : Option Port
  pendingPort : Option Port
  lastHolder : Port
  deriving DecidableEq, Repr

/-- R166. -/
inductive InstallState where
  | none
  | pending
  | installed
  | invalid
  | expired
  | abandoned
  deriving DecidableEq, Repr

/-- R161, R178: the waive marks of a gate mask. -/
structure GateMask where
  lanesEmpty : Bool
  feedsSteady : Bool
  armsStill : Bool
  refillIdle : Bool
  noStandoff : Bool
  deriving DecidableEq, Repr

/-- R165: the pending table, with the gate mask kept with it. -/
structure PendingTable where
  table : ZoneTable
  mask : GateMask
  deriving DecidableEq, Repr

/-- R165, R166: the install status record, the pending table and the install window timer. -/
structure Install where
  state : InstallState
  reason : Option Reason
  pendingSerial : Word
  activeSerial : Word
  pendingTable : Option PendingTable
  window : Timer
  deriving DecidableEq, Repr

/-- R160: the two commands that are carried out in the configuration service. -/
inductive ServiceCommand where
  | clearStop (arm : Arm)
  | restartLane (arm : Arm)
  deriving DecidableEq, Repr

/-- R160, R162: a command accepted at the tick, with the mailbox and the post tag its result is written for. -/
structure Accepted where
  port : Port
  tag : Byte
  command : ServiceCommand
  deriving DecidableEq, Repr

/-! ## The whole state -/

/-- Everything the spec gives the guard, and the queue of commands that wait. -/
structure State where
  /-- The commands that wait, first in, first out. -/
  pending : List Instr
  /-- RESET_N is asserted (R141, R174). -/
  resetAsserted : Bool
  /-- R182: READY. -/
  ready : Bool
  /-- R147: the sampled level of RFREQ. -/
  rfreq : Bool
  /-- R171: the exchange memory. -/
  mem : Memory
  /-- The model's own (log 13): the memory as it stood when the reset under way began. -/
  memBefore : Memory
  ports : Pair PortRegs
  feeds : Pair Feed
  reach : Pair Reach
  /-- R56: the 1024 cell records. -/
  cells : List Cell
  tallies : Pair Tally
  /-- R69, R70: the requests waiting, longest first; requests that began to wait together stand in one group. -/
  waiting : List (List Request)
  lanes : Pair Lane
  survey : Survey
  enf : Pair Enforcement
  refill : Refill
  lock : Lock
  /-- R142: the fence set. -/
  fence : List Nat
  install : Install
  /-- R8: the active table. -/
  active : Option ZoneTable
  /-- R160: commands accepted at the tick and not yet carried out. -/
  accepted : List Accepted
  deriving DecidableEq, Repr

/-- No meaning of this model stops with a fault: the spec describes no behaviour that stops the part (safe; log 1). -/
inductive Fault where
  deriving DecidableEq, Repr

/-- The reasons for which a command has no meaning. -/
inductive Refusal where
  /-- Raised by an arm of `exec` whose command has no meaning yet (safe: the model stops). No arm raises it now. -/
  | notModelled (mnemonic : String)
  deriving DecidableEq, Repr

/-! ## After reset -/

/-- R182–R186: a port's registers after reset. History bits 0, 1, 4 and 5 are set. -/
def PortRegs.reset : PortRegs where
  flags := 0
  mask := 0
  stage := .history
  history := 0x0033
  readData := 0

/-- R40. -/
def Feed.reset : Feed where
  state := .absent
  goodRun := 0
  faultRun := 0
  lastSeq := none
  missTimer := none
  graceTimer := none
  holding := none
  good := 0
  bad := 0
  duplicate := 0
  overrun := 0
  idleSeen := false

/-- R55: a cleared reach record; an install swap sets the same values. -/
def Reach.cleared : Reach where
  position := none
  velocity := ⟨0, 0, 0⟩
  stopReach := ⟨0, 0, 0⟩
  stopPoint := none
  envelope := none
  sweep := none
  firstMark := true
  enabled := false
  brake := false

/-- R58: owner none, claim count 0, linger mark no. -/
def Cell.unowned : Cell := ⟨none, 0, false⟩

/-- R98: a FREE slot entry. -/
def SlotEntry.free : SlotEntry := ⟨.free, none⟩

/-- R98. -/
def Lane.reset : Lane where
  next := none
  waitingList := []
  grantedList := []
  slots := Vector.replicate 16 SlotEntry.free

/-- R121. -/
def Survey.reset : Survey where
  timer := none
  restart := false
  period := 3
  hold := false
  sip := false
  count := 0
  mode := .alternate
  favoured := .a
  oneShot := none
  standoff := 0

/-- R141. -/
def Enforcement.reset : Enforcement where
  pause := ⟨true, true, true, false, false, false⟩
  stop := ⟨true, false, false, false⟩
  seated := false
  runCounter := 0
  snapshotOrdered := false

/-- R146. -/
def Refill.reset : Refill := ⟨.idle, false, none, false, none⟩

/-- R154. -/
def Lock.reset : Lock := ⟨none, none, .b⟩

/-- R166. -/
def Install.reset : Install := ⟨.none, none, 0, 0, none, none⟩

/-- R173, R176, R177: the memory after power-on: the identity and status words, the survey record with period code 3
and mode ALTERNATE, and both snapshots with pause causes NO_TABLE, FEED, UNSEATED and stop cause NO_TABLE. -/
def resetMemory : Memory :=
  [(0x000, 0x2410), (0x001, 1), (0x004, 0x00F0), (0x005, 3), (0x006, 2),
   (0x082, 7), (0x083, 1), (0x0A2, 7), (0x0A3, 1)]

/-- The machine right after power-on: every piece of state at its initial value, the initial contents written, and
READY still 0 until READY_RISE (R173, log 3). -/
def State.reset : State where
  pending := []
  resetAsserted := false
  ready := false
  rfreq := false
  mem := resetMemory
  memBefore := []
  ports := ⟨PortRegs.reset, PortRegs.reset⟩
  feeds := ⟨Feed.reset, Feed.reset⟩
  reach := ⟨Reach.cleared, Reach.cleared⟩
  cells := List.replicate 1024 Cell.unowned
  tallies := ⟨⟨0, 0⟩, ⟨0, 0⟩⟩
  waiting := []
  lanes := ⟨Lane.reset, Lane.reset⟩
  survey := Survey.reset
  enf := ⟨Enforcement.reset, Enforcement.reset⟩
  refill := Refill.reset
  lock := Lock.reset
  fence := []
  install := Install.reset
  active := none
  accepted := []

end Sys2Proof.Machine
end

