-- ==== Sys2Proof/Machine/Update.lean ====
section
/-! DEFINITION. The plain updates of State: one setter for each field, and the change of one side's record. Their
lemmas, one per field per update, stand in Laws/State.lean. -/

namespace Sys2Proof.Machine

/-- Replace `pending`. -/
def State.setPending (s : State) (v : List Instr) : State := { s with pending := v }

/-- Replace `resetAsserted`. -/
def State.setResetAsserted (s : State) (v : Bool) : State := { s with resetAsserted := v }

/-- Replace `ready`. -/
def State.setReady (s : State) (v : Bool) : State := { s with ready := v }

/-- Replace `rfreq`. -/
def State.setRfreq (s : State) (v : Bool) : State := { s with rfreq := v }

/-- Replace `mem`. -/
def State.setMem (s : State) (v : Memory) : State := { s with mem := v }

/-- Replace `memBefore`. -/
def State.setMemBefore (s : State) (v : Memory) : State := { s with memBefore := v }

/-- Replace `ports`. -/
def State.setPorts (s : State) (v : Pair PortRegs) : State := { s with ports := v }

/-- Replace `feeds`. -/
def State.setFeeds (s : State) (v : Pair Feed) : State := { s with feeds := v }

/-- Replace `reach`. -/
def State.setReach (s : State) (v : Pair Reach) : State := { s with reach := v }

/-- Replace `cells`. -/
def State.setCells (s : State) (v : List Cell) : State := { s with cells := v }

/-- Replace `tallies`. -/
def State.setTallies (s : State) (v : Pair Tally) : State := { s with tallies := v }

/-- Replace `waiting`. -/
def State.setWaiting (s : State) (v : List (List Request)) : State := { s with waiting := v }

/-- Replace `lanes`. -/
def State.setLanes (s : State) (v : Pair Lane) : State := { s with lanes := v }

/-- Replace `survey`. -/
def State.setSurvey (s : State) (v : Survey) : State := { s with survey := v }

/-- Replace `enf`. -/
def State.setEnf (s : State) (v : Pair Enforcement) : State := { s with enf := v }

/-- Replace `refill`. -/
def State.setRefill (s : State) (v : Refill) : State := { s with refill := v }

/-- Replace `lock`. -/
def State.setLock (s : State) (v : Lock) : State := { s with lock := v }

/-- Replace `fence`. -/
def State.setFence (s : State) (v : List Nat) : State := { s with fence := v }

/-- Replace `install`. -/
def State.setInstall (s : State) (v : Install) : State := { s with install := v }

/-- Replace `active`. -/
def State.setActive (s : State) (v : Option ZoneTable) : State := { s with active := v }

/-- Replace `accepted`. -/
def State.setAccepted (s : State) (v : List Accepted) : State := { s with accepted := v }

/-- Change one side's record in `ports`. -/
def State.modPort (s : State) (x : Side) (g : PortRegs → PortRegs) : State := s.setPorts (s.ports.modify x g)

/-- Change one side's record in `feeds`. -/
def State.modFeed (s : State) (x : Side) (g : Feed → Feed) : State := s.setFeeds (s.feeds.modify x g)

/-- Change one side's record in `reach`. -/
def State.modReach (s : State) (x : Side) (g : Reach → Reach) : State := s.setReach (s.reach.modify x g)

/-- Change one side's record in `lanes`. -/
def State.modLane (s : State) (x : Side) (g : Lane → Lane) : State := s.setLanes (s.lanes.modify x g)

/-- Change one side's record in `enf`. -/
def State.modEnf (s : State) (x : Side) (g : Enforcement → Enforcement) : State := s.setEnf (s.enf.modify x g)

/-- Write one word of exchange memory (R171). -/
def State.writeWord (s : State) (a : Nat) (v : Word) : State := s.setMem (s.mem.write a v)

/-- Write words at successive offsets. -/
def State.writeWords (s : State) (a : Nat) (vs : List Word) : State := s.setMem (s.mem.writeFrom a vs)

/-- The word of exchange memory at an offset. -/
def State.word (s : State) (a : Nat) : Word := s.mem.read a

end Sys2Proof.Machine
end

