-- ==== Sys2Proof/Machine/Claims.lean ====
section
/-! DEFINITION. The claim table's operations and queries (R56–R68), each over the cell records. -/

namespace Sys2Proof.Machine

/-! ## Passing over the records -/

/-- Change every record by a rule that sees its index. -/
def mapCells (f : Nat → Cell → Cell) : Nat → List Cell → List Cell
  | _, [] => []
  | i, c :: cs => f i c :: mapCells f (i + 1) cs

/-- Whether some record meets a condition. -/
def anyCell (p : Nat → Cell → Bool) : Nat → List Cell → Bool
  | _, [] => false
  | i, c :: cs => p i c || anyCell p (i + 1) cs

/-- How many records meet a condition. -/
def countCells (p : Nat → Cell → Bool) : Nat → List Cell → Nat
  | _, [] => 0
  | i, c :: cs => (if p i c then 1 else 0) + countCells p (i + 1) cs

/-- The record of a cell. -/
def State.cell (s : State) (i : Nat) : Cell := s.cells.getD i Cell.unowned

/-- R56: the cell belongs to the arm. -/
def Cell.ownedBy (c : Cell) (arm : Arm) : Bool := decide (c.owner = some arm)

/-- R56: the cell is lingering for the arm. -/
def Cell.lingersFor (c : Cell) (arm : Arm) : Bool := c.ownedBy arm && c.linger

/-- R57: the tallies of an arm as the records give them. -/
def tallyOf (cs : List Cell) (arm : Arm) : Tally where
  owned := countCells (fun _ c => c.ownedBy arm) 0 cs
  lingering := countCells (fun _ c => c.lingersFor arm) 0 cs

/-- R57: "each operation brings both tallies up to date before the claim table is handed on". -/
def State.putCells (s : State) (cs : List Cell) : State :=
  (s.setCells cs).setTallies ⟨tallyOf cs .a, tallyOf cs .b⟩

/-! ## Blocks as cells (R52) -/

/-- The index lies in the axis's index range. -/
def AxisRange.has (r : AxisRange) (i : Nat) : Bool :=
  match r.cells with
  | none => false
  | some (lo, hi) => within lo hi i

/-- R52: the cell is one of the block's; a block that is none holds no cells (R55). -/
def blockHas (b : Option Block) (i : Nat) : Bool :=
  match b with
  | none => false
  | some v => v.x.has (columnOf i) && v.y.has (rowOf i) && v.z.has (tierOf i)

/-! ## Claim, release, linger sweep, seize -/

/-- R59: the owner becomes the arm, the count rises by 1, the linger mark is cleared. -/
def claimCell (arm : Arm) (inSet : Nat → Bool) (i : Nat) (c : Cell) : Cell :=
  if inSet i then ⟨some arm, c.count + 1, false⟩ else c

/-- R59: claim a cell set for an arm. -/
def State.claim (s : State) (arm : Arm) (inSet : Nat → Bool) : State :=
  s.putCells (mapCells (claimCell arm inSet) 0 s.cells)

/-- R61, R62: the count falls by 1, and a cell whose count reaches 0 is freed or left lingering. A cell that is not
held by the arm, which R60 excludes, is left as it is (log 22). -/
def releaseCell (arm : Arm) (inSet frees : Nat → Bool) (i : Nat) (c : Cell) : Cell :=
  if inSet i && c.ownedBy arm && decide (0 < c.count) then
    if 1 < c.count then { c with count := c.count - 1 }
    else if frees i then Cell.unowned
    else { c with count := 0, linger := true }
  else c

/-- R62: whether a release frees a cell whose count it brings to 0: the arm's feed is STEADY, its record's first-frame
mark is no, and the cell is not among the cells of the record's sweep block. -/
def State.freesOnRelease (s : State) (arm : Arm) (i : Nat) : Bool :=
  decide ((s.feeds.get arm).state = .steady) && !(s.reach.get arm).firstMark && !blockHas (s.reach.get arm).sweep i

/-- R61, R62: release a cell set for an arm. -/
def State.release (s : State) (arm : Arm) (inSet : Nat → Bool) : State :=
  s.putCells (mapCells (releaseCell arm inSet (s.freesOnRelease arm)) 0 s.cells)

/-- R64: a lingering cell of the arm that is not among the sweep block's is freed. -/
def sweepCell (arm : Arm) (sweep : Option Block) (i : Nat) (c : Cell) : Cell :=
  if c.lingersFor arm && !blockHas sweep i then Cell.unowned else c

/-- R64: the linger sweep against the arm's sweep block. -/
def State.lingerSweep (s : State) (arm : Arm) : State :=
  s.putCells (mapCells (sweepCell arm (s.reach.get arm).sweep) 0 s.cells)

/-- R65: an unowned cell of the block that is not excluded becomes the arm's, lingering. -/
def seizeCell (arm : Arm) (block : Option Block) (excluded : Nat → Bool) (i : Nat) (c : Cell) : Cell :=
  if blockHas block i && !excluded i && decide (c.owner = none) then ⟨some arm, 0, true⟩ else c

/-- R65: seize the envelope block of the arm's reach record. -/
def State.seize (s : State) (arm : Arm) (excluded : Nat → Bool) : State :=
  s.putCells (mapCells (seizeCell arm (s.reach.get arm).envelope excluded) 0 s.cells)

/-! ## Queries -/

/-- R65: whether a block holds any cell owned by an arm. -/
def State.blockMeets (s : State) (b : Option Block) (arm : Arm) : Bool :=
  anyCell (fun i c => blockHas b i && c.ownedBy arm) 0 s.cells

/-- Whether a block holds any cell of a set. -/
def State.blockMeetsSet (s : State) (b : Option Block) (inSet : Nat → Bool) : Bool :=
  anyCell (fun i _ => blockHas b i && inSet i) 0 s.cells

/-- R66: every cell of the block is owned by the arm. -/
def State.covered (s : State) (b : Option Block) (arm : Arm) : Bool :=
  !anyCell (fun i c => blockHas b i && !c.ownedBy arm) 0 s.cells

/-- R67: how many cells of a set are owned by an arm. -/
def State.ownedIn (s : State) (arm : Arm) (inSet : Nat → Bool) : Nat :=
  countCells (fun i c => inSet i && c.ownedBy arm) 0 s.cells

/-- R68: the first listed zone that contains a cell meeting a condition, or none. -/
def State.zoneTest (s : State) (t : ZoneTable) (zs : List Nat) (p : Nat → Cell → Bool) : Option Nat :=
  zs.find? (fun z => anyCell (fun i c => t.zoneHas z i && p i c) 0 s.cells)

/-- R111: every cell of a set is unowned or owned by the arm. -/
def State.claimable (s : State) (arm : Arm) (inSet : Nat → Bool) : Bool :=
  !anyCell (fun i c => inSet i && c.ownedBy arm.other) 0 s.cells

/-! ## Closed cells (R6) -/

/-- The cell lies in a zone of the fence set. -/
def State.fencedCell (s : State) (i : Nat) : Bool :=
  match s.active with
  | none => false
  | some t => t.setHas s.fence i

/-- The cell lies in the active table's refill set. -/
def State.refillCell (s : State) (i : Nat) : Bool :=
  match s.active with
  | none => false
  | some t => t.refillHas i

/-- R146: the refill fence stands in REQUESTED and GRANTED. -/
def State.refillFence (s : State) : Bool := decide (s.refill.state ≠ .idle)

/-- R6, R144: the cell is closed. -/
def State.closedCell (s : State) (i : Nat) : Bool :=
  s.fencedCell i || (s.refillFence && s.refillCell i)

end Sys2Proof.Machine
end

