-- ==== Sys2Proof/Machine/Flags.lean ====
section
/-! DEFINITION. The port event flags, the attention lines, PSTAT and the two-stage PGUARD report (R183, R184, R186). -/

namespace Sys2Proof.Machine

/-- R183: the eleven event flags. -/
inductive Flag where
  | survey
  | lane
  | mailbox
  | pause
  | stop
  | feed
  | standoff
  | refill
  | install
  | lock
  | misuse
  deriving DecidableEq, Repr

/-- R183: the bit of each flag in PSTAT. -/
def Flag.bit : Flag → Nat
  | .survey => 0
  | .lane => 1
  | .mailbox => 2
  | .pause => 3
  | .stop => 4
  | .feed => 5
  | .standoff => 6
  | .refill => 7
  | .install => 8
  | .lock => 9
  | .misuse => 10

/-- R183: "a flag set while already set stays set". -/
def PortRegs.raised (r : PortRegs) (f : Flag) : PortRegs :=
  { r with flags := r.flags ||| BitVec.ofNat 11 (2 ^ f.bit) }

/-- Set a flag in PSTAT of one port, whatever its enable. -/
def State.raise (s : State) (f : Flag) (p : Port) : State := s.modPort p (fun r => r.raised f)

/-- Set a flag in PSTAT of both ports. -/
def State.raiseBoth (s : State) (f : Flag) : State := (s.raise f .a).raise f .b

/-- Whether a flag is set in PSTAT of a port. -/
def State.flagSet (s : State) (f : Flag) (p : Port) : Bool := (s.ports.get p).flags.getLsbD f.bit

/-- R183: what PSTAT shows: the flags, SIP live in bit 14 and READY live in bit 15. -/
def State.pstat (s : State) (p : Port) : Word :=
  wordOf ((s.ports.get p).flags.toNat + markAt s.survey.sip 14 + markAt s.ready 15)

/-- R184: the attention line is asserted while at least one flag is set whose enable is set. -/
def State.attention (s : State) (p : Port) : Bool :=
  decide ((s.ports.get p).flags &&& (s.ports.get p).mask ≠ 0)

/-! ## The lines that follow the cause sets (R125) -/

/-- The pause cause set holds anything. -/
def PauseSet.held (c : PauseSet) : Bool :=
  c.noTable || c.feed || c.unseated || c.shortfall || c.starved || c.stopped

/-- The stop cause set holds anything. -/
def StopSet.held (c : StopSet) : Bool := c.noTable || c.trespass || c.feedLoss || c.seatConflict

/-- R125: PAUSEA_N or PAUSEB_N is asserted. -/
def State.pauseLine (s : State) (arm : Arm) : Bool := (s.enf.get arm).pause.held

/-- R125: STOPA_N or STOPB_N is asserted. -/
def State.stopLine (s : State) (arm : Arm) : Bool := (s.enf.get arm).stop.held

/-- R186: the six conditions in their bits of PGUARD. -/
def State.guardConditions (s : State) : Word :=
  wordOf (markAt (s.stopLine .a) 0 + markAt (s.pauseLine .a) 1 + markAt (s.enf.a.stop.trespass) 2 +
    markAt (s.stopLine .b) 4 + markAt (s.pauseLine .b) 5 + markAt (s.enf.b.stop.trespass) 6)

/-- R186: a change of any condition moves the stage to history, and a condition that has come to hold sets its mark;
one that has ceased keeps its mark. -/
def PortRegs.noted (r : PortRegs) (now : Word) : PortRegs :=
  { r with stage := .history, history := r.history ||| now }

/-- R186 on both ports, for a change from the conditions `before` to those of the state. -/
def State.noteConditions (s : State) (before : Word) : State :=
  if s.guardConditions = before then s
  else (s.modPort .a (fun r => r.noted s.guardConditions)).modPort .b (fun r => r.noted s.guardConditions)

/-- R186: what a PGUARD read returns. -/
def State.pguard (s : State) (p : Port) : Word :=
  match (s.ports.get p).stage with
  | .history => (s.ports.get p).history ||| 0x8000
  | .present => s.guardConditions

/-- R186: the read in the history stage sets each mark to the present value and moves to present. -/
def PortRegs.afterGuardRead (r : PortRegs) (value now : Word) : PortRegs :=
  match r.stage with
  | .history => { r with readData := value, stage := .present, history := now }
  | .present => { r with readData := value }

end Sys2Proof.Machine
end

