-- ==== Sys2Proof/Machine/Operands.lean ====
section
/-! DEFINITION. The codes and record layouts of the exchange memory (R176–R181). -/

namespace Sys2Proof.Machine

/-! ## Codes (R180) -/

/-- R180: slot states. -/
def SlotState.code : SlotState → Nat
  | .free => 0
  | .waiting => 1
  | .granted => 2
  | .done => 3
  | .withdrawn => 4
  | .yielded => 5

/-- R76: slot results. -/
inductive SlotResult where
  | none
  | taken
  | refused
  | tableChanged
  | restarted
  deriving DecidableEq, Repr

/-- R180: slot results. -/
def SlotResult.code : SlotResult → Nat
  | .none => 0
  | .taken => 1
  | .refused => 2
  | .tableChanged => 3
  | .restarted => 4

/-- R76: slot refusal reasons. -/
inductive SlotReason where
  | slotBusy
  | wrongArm
  | noTable
  | badMode
  | badZone
  | duplicate
  | stale
  | far
  | notGranted
  | noTraverse
  | badCommand
  deriving DecidableEq, Repr

/-- R180: slot reasons 1–11. -/
def SlotReason.code : SlotReason → Nat
  | .slotBusy => 1
  | .wrongArm => 2
  | .noTable => 3
  | .badMode => 4
  | .badZone => 5
  | .duplicate => 6
  | .stale => 7
  | .far => 8
  | .notGranted => 9
  | .noTraverse => 10
  | .badCommand => 11

/-- R76, R106, R110: blocker kinds. -/
inductive Blocker where
  | none
  | early
  | unseated
  | window
  | fence
  | refill
  | otherArm
  | contest
  deriving DecidableEq, Repr

/-- R180: blocker kinds. -/
def Blocker.code : Blocker → Nat
  | .none => 0
  | .early => 1
  | .unseated => 2
  | .window => 3
  | .fence => 4
  | .refill => 5
  | .otherArm => 6
  | .contest => 7

/-- R160, R161: mailbox results. -/
inductive MailResult where
  | none
  | done
  | accepted
  | noLock
  | notOwn
  | badArg
  | busy
  | stopHeld
  | badCommand
  deriving DecidableEq, Repr

/-- R180: mailbox results. -/
def MailResult.code : MailResult → Nat
  | .none => 0
  | .done => 1
  | .accepted => 2
  | .noLock => 3
  | .notOwn => 4
  | .badArg => 5
  | .busy => 6
  | .stopHeld => 7
  | .badCommand => 8

/-- R137: the reasons of STOP_HELD. -/
inductive HeldReason where
  | feed
  | otherArm
  | fence
  | refill
  deriving DecidableEq, Repr

/-- R180: STOP_HELD reasons. -/
def HeldReason.code : HeldReason → Nat
  | .feed => 1
  | .otherArm => 2
  | .fence => 3
  | .refill => 4

/-- R180: priority modes. -/
def PriorityMode.code : PriorityMode → Nat
  | .fixedA => 0
  | .fixedB => 1
  | .alternate => 2

/-- R180: a priority mode code; any other value is BAD_ARG (R161). -/
def PriorityMode.ofCode : Nat → Option PriorityMode
  | 0 => some .fixedA
  | 1 => some .fixedB
  | 2 => some .alternate
  | _ => none

/-- R180: none, A, B: the one-shot; also the lock holder and the pending port. -/
def sideCode : Option Side → Nat
  | none => 0
  | some .a => 1
  | some .b => 2

/-- R161: a one-shot code; any other value is BAD_ARG. -/
def oneShotOfCode : Nat → Option (Option Arm)
  | 0 => some none
  | 1 => some (some .a)
  | 2 => some (some .b)
  | _ => none

/-- R178: 0 arm or lane A, 1 arm or lane B; any other value is BAD_ARG (R161). -/
def armOfCode : Nat → Option Arm
  | 0 => some .a
  | 1 => some .b
  | _ => none

/-- R180: install states. -/
def InstallState.code : InstallState → Nat
  | .none => 0
  | .pending => 1
  | .installed => 2
  | .invalid => 3
  | .expired => 4
  | .abandoned => 5

/-- R180: feed states. -/
def FeedState.code : FeedState → Nat
  | .absent => 0
  | .acquiring => 1
  | .steady => 2
  | .lost => 3

/-- R180: refill states. -/
def RefillState.code : RefillState → Nat
  | .idle => 0
  | .requested => 1
  | .granted => 2

/-- R179: the arm tag codes of a slot. -/
def armTagCode : Arm → Nat
  | .a => 1
  | .b => 2

/-- R179: mode codes; any other code is refused with BAD_MODE. -/
def Mode.ofCode : Nat → Option Mode
  | 1 => some .counted
  | 2 => some .openEnded
  | _ => none

/-- R177: the bits of the pause causes. -/
def PauseSet.bits (c : PauseSet) : Nat :=
  markAt c.noTable 0 + markAt c.feed 1 + markAt c.unseated 2 + markAt c.shortfall 3 + markAt c.starved 4 + markAt c.stopped 5

/-- R177: the bits of the stop causes. -/
def StopSet.bits (c : StopSet) : Nat :=
  markAt c.noTable 0 + markAt c.trespass 1 + markAt c.feedLoss 2 + markAt c.seatConflict 3

/-! ## A slot's request half (R75, R179) -/

/-- R80, R179: the slot commands. -/
inductive SlotCommand where
  | post
  | finish
  | withdraw
  | other
  deriving DecidableEq, Repr

/-- R75: what the request half of a slot holds, from its eight words. -/
structure SlotRequest where
  command : SlotCommand
  armTag : Nat
  mode : Option Mode
  number : Word
  budget : Nat
  zoneCount : Nat
  zones : List Nat
  deriving DecidableEq, Repr

/-- R179: command codes; any other code is refused with BAD_COMMAND. -/
def SlotCommand.ofCode : Nat → SlotCommand
  | 1 => .post
  | 2 => .finish
  | 3 => .withdraw
  | _ => .other

/-- R179: the six zone numbers, two per word, low byte first. -/
def zoneBytes (w5 w6 w7 : Word) : List Nat :=
  [bitsAt w5 0 8, bitsAt w5 8 8, bitsAt w6 0 8, bitsAt w6 8 8, bitsAt w7 0 8, bitsAt w7 8 8]

/-- R75, R179: the request from the eight words of the request half. A frame budget of 0 stands for 65536, and entries
beyond the zone count are ignored. -/
def SlotRequest.ofWords (ws : List Word) : SlotRequest where
  command := SlotCommand.ofCode (bitsAt (ws.getD 1 0) 0 8)
  armTag := bitsAt (ws.getD 1 0) 8 4
  mode := Mode.ofCode (bitsAt (ws.getD 1 0) 12 4)
  number := ws.getD 2 0
  budget := if (ws.getD 3 0).toNat = 0 then 65536 else (ws.getD 3 0).toNat
  zoneCount := bitsAt (ws.getD 4 0) 0 4
  zones := (zoneBytes (ws.getD 5 0) (ws.getD 6 0) (ws.getD 7 0)).take (bitsAt (ws.getD 4 0) 0 4)

/-- R179: word 11 of a slot: the blocker zone, with bit 5 when one is named. -/
def blockerZoneWord : Option Nat → Word
  | none => 0
  | some z => wordOf (z % 32 + 32)

/-! ## A mailbox's request half (R159, R178) -/

/-- R161: a mailbox command with its arguments as read. -/
inductive MailCommand where
  | install (mask : GateMask) (window : Nat)
  | abandon
  | fence (count : Nat) (zones : List Nat)
  | priority (mode oneShot : Nat)
  | hold (value : Nat)
  | period (code : Nat)
  | clearStop (arm : Nat)
  | restartLane (lane : Nat)
  | unknown
  deriving DecidableEq, Repr

/-- R178: the gate mask's five waive marks; the mask word's other bits are ignored (R161). -/
def GateMask.ofWord (w : Word) : GateMask where
  lanesEmpty := bitAt w 0
  feedsSteady := bitAt w 1
  armsStill := bitAt w 2
  refillIdle := bitAt w 3
  noStandoff := bitAt w 4

/-- R178: FENCE zone numbers, three per word in bits 0–4, 5–9 and 10–14, from word 3 upward. -/
def fenceZones (ws : List Word) : List Nat :=
  ((ws.drop 3).take 11).flatMap (fun w => [bitsAt w 0 5, bitsAt w 5 5, bitsAt w 10 5])

/-- R178, R180: the command from the sixteen words of the request half. -/
def MailCommand.ofWords (ws : List Word) : MailCommand :=
  let arg := fun k => (ws.getD k 0).toNat
  match arg 1 with
  | 1 => .install (GateMask.ofWord (ws.getD 2 0)) (arg 3)
  | 2 => .abandon
  | 3 => .fence (arg 2) ((fenceZones ws).take (arg 2))
  | 4 => .priority (arg 2) (arg 3)
  | 5 => .hold (arg 2)
  | 6 => .period (arg 2)
  | 7 => .clearStop (arg 2)
  | 8 => .restartLane (arg 2)
  | _ => .unknown

end Sys2Proof.Machine
end

