-- ==== Sys2Proof/Machine/Ops.lean ====
section
/-! DEFINITION. The operations that several blocks share: header words, cause sets and lines, snapshots, the arbiter's
requests, timers, and a port's write to exchange memory. -/

namespace Sys2Proof.Machine

/-! ## Timers (log 6) -/

/-- A time in µs, in ns. -/
def us (n : Nat) : Nat := n * 1000

/-- A time in ms, in ns. -/
def ms (n : Nat) : Nat := n * 1000000

/-- R100: half the survey period of a code: 31.25 µs doubled with each code. -/
def halfPeriod (code : Nat) : Nat := 31250 * 2 ^ code

/-- R100: the survey period of a code. -/
def fullPeriod (code : Nat) : Nat := 62500 * 2 ^ code

/-- R36: 1.5 × FP rounded down to whole µs. -/
def missTime (m : ArmFields) : Nat := us (m.fp.toNat * 3 / 2)

/-! ## Header words (R176) -/

/-- R146: RFGNT is asserted while the refill state is GRANTED. -/
def State.rfgnt (s : State) : Bool := decide (s.refill.state = .granted)

/-- R176: the status word. -/
def State.statusWord (s : State) : Word :=
  wordOf (markAt s.survey.sip 0 + markAt s.active.isSome 1 +
    markAt (s.pauseLine .a) 4 + markAt (s.stopLine .a) 5 + markAt (s.pauseLine .b) 6 + markAt (s.stopLine .b) 7 +
    markAt s.rfgnt 8)

/-- R176: write the status word, "at each change of any of these". -/
def State.writeStatus (s : State) : State := s.writeWord 0x004 s.statusWord

/-- R146, R176: write the refill record. -/
def State.writeRefillRecord (s : State) : State :=
  s.writeWord 0x00B (wordOf (s.refill.state.code + markAt s.refill.stalled 4 + markAt s.refill.debounced 5 +
    markAt (match s.active with | none => false | some t => t.hasRefillSet) 6))

/-- R154, R176: write the lock mirror. -/
def State.writeLockMirror (s : State) : State :=
  s.writeWord 0x00C (wordOf (sideCode s.lock.holder + sideCode s.lock.pendingPort * 2 ^ 4))

/-- R166, R176: write the install status record. -/
def State.writeInstallRecord (s : State) : State :=
  s.writeWords 0x008 [wordOf (s.install.state.code + (match s.install.reason with | none => 0 | some r => r.code) * 2 ^ 8),
    s.install.pendingSerial, s.install.activeSerial]

/-- R166: an event of the install state's table: the record is written and INSTALL is flagged on both ports. -/
def State.changeInstall (s : State) (i : Install) : State :=
  ((s.setInstall i).writeInstallRecord).raiseBoth .install

/-! ## Cause sets (R123–R125) -/

/-- R125: a cause is in the new set that was not in the old one. -/
def StopSet.gains (new old : StopSet) : Bool :=
  (new.noTable && !old.noTable) || (new.trespass && !old.trespass) ||
  (new.feedLoss && !old.feedLoss) || (new.seatConflict && !old.seatConflict)

/-- Set a flag when a condition holds. -/
def State.raiseIf (s : State) (b : Bool) (f : Flag) (p : Port) : State := if b then s.raise f p else s

/-- R125, R176, R186: replace both cause sets of an arm at one moment; the lines follow at once, PAUSE is flagged when
the pause line changes level, STOP when a stop cause is added, and PGUARD and the status word see the change. -/
def State.setCauses (s : State) (arm : Arm) (p : PauseSet) (q : StopSet) : State :=
  let e := s.enf.get arm
  let s1 := s.modEnf arm (fun e => { e with pause := p, stop := q })
  let s2 := s1.noteConditions s.guardConditions
  let s3 := s2.raiseIf (p.held != e.pause.held) .pause arm
  let s4 := s3.raiseIf (q.gains e.stop) .stop arm
  s4.writeStatus

/-- R128: order a snapshot write, made when the claim table lies between two services. -/
def State.orderSnapshot (s : State) (arm : Arm) : State :=
  s.modEnf arm (fun e => { e with snapshotOrdered := true })

/-- R136: FEED_LOSS and STOPPED are put in at once, and a snapshot write is ordered. -/
def State.addFeedLoss (s : State) (arm : Arm) : State :=
  let e := s.enf.get arm
  (s.setCauses arm { e.pause with stopped := true } { e.stop with feedLoss := true }).orderSnapshot arm

/-! ## Snapshots (R127, R128, R177) -/

/-- R79, R91: the slot of the current traverse. -/
def State.currentSlot (s : State) (arm : Arm) : Option Slot := (s.lanes.get arm).grantedList.head?

/-- The slot entry of a lane. -/
def State.entry (s : State) (arm : Arm) (slot : Slot) : SlotEntry :=
  (s.lanes.get arm).slots.get slot

/-- R91: the current traverse. -/
def State.current (s : State) (arm : Arm) : Option Traverse :=
  match s.currentSlot arm with
  | none => none
  | some slot => (s.entry arm slot).traverse

/-- R127: raise the snapshot count by 1. -/
def State.raiseSnapshotCount (s : State) (arm : Arm) : State :=
  s.writeWord (snapshotBase arm) (s.word (snapshotBase arm) + 1)

/-- R177: words 2 and 3: the cause sets as they stand. -/
def State.causeWords (s : State) (arm : Arm) : List Word :=
  [wordOf (s.enf.get arm).pause.bits, wordOf (s.enf.get arm).stop.bits]

/-- R177: words 16–21: tallies and counts. -/
def State.tallyWords (s : State) (arm : Arm) : List Word :=
  let f := s.feeds.get arm
  [wordOf (s.tallies.get arm).owned, wordOf (s.tallies.get arm).lingering, f.good, f.bad, f.duplicate, f.overrun]

/-- R177: bits 1 and 8–15 of word 15. -/
def lastSeqBits : Option Byte → Nat
  | none => 0
  | some q => 2 + q.toNat * 2 ^ 8

/-- R177: words 13 and 14 and bit 0 of word 15: the current traverse. -/
def State.traverseWords (s : State) (arm : Arm) : Word × Word × Nat :=
  match s.current arm with
  | none => (0, 0, 0)
  | some tr => (tr.number, wordOf tr.remaining, 1)

/-- R127, R177: words 1–21 as stage 7 writes them. -/
def State.snapshotWords (s : State) (arm : Arm) : List Word :=
  let f := s.feeds.get arm
  let r := s.reach.get arm
  let p : Vec Int := match r.position with | none => ⟨0, 0, 0⟩ | some c => c
  let cur := s.traverseWords arm
  [wordOf (f.state.code + markAt (s.enf.get arm).seated 4 + markAt r.enabled 8 + markAt r.brake 9)] ++
  s.causeWords arm ++
  [wordOfInt p.x, wordOfInt p.y, wordOfInt p.z,
   wordOfInt r.velocity.x, wordOfInt r.velocity.y, wordOfInt r.velocity.z,
   wordOf r.stopReach.x, wordOf r.stopReach.y, wordOf r.stopReach.z,
   cur.1, cur.2.1, wordOf (cur.2.2 + lastSeqBits f.lastSeq)] ++
  s.tallyWords arm

/-- R127: stage 7 of a frame evaluation. -/
def State.writeSnapshot (s : State) (arm : Arm) : State :=
  let s1 := s.raiseSnapshotCount arm
  (s1.writeWords (snapshotBase arm + 1) (s1.snapshotWords arm)).raiseSnapshotCount arm

/-- R128: words 13–15 as a write for an event leaves them: the last good sequence as it stands (log 11), the current
traverse as the last stage 7 wrote it, or written as none for a swap. -/
def State.eventTraverseWords (s : State) (arm : Arm) (noTraverse : Bool) : List Word :=
  let b := snapshotBase arm
  let q := lastSeqBits (s.feeds.get arm).lastSeq
  if noTraverse then [0, 0, wordOf q]
  else [s.word (b + 13), s.word (b + 14), wordOf (bitsAt (s.word (b + 15)) 0 1 + q)]

/-- R128: a snapshot write for an event: feed state, seated mark, cause sets, tallies and counts; the rest as before. -/
def State.writeEventSnapshot (s : State) (arm : Arm) (noTraverse : Bool) : State :=
  let b := snapshotBase arm
  let s1 := s.raiseSnapshotCount arm
  let w1 := putBits (putBits (s1.word (b + 1)) 0 2 (s1.feeds.get arm).state.code) 4 1
    (markAt (s1.enf.get arm).seated 0)
  let s2 := s1.writeWords (b + 1) (w1 :: s1.causeWords arm)
  let s3 := s2.writeWords (b + 13) (s2.eventTraverseWords arm noTraverse ++ s2.tallyWords arm)
  s3.raiseSnapshotCount arm

/-- R128, R72: make an arm's ordered snapshot write. -/
def State.flushSnapshot (s : State) (arm : Arm) : State :=
  if (s.enf.get arm).snapshotOrdered then
    (s.modEnf arm (fun e => { e with snapshotOrdered := false })).writeEventSnapshot arm false
  else s

/-! ## The claim-table arbiter (R69, R70) -/

/-- Requests that begin to wait together. -/
def State.requestTogether (s : State) (rs : List Request) : State :=
  if rs.isEmpty then s else s.setWaiting (s.waiting ++ [rs])

/-- R70: the arbiter would serve this request now: none has waited longer. -/
def State.servable (s : State) (r : Request) : Bool :=
  match s.waiting with
  | [] => false
  | g :: _ => g.contains r

/-- Take a request out of those waiting. -/
def State.dropRequest (s : State) (r : Request) : State :=
  s.setWaiting ((s.waiting.map (fun g => g.filter (fun q => q != r))).filter (fun g => !g.isEmpty))

/-- R69, R70, R128: serve a request if the arbiter would serve it now. The ordered snapshot writes are made before the
service begins (R128). A service that was not requested, or that another goes before, does not take place (log 1). -/
def State.serve (s : State) (r : Request) (body : State → State) : State :=
  if s.servable r then body (((s.dropRequest r).flushSnapshot .a).flushSnapshot .b) else s

/-! ## A port's write to exchange memory (R171, R172) -/

/-- R171, R158: whether the port may write the word at this moment. -/
def State.mayWrite (s : State) (p : Port) (a : Nat) : Bool :=
  inRequestHalf p a || (inStaging a && decide (s.lock.holder = some p))

/-- R172: the write is made, or discarded with MISUSE; while READY is 0 it is discarded without any flag. -/
def State.portWrite (s : State) (p : Port) (a : Nat) (v : Word) : State :=
  if !s.ready then s
  else if s.mayWrite p a then s.writeWord a v
  else s.raise .misuse p

end Sys2Proof.Machine
end

