-- ==== Sys2Proof/Machine/Feeds.lean ====
section
/-! DEFINITION. The feed receivers: judging a completed frame, the holding slot, the feed states and their timers
(R21–R41), with the commands FRAME_COMPLETE, MISS_TIMER_EXPIRY, LOSS_GRACE_EXPIRY, STATE_SNAPSHOT_WRITE and
FEED_IDLE_SEEN. -/

namespace Sys2Proof.Machine

/-! ## The position frame (R21–R24) -/

/-- R21: the bytes of the frame: the 8 data bits of every character; the stop bit is not tested. -/
def frameBytes (chars : List LineChar) : List Byte := chars.map (fun c => c.data)

/-- One byte of a frame. -/
def byteAt (bs : List Byte) (i : Nat) : Byte := bs.getD i 0

/-- R23: the arm tag of each feed. -/
def feedTag : Arm → Nat
  | .a => 1
  | .b => 2

/-- R24: 255 minus the sum of bytes 1–8, modulo 256. -/
def checkByte (bs : List Byte) : Byte := 255 - ((bs.drop 1).take 8).foldl (· + ·) 0

/-- R26: the frame is bad. A frame of the wrong length is not tested further. -/
def badFrame (arm : Arm) (bs : List Byte) : Bool :=
  decide (bs.length ≠ 10) || decide (byteAt bs 0 ≠ 0x5C) || decide (byteAt bs 9 ≠ checkByte bs) ||
  decide ((byteAt bs 1).toNat / 2 ^ 4 ≠ feedTag arm)

/-- R23: a 16-bit quantity is sent low byte first. -/
def wordAt (bs : List Byte) (i : Nat) : Word := wordOf ((byteAt bs i).toNat + (byteAt bs (i + 1)).toNat * 2 ^ 8)

/-- R23, R29: the held frame that the ten bytes give, with its gap. -/
def heldFrame (bs : List Byte) (gap : Option Nat) : HeldFrame where
  x := wordAt bs 3
  y := wordAt bs 5
  z := wordAt bs 7
  enabled := (byteAt bs 1).getLsbD 0
  brake := (byteAt bs 1).getLsbD 1
  seq := byteAt bs 2
  gap := gap

/-! ## Feed state changes (R39, R135) -/

/-- R39, R135: change a feed's state: FEED is flagged, the FEED pause cause follows, and entering STEADY sets the
pause-release run counter to 0. -/
def State.changeFeed (s : State) (arm : Arm) (new : FeedState) : State :=
  if (s.feeds.get arm).state = new then s
  else
    let s1 := (s.modFeed arm (fun f => { f with state := new })).raise .feed arm
    let e := s1.enf.get arm
    if new = .steady then
      (s1.setCauses arm { e.pause with feed := false } e.stop).modEnf arm (fun e => { e with runCounter := 0 })
    else s1.setCauses arm { e.pause with feed := true } e.stop

/-- R35, R37: entering LOST stops the miss timer, sets the good run to 0 and starts the loss-grace timer, or with LG = 0
adds FEED_LOSS at once; the change is shown by a snapshot write of its own (R39). -/
def State.enterLost (s : State) (arm : Arm) (m : ArmFields) : State :=
  let s1 := ((s.modFeed arm (fun f => { f with missTimer := none, goodRun := 0 })).changeFeed arm .lost).orderSnapshot arm
  if m.lg.toNat = 0 then s1.addFeedLoss arm
  else s1.modFeed arm (fun f => { f with graceTimer := some (ms m.lg.toNat) })

/-- R33, R34: a fault, which is a bad frame or a miss. -/
def State.fault (s : State) (arm : Arm) (m : ArmFields) : State :=
  match (s.feeds.get arm).state with
  | .absent => s
  | .acquiring => s.modFeed arm (fun f => { f with goodRun := 0 })
  | .steady =>
    let s1 := s.modFeed arm (fun f => { f with faultRun := f.faultRun + 1 })
    if m.fc.toNat ≤ (s1.feeds.get arm).faultRun then s1.enterLost arm m else s1
  | .lost => s

/-! ## Judging a completed frame -/

/-- R26: a bad frame. -/
def State.takeBad (s : State) (arm : Arm) (m : ArmFields) : State :=
  (s.modFeed arm (fun f => { f with bad := f.bad + 1 })).fault arm m

/-- R27: a duplicate. -/
def State.takeDuplicate (s : State) (arm : Arm) : State :=
  s.modFeed arm (fun f => { f with duplicate := f.duplicate + 1 })

/-- R28, R1: the gap k of a good frame; none for the first frame of an acquisition. -/
def Feed.gapOf (f : Feed) (q : Byte) : Option Nat :=
  match f.state, f.lastSeq with
  | .acquiring, some l => some (q - l).toNat
  | .steady, some l => some (q - l).toNat
  | _, _ => none

/-- R30: the gap of a frame that replaces a held one: the sum limited to 255; the mark is taken over. -/
def joinGaps (old new : Option Nat) : Option Nat :=
  match old, new with
  | some j, some k => some (min 255 (j + k))
  | _, _ => none

/-- R29, R30: place a good frame in the holding slot. -/
def State.hold (s : State) (arm : Arm) (bs : List Byte) (gap : Option Nat) : State :=
  match (s.feeds.get arm).holding with
  | none => (s.modFeed arm (fun f => { f with holding := some (heldFrame bs gap) })).requestTogether [.evaluation arm]
  | some old => s.modFeed arm (fun f =>
      { f with holding := some (heldFrame bs (joinGaps old.gap gap)), overrun := f.overrun + 1 })

/-- R32–R35: what a good frame does to the feed state and the run counters; R45: the start of an acquisition sets the
reach record's first-frame mark. -/
def State.goodRunStep (s : State) (arm : Arm) (m : ArmFields) : State :=
  match (s.feeds.get arm).state with
  | .absent => ((s.modFeed arm (fun f => { f with goodRun := 1, faultRun := 0 })).changeFeed arm .acquiring).modReach arm
      (fun r => { r with firstMark := true })
  | .lost => ((s.modFeed arm (fun f => { f with goodRun := 1, faultRun := 0 })).changeFeed arm .acquiring).modReach arm
      (fun r => { r with firstMark := true })
  | .acquiring =>
    let s1 := s.modFeed arm (fun f => { f with goodRun := f.goodRun + 1 })
    if m.rc.toNat ≤ (s1.feeds.get arm).goodRun then
      (s1.modFeed arm (fun f => { f with faultRun := 0, graceTimer := none })).changeFeed arm .steady
    else s1
  | .steady => s.modFeed arm (fun f => { f with faultRun := 0 })

/-- R28: a good frame. -/
def State.takeGood (s : State) (arm : Arm) (m : ArmFields) (bs : List Byte) : State :=
  let gap := (s.feeds.get arm).gapOf (byteAt bs 2)
  let s1 := s.modFeed arm (fun f =>
    { f with good := f.good + 1, lastSeq := some (byteAt bs 2), missTimer := some (missTime m) })
  (s1.goodRunStep arm m).hold arm bs gap

/-- R25–R28: judge a frame at its completion: discarded while no table is active, and otherwise bad, a duplicate or
good, in that order. A receiver that has not yet seen 5 µs of idle has begun no frame (R22). -/
def State.frameComplete (s : State) (arm : Arm) (chars : List LineChar) : State :=
  match s.active with
  | none => s
  | some t =>
    let m := t.arms.get arm
    let bs := frameBytes chars
    if !(s.feeds.get arm).idleSeen then s
    else if badFrame arm bs then s.takeBad arm m
    else if (s.feeds.get arm).lastSeq = some (byteAt bs 2) then s.takeDuplicate arm
    else s.takeGood arm m bs

/-! ## Timers -/

/-- R36: a miss: counted against the feed state, and the timer restarts; LOST stops it. -/
def State.missExpiry (s : State) (arm : Arm) : State :=
  match s.active, (s.feeds.get arm).missTimer with
  | some t, some _ =>
    let m := t.arms.get arm
    (s.modFeed arm (fun f => { f with missTimer := some (missTime m) })).fault arm m
  | _, _ => s

/-- R37, R136: the loss-grace timer expires. -/
def State.lossGraceExpiry (s : State) (arm : Arm) : State :=
  match (s.feeds.get arm).graceTimer with
  | none => s
  | some _ =>
    let s1 := s.modFeed arm (fun f => { f with graceTimer := none })
    if (s1.feeds.get arm).state = .steady then s1 else s1.addFeedLoss arm

/-! ## The commands -/

/-- FRAME_COMPLETE (R22). -/
def execFrameComplete (arm : Arm) (chars : List LineChar) (s : State) : Host.Outcome State Fault Refusal :=
  .next (s.frameComplete arm chars)

/-- MISS_TIMER_EXPIRY (R36). -/
def execMissTimerExpiry (arm : Arm) (s : State) : Host.Outcome State Fault Refusal :=
  .next (s.missExpiry arm)

/-- LOSS_GRACE_EXPIRY (R37). -/
def execLossGraceExpiry (arm : Arm) (s : State) : Host.Outcome State Fault Refusal :=
  .next (s.lossGraceExpiry arm)

/-- STATE_SNAPSHOT_WRITE (R128): the ordered write of the arm, made between two services. -/
def execStateSnapshotWrite (arm : Arm) (s : State) : Host.Outcome State Fault Refusal :=
  .next (s.flushSnapshot arm)

/-- FEED_IDLE_SEEN (R22): from now on the receiver may begin a frame. -/
def execFeedIdleSeen (arm : Arm) (s : State) : Host.Outcome State Fault Refusal :=
  .next (if s.resetAsserted then s else s.modFeed arm (fun f => { f with idleSeen := true }))

end Sys2Proof.Machine
end

