-- ==== Sys2Proof/Machine/Ports.lean ====
section
/-! DEFINITION. The port registers and the ports' writes: PLOCK, PSTAT, PMASK, PGUARD, the other register writes, the
staging table and the exchange memory (R154–R158, R171, R172, R182–R186), with what a read returns. -/

namespace Sys2Proof.Machine

/-! ## The configuration lock (R154–R156) -/

/-- R155: a port is made holder, and becomes the last holder. -/
def Lock.give (l : Lock) (p : Port) : Lock := { l with holder := some p, lastHolder := p }

/-- R155: REQUEST. -/
def Lock.request (l : Lock) (p : Port) : Lock :=
  match l.holder with
  | none => l.give p
  | some h => if h = p then l else if l.pendingPort = none then { l with pendingPort := some p } else l

/-- R155: RELEASE: the lock is freed or handed over, or the port's own pending request is cancelled. -/
def Lock.release (l : Lock) (p : Port) : Lock :=
  match l.holder with
  | none => l
  | some h =>
    if h = p then
      match l.pendingPort with
      | none => { l with holder := none }
      | some q => { (l.give q) with pendingPort := none }
    else if l.pendingPort = some p then { l with pendingPort := none }
    else l

/-- R155: the port to which a RELEASE hands the lock, which is flagged LOCK. -/
def Lock.handsTo (l : Lock) (p : Port) : Option Port := if l.holder = some p then l.pendingPort else none

/-- R154: replace the lock state; the mirror is written at the moment of the change. -/
def State.putLock (s : State) (l : Lock) : State := (s.setLock l).writeLockMirror

/-- Set LOCK in the PSTAT of the port the lock was handed to, if any. -/
def State.flagHandover (s : State) (p : Option Port) : State :=
  match p with
  | none => s
  | some q => s.raise .lock q

/-- R155, R185: a write to PLOCK: bit 0 REQUEST, bit 1 RELEASE; both together act as RELEASE alone. While READY is 0
the write is discarded. -/
def State.plockWrite (s : State) (p : Port) (v : Word) : State :=
  if !s.ready then s
  else if bitAt v 1 then (s.putLock (s.lock.release p)).flagHandover (s.lock.handsTo p)
  else if bitAt v 0 then s.putLock (s.lock.request p)
  else s

/-- R156: two REQUESTs that meet: at a free lock the port that is not the last holder is served first. -/
def State.plockMeet (s : State) (p : Port) (v : Word) : State :=
  let first := if s.lock.holder = none then s.lock.lastHolder.other else p
  let word := fun (q : Port) => if q = p then v else 1#16
  (s.plockWrite first (word first)).plockWrite first.other (word first.other)

/-! ## What a read returns -/

/-- R182: PID: revision 1, part code 0x41, vendor code 2, the port's identity, READY. -/
def State.pid (s : State) (p : Port) : Word :=
  wordOf (1 + 0x41 * 2 ^ 4 + 2 * 2 ^ 12 + markAt (decide (p = .b)) 14 + markAt s.ready 15)

/-- R185: PLOCK: the holder in bits 0–1, this port pending in bit 4. -/
def State.plock (s : State) (p : Port) : Word :=
  wordOf (sideCode s.lock.holder + markAt (decide (s.lock.pendingPort = some p)) 4)

/-- R182: what a register access with a select code reads: 0 PID, 1 PSTAT, 2 PMASK, 3 PLOCK, 4 PGUARD; 5–7 read zero.
The effects of a PSTAT or PGUARD read are those of the commands PSTAT_READ and PGUARD_READ. -/
def State.readRegister (s : State) (p : Port) (select : BitVec 3) : Word :=
  match select.toNat with
  | 0 => s.pid p
  | 1 => s.pstat p
  | 2 => wordOf (s.ports.get p).mask.toNat
  | 3 => s.plock p
  | 4 => s.pguard p
  | _ => 0

/-! ## The commands -/

/-- LOCK_REQUEST (R155, R156): a PLOCK write with REQUEST, which may meet the other port's REQUEST. -/
def execLockRequest (port : Port) (value : Word) (meetsOther : Bool) (s : State) : Host.Outcome State Fault Refusal :=
  .next (if meetsOther then s.plockMeet port value else s.plockWrite port value)

/-- LOCK_RELEASE (R155): a PLOCK write with RELEASE. -/
def execLockRelease (port : Port) (value : Word) (s : State) : Host.Outcome State Fault Refusal :=
  .next (s.plockWrite port value)

/-- PSTAT_READ (R183): every flag is returned with the live bits, and all flags are cleared. -/
def execPstatRead (port : Port) (s : State) : Host.Outcome State Fault Refusal :=
  .next (s.modPort port (fun r => { r with readData := s.pstat port, flags := 0 }))

/-- R184: a PMASK write sets all eleven enables; bits 11–15 are ignored. While READY is 0 it is discarded (R172). -/
def State.pmaskWrite (s : State) (port : Port) (value : Word) : State :=
  if s.ready then s.modPort port (fun r => { r with mask := BitVec.ofNat 11 value.toNat }) else s

/-- PMASK_WRITE (R184). -/
def execPmaskWrite (port : Port) (value : Word) (s : State) : Host.Outcome State Fault Refusal :=
  .next (s.pmaskWrite port value)

/-- PGUARD_READ (R186). -/
def execPguardRead (port : Port) (s : State) : Host.Outcome State Fault Refusal :=
  .next (s.modPort port (fun r => r.afterGuardRead (s.pguard port) s.guardConditions))

/-- R182: a write to a register by its select code; PID, PSTAT, PGUARD and codes 5–7 discard it with MISUSE unless
READY is 0. -/
def State.registerWrite (s : State) (port : Port) (select : BitVec 3) (value : Word) : State :=
  match select.toNat with
  | 2 => s.pmaskWrite port value
  | 3 => s.plockWrite port value
  | _ => if s.ready then s.raise .misuse port else s

/-- REGISTER_WRITE (R182). -/
def execRegisterWrite (port : Port) (select : BitVec 3) (value : Word) (s : State) : Host.Outcome State Fault Refusal :=
  .next (s.registerWrite port select value)

/-- STAGING_WRITE (R158): a port's write to the staging table at 0x300–0x3FF. -/
def execStagingWrite (port : Port) (offset : Byte) (value : Word) (s : State) : Host.Outcome State Fault Refusal :=
  .next (s.portWrite port (0x300 + offset.toNat) value)

/-- MEMORY_WRITE (R172). -/
def execMemoryWrite (port : Port) (addr : BitVec 11) (value : Word) (s : State) : Host.Outcome State Fault Refusal :=
  .next (s.portWrite port addr.toNat value)

end Sys2Proof.Machine
end

