-- ==== Sys2Proof/Machine/Arrivals.lean ====
section
/-! DEFINITION. Events that arrive while a service is carried out, and the reads of a record word by word between which
they fall (R81, R158, R159; log 7). -/

namespace Sys2Proof.Machine

/-- What an arriving event does. -/
def State.arrive (s : State) : Event → State
  | .portWrite p addr v => s.portWrite p addr.toNat v
  | .plockWrite p v => s.plockWrite p v
  | .frameComplete arm chars => s.frameComplete arm chars
  | .missExpiry arm => s.missExpiry arm
  | .lossGraceExpiry arm => s.lossGraceExpiry arm

/-- The events whose point meets a condition, in the order of the list. -/
def State.arriveWhen (s : State) (during : List Arrival) (p : Nat → Bool) : State :=
  during.foldl (fun s x => if p x.point then s.arrive x.event else s) s

/-- The events that fall at a point. -/
def State.arriveAt (s : State) (during : List Arrival) (point : Nat) : State :=
  s.arriveWhen during (fun k => decide (k = point))

/-- The events that fall at a point or later. -/
def State.arriveFrom (s : State) (during : List Arrival) (point : Nat) : State :=
  s.arriveWhen during (fun k => decide (point ≤ k))

/-- The events that fall at a point from lo up and below hi. -/
def State.arriveBetween (s : State) (during : List Arrival) (lo hi : Nat) : State :=
  s.arriveWhen during (fun k => decide (lo ≤ k) && decide (k < hi))

/-- Read n words one by one from an offset, in rising order, which the spec leaves open (log 33); the events of a point
fall before the read of that number. -/
def readRun (during : List Arrival) : Nat → Nat → Nat → State → List Word × State
  | 0, _, _, s => ([], s)
  | n + 1, point, a, s =>
    let s1 := s.arriveAt during point
    let r := readRun during n (point + 1) (a + 1) s1
    (s1.word a :: r.1, r.2)

/-- R81, R159: a record read in three steps: post tag, whole request half, post tag again. -/
structure RecordRead where
  tag : Byte
  /-- The tag differed from the result tag at the first read. -/
  isNew : Bool
  /-- Both reads of the tag agree. -/
  agrees : Bool
  words : List Word
  after : State

/-- R81, R159: read the record whose request half has n words at an offset and whose result tag lies at another. -/
def readRecord (during : List Arrival) (point base result n : Nat) (s : State) : RecordRead :=
  let s1 := s.arriveAt during point
  let tag := tagOf (s1.word base)
  let r := readRun during n (point + 1) base s1
  let s2 := r.2.arriveAt during (point + 1 + n)
  { tag := tag
    isNew := decide (tag ≠ tagOf (s1.word result))
    agrees := decide (tagOf (s2.word base) = tag)
    words := r.1
    after := s2 }

end Sys2Proof.Machine
end

