-- ==== Sys2Proof/Machine/Lanes.lean ====
section
/-! DEFINITION. The lane controller: the slot entries with their result halves, the commands POST, FINISH and WITHDRAW,
grants, yields, the countdown, the lane restart and what a swap does to the lanes (R75–R97). -/

namespace Sys2Proof.Machine

/-! ## The result half (R76, R179) -/

/-- Replace a slot's entry. -/
def State.setEntry (s : State) (arm : Arm) (slot : Slot) (e : SlotEntry) : State :=
  s.modLane arm (fun l => { l with slots := l.slots.set slot.val e })

/-- R76, R78: write a slot state in the entry and the result half; a new value sets LANE on the lane's own port. -/
def State.writeSlotState (s : State) (arm : Arm) (slot : Slot) (st : SlotState) : State :=
  let e := s.entry arm slot
  let a := slotBase arm slot + 10
  ((s.setEntry arm slot { e with state := st }).writeWord a (putBits (s.word a) 0 3 st.code)).raiseIf
    (decide (e.state ≠ st)) .lane arm

/-- R76, R179: write the blocker kind and the blocker zone; no flag is set. -/
def State.writeBlocker (s : State) (arm : Arm) (slot : Slot) (b : Blocker) (zone : Option Nat) : State :=
  let a := slotBase arm slot + 10
  (s.writeWord a (putBits (s.word a) 8 4 b.code)).writeWord (a + 1) (blockerZoneWord zone)

/-- R76, R179: write a result with its reason; LANE is set on the lane's own port. -/
def State.writeResult (s : State) (arm : Arm) (slot : Slot) (r : SlotResult) (reason : Option SlotReason) : State :=
  (s.writeWord (slotBase arm slot + 9)
    (wordOf (r.code + (match reason with | none => 0 | some x => x.code) * 2 ^ 8))).raise .lane arm

/-- R76: write the result tag, last of a command's result. -/
def State.writeTag (s : State) (arm : Arm) (slot : Slot) (tag : Byte) : State :=
  s.writeWord (slotBase arm slot + 8) (wordOf tag.toNat)

/-- R77, R179: set the frames remaining of the slot's traverse in the entry and the result half; 65536 shows as 0. -/
def State.writeRemaining (s : State) (arm : Arm) (slot : Slot) (n : Nat) : State :=
  let e := s.entry arm slot
  (s.setEntry arm slot { e with traverse := e.traverse.map (fun tr => { tr with remaining := n }) }).writeWord
    (slotBase arm slot + 12) (wordOf n)

/-! ## The lane record (R79) -/

/-- The number of the traverse a slot holds. -/
def Lane.numberOf (l : Lane) (slot : Slot) : Option Word :=
  ((l.slots.get slot).traverse).map (fun tr => tr.number)

/-- R1, R79: how far a slot's number lies ahead of a reference. -/
def Lane.aheadOf (l : Lane) (ref : Word) (slot : Slot) : Nat :=
  match l.numberOf slot with
  | none => 0
  | some n => (n - ref).toNat

/-- R79: put a slot in the waiting list in its place by distance ahead, nearest first. -/
def insertByAhead (dist : Slot → Nat) (slot : Slot) : List Slot → List Slot
  | [] => [slot]
  | k :: r => if dist slot < dist k then slot :: k :: r else k :: insertByAhead dist slot r

/-- R79: the head: the waiting slot whose number equals next expected. -/
def Lane.head (l : Lane) : Option Slot :=
  match l.next with
  | none => none
  | some n => l.waitingList.find? (fun slot => decide (l.numberOf slot = some n))

/-- A slot leaves the waiting list. -/
def State.dropWaiting (s : State) (arm : Arm) (slot : Slot) : State :=
  s.modLane arm (fun l => { l with waitingList := l.waitingList.filter (fun k => k != slot) })

/-- A slot leaves the granted list. -/
def State.dropGranted (s : State) (arm : Arm) (slot : Slot) : State :=
  s.modLane arm (fun l => { l with grantedList := l.grantedList.filter (fun k => k != slot) })

/-- R61: release the cell set of a traverse under the active table. -/
def State.releaseTraverse (s : State) (arm : Arm) (tr : Option Traverse) : State :=
  match s.active, tr with
  | some t, some x => s.release arm (t.setHas x.zones)
  | _, _ => s

/-- R85, R93, R95: a GRANTED traverse becomes DONE, leaves the granted list and has its cell set released. -/
def State.endGranted (s : State) (arm : Arm) (slot : Slot) : State :=
  ((s.writeSlotState arm slot .done).dropGranted arm slot).releaseTraverse arm (s.entry arm slot).traverse

/-- R86, R95, R97: a WAITING traverse becomes WITHDRAWN and leaves the waiting list, its blocker written NONE. -/
def State.endWaiting (s : State) (arm : Arm) (slot : Slot) (st : SlotState) : State :=
  ((s.writeSlotState arm slot st).dropWaiting arm slot).writeBlocker arm slot .none none

/-! ## POST (R82, R83) -/

/-- The numbers of a lane's live traverses. -/
def Lane.liveNumbers (l : Lane) : List Word := (l.waitingList ++ l.grantedList).filterMap l.numberOf

/-- R82: the conditions in their order; the first that holds refuses the POST. -/
def State.postRefusal (s : State) (arm : Arm) (slot : Slot) (q : SlotRequest) : Option SlotReason :=
  let l := s.lanes.get arm
  let st := (s.entry arm slot).state
  if st = .waiting ∨ st = .granted then some .slotBusy
  else if q.armTag ≠ armTagCode arm then some .wrongArm
  else match s.active with
  | none => some .noTable
  | some t =>
    if q.mode = none then some .badMode
    else if q.zoneCount = 0 ∨ 6 < q.zoneCount ∨ q.zones.any (fun z => decide (t.nz.toNat ≤ z)) then some .badZone
    else if l.liveNumbers.contains q.number then some .duplicate
    else match l.next with
    | none => none
    | some n =>
      if 32768 ≤ (q.number - n).toNat then some .stale
      else if 16 ≤ (q.number - n).toNat then some .far
      else none

/-- R77, R83: the copy made from the request half. -/
def SlotRequest.traverse (q : SlotRequest) : Traverse :=
  match q.mode with
  | some .counted => ⟨q.number, .counted, q.budget, q.budget, q.zones⟩
  | _ => ⟨q.number, .openEnded, q.budget, 0, q.zones⟩

/-- R83: take a POST. -/
def State.acceptPost (s : State) (arm : Arm) (slot : Slot) (q : SlotRequest) (tag : Byte) : State :=
  let tr := q.traverse
  let first := ((s.lanes.get arm).next).getD q.number
  let s1 := s.setEntry arm slot { (s.entry arm slot) with traverse := some tr }
  let s2 := s1.modLane arm (fun l =>
    { l with next := some first, waitingList := insertByAhead (l.aheadOf first) slot l.waitingList })
  let s3 := (s2.writeResult arm slot .taken none).writeSlotState arm slot .waiting
  let s4 := s3.writeBlocker arm slot (if q.number = first then .none else .early) none
  let s5 := (s4.writeRemaining arm slot tr.remaining).writeWords (slotBase arm slot + 13) [0, q.number]
  s5.writeTag arm slot tag

/-- R80, R82, R85, R86: a refused command: result and tag only. -/
def State.refuseCommand (s : State) (arm : Arm) (slot : Slot) (r : SlotReason) (tag : Byte) : State :=
  (s.writeResult arm slot .refused (some r)).writeTag arm slot tag

/-- R82, R83. -/
def State.takePost (s : State) (arm : Arm) (slot : Slot) (q : SlotRequest) (tag : Byte) : State :=
  match s.postRefusal arm slot q with
  | some r => s.refuseCommand arm slot r tag
  | none => s.acceptPost arm slot q tag

/-! ## FINISH and WITHDRAW (R85, R86) -/

/-- R85. -/
def State.takeFinish (s : State) (arm : Arm) (slot : Slot) (tag : Byte) : State :=
  match (s.entry arm slot).state with
  | .granted => ((s.endGranted arm slot).writeResult arm slot .taken none).writeTag arm slot tag
  | .waiting => s.refuseCommand arm slot .notGranted tag
  | .free => s.refuseCommand arm slot .noTraverse tag
  | .done => s.refuseCommand arm slot .noTraverse tag
  | .withdrawn => s.refuseCommand arm slot .noTraverse tag
  | .yielded => s.refuseCommand arm slot .noTraverse tag

/-- R86. -/
def State.takeWithdraw (s : State) (arm : Arm) (slot : Slot) (tag : Byte) : State :=
  match (s.entry arm slot).state with
  | .waiting => ((s.endWaiting arm slot .withdrawn).writeResult arm slot .taken none).writeTag arm slot tag
  | .granted => ((s.endGranted arm slot).writeResult arm slot .taken none).writeTag arm slot tag
  | .free => s.refuseCommand arm slot .noTraverse tag
  | .done => s.refuseCommand arm slot .noTraverse tag
  | .withdrawn => s.refuseCommand arm slot .noTraverse tag
  | .yielded => s.refuseCommand arm slot .noTraverse tag

/-! ## Command intake (R80, R81) -/

/-- R80: take a command by its code. -/
def State.takeCommand (s : State) (arm : Arm) (slot : Slot) (q : SlotRequest) (tag : Byte) : State :=
  match q.command with
  | .post => s.takePost arm slot q tag
  | .finish => s.takeFinish arm slot tag
  | .withdraw => s.takeWithdraw arm slot tag
  | .other => s.refuseCommand arm slot .badCommand tag

/-- The first point of a slot's visit (log 7). -/
def visitPoint (arm : Arm) (slot : Slot) : Nat := (match arm with | .a => 0 | .b => 160) + 10 * slot.val

/-- R80, R81: visit a slot: passed over when its tags are equal, skipped when the two tag reads differ, and otherwise
its command is taken at once. -/
def State.visitSlot (s : State) (during : List Arrival) (arm : Arm) (slot : Slot) : State :=
  let b := slotBase arm slot
  let r := readRecord during (visitPoint arm slot) b (b + 8) 8 s
  if r.isNew && r.agrees then r.after.takeCommand arm slot (SlotRequest.ofWords r.words) r.tag else r.after

/-- R80: visit the slots of a lane in slot order. -/
def State.intakeLane (s : State) (during : List Arrival) (arm : Arm) : State :=
  slotOrder.foldl (fun s slot => s.visitSlot during arm slot) s

/-! ## Grants and yields (R88, R89) -/

/-- R59, R88: the head's cell set is claimed, the slot becomes GRANTED and joins the granted list, next expected
advances by 1, and the result half is written. Before the claim the arbiter checks the set (R111). -/
def State.grant (s : State) (t : ZoneTable) (arm : Arm) (slot : Slot) (tr : Traverse) : State :=
  if s.claimable arm (t.setHas tr.zones) then
    let s1 := (s.claim arm (t.setHas tr.zones)).modLane arm (fun l =>
      { l with next := l.next.map (fun n => n + 1), waitingList := l.waitingList.filter (fun k => k != slot),
               grantedList := l.grantedList ++ [slot] })
    ((s1.writeSlotState arm slot .granted).writeBlocker arm slot .none none).writeWord (slotBase arm slot + 13)
      (wordOf s.survey.count.toNat)
  else s

/-- R89: next expected becomes one past the number of the last entry of the waiting list. -/
def Lane.afterYield (l : Lane) : Lane :=
  match l.waitingList.getLast? with
  | none => l
  | some k => { l with next := (l.numberOf k).map (fun n => n + 1) }

/-- R89: every WAITING traverse of the lane becomes YIELDED. -/
def State.yieldLane (s : State) (arm : Arm) : State :=
  let waiting := (s.lanes.get arm).waitingList
  waiting.foldl (fun s slot => s.endWaiting arm slot .yielded) (s.modLane arm Lane.afterYield)

/-! ## Countdown (R92, R93) -/

/-- R92: the figure after a step: k less, and not below 0. -/
def countedDown (remaining k : Nat) : Nat := remaining - k

/-- R92, R93: step the countdown of the arm's current traverse by the frame's gap. -/
def State.countdown (s : State) (arm : Arm) (gap : Option Nat) : State :=
  match s.currentSlot arm, s.current arm, gap with
  | some slot, some tr, some k =>
    if tr.mode = .counted then
      let s1 := s.writeRemaining arm slot (countedDown tr.remaining k)
      if countedDown tr.remaining k = 0 then s1.endGranted arm slot else s1
    else s
  | _, _, _ => s

/-! ## Lane restart (R95) and install swap (R97) -/

/-- The slots of a lane in a state, in slot order. -/
def Lane.slotsIn (l : Lane) (st : SlotState) : List Slot :=
  slotOrder.filter (fun k => decide ((l.slots.get k).state = st))

/-- R95: end the GRANTED traverses one after another in the order of the granted list; the events of a point fall
before the release of that number. -/
def releaseRun (during : List Arrival) (arm : Arm) : Nat → List Slot → State → State
  | _, [], s => s
  | point, slot :: r, s =>
    releaseRun during arm (point + 1) r
      ((((s.arriveAt during point).endGranted arm slot)).writeResult arm slot .restarted none)

/-- R95: absorb an untaken command: result RESTARTED, and in every slot the result tag takes the post tag. -/
def State.absorbSlot (s : State) (arm : Arm) (slot : Slot) : State :=
  let b := slotBase arm slot
  let post := tagOf (s.word b)
  if post = tagOf (s.word (b + 8)) then s
  else (s.writeResult arm slot .restarted none).writeTag arm slot post

/-- R95: restart a lane. -/
def State.restartLane (s : State) (during : List Arrival) (point : Nat) (arm : Arm) : State :=
  let waiting := (s.lanes.get arm).slotsIn .waiting
  let s1 := waiting.foldl (fun s k => (s.endWaiting arm k .withdrawn).writeResult arm k .restarted none) s
  let s2 := releaseRun during arm point (s.lanes.get arm).grantedList s1
  let s3 := s2.modLane arm (fun l => { l with next := none, waitingList := [], grantedList := [] })
  (slotOrder.foldl (fun s k => s.absorbSlot arm k) s3).raise .lane arm

/-- R97: a swap withdraws every WAITING traverse with result TABLE_CHANGED and makes the lane UNSET. -/
def State.swapLane (s : State) (arm : Arm) : State :=
  let waiting := (s.lanes.get arm).slotsIn .waiting
  let s1 := waiting.foldl (fun s k => (s.endWaiting arm k .withdrawn).writeResult arm k .tableChanged none) s
  s1.modLane arm (fun l => { l with next := none, waitingList := [], grantedList := [] })

end Sys2Proof.Machine
end

