-- ==== Sys2Proof/Machine/Reach.lean ====
section
/-! DEFINITION. The reach calculator's arithmetic (R43–R52). -/

namespace Sys2Proof.Machine

/-- R43: offset plus raw coordinate, or offset minus it on a mirrored axis, saturated. -/
def transformAxis (offset raw : Word) (mirror : Bool) : Int :=
  saturateCoord (if mirror then offset.toInt - raw.toInt else offset.toInt + raw.toInt)

/-- R43: the raw arm-frame position carried into the cell frame; z is never mirrored. -/
def transform (m : ArmFields) (f : HeldFrame) : Vec Int where
  x := transformAxis m.dx f.x m.mirrorX
  y := transformAxis m.dy f.y m.mirrorY
  z := transformAxis m.dz f.z false

/-- R46: magnitude ceil(|Δ| / k), at most 4095, with the sign of Δ. -/
def velocityAxis (new old : Int) (k : Nat) : Int :=
  let mag : Nat := min 4095 (ceilDiv (new - old).natAbs k)
  if 0 ≤ new - old then (mag : Int) else -(mag : Int)

/-- R45, R46: the velocity; 0 for a frame with the first-frame mark. -/
def velocityOf (new : Vec Int) (old : Option (Vec Int)) (gap : Option Nat) : Vec Int :=
  match gap, old with
  | some k, some p => ⟨velocityAxis new.x p.x k, velocityAxis new.y p.y k, velocityAxis new.z p.z k⟩
  | _, _ => ⟨0, 0, 0⟩

/-- R47, R48: |v| × RF + ceil(8 × v² / DEC), at most 8191; 0 with the brake engaged. -/
def stopReachAxis (m : ArmFields) (brake : Bool) (v : Int) : Nat :=
  if brake then 0
  else min 8191 (v.natAbs * m.rf.toNat + ceilDiv (8 * (v.natAbs * v.natAbs)) m.dec.toNat)

/-- R47, R48 on every axis. -/
def stopReachOf (m : ArmFields) (brake : Bool) (v : Vec Int) : Vec Nat :=
  ⟨stopReachAxis m brake v.x, stopReachAxis m brake v.y, stopReachAxis m brake v.z⟩

/-- R49: the position plus the stop reach toward which the arm moves, saturated. -/
def stopPointAxis (c v : Int) (r : Nat) : Int :=
  if 0 < v then saturateCoord (c + r) else if v < 0 then saturateCoord (c - r) else c

/-- R49 on every axis. -/
def stopPointOf (c v : Vec Int) (r : Vec Nat) : Vec Int :=
  ⟨stopPointAxis c.x v.x r.x, stopPointAxis c.y v.y r.y, stopPointAxis c.z v.z r.z⟩

/-- R51: a coordinate range as an index range on an axis with n indices of pitch p. -/
def indexRange (lo hi : Int) (p n : Nat) : Option (Nat × Nat) :=
  if hi < 0 then none
  else if 0 ≤ lo ∧ n - 1 < lo.toNat / p then none
  else some (if 0 ≤ lo then lo.toNat / p else 0, min (n - 1) (hi.toNat / p))

/-- R50, R51: the range from c or q, whichever is less, minus h to the greater plus h, saturated, as cells. -/
def axisRange (c q : Int) (h : BitVec 12) (p n : Nat) : AxisRange :=
  let lo := saturateCoord (min c q - h.toNat)
  let hi := saturateCoord (max c q + h.toNat)
  ⟨lo, hi, indexRange lo hi p n⟩

/-- R50–R52: the block swept from c to q under the table's pitches. -/
def blockBetween (t : ZoneTable) (m : ArmFields) (c q : Vec Int) : Block where
  x := axisRange c.x q.x m.hx t.px.toNat Config.columns
  y := axisRange c.y q.y m.hy t.py.toNat Config.rows
  z := axisRange c.z q.z m.hz t.pz.toNat Config.tiers

/-- R42–R52: the record's results for a frame. The first-frame mark is set when the frame is taken (R45) and left here
as it stands, so that an acquisition that has begun meanwhile keeps it yes. -/
def Reach.run (r : Reach) (t : ZoneTable) (m : ArmFields) (f : HeldFrame) : Reach :=
  let c := transform m f
  let v := velocityOf c r.position f.gap
  let d := stopReachOf m f.brake v
  let q := stopPointOf c v d
  { position := some c
    velocity := v
    stopReach := d
    stopPoint := some q
    envelope := some (blockBetween t m c c)
    sweep := some (blockBetween t m c q)
    firstMark := r.firstMark
    enabled := f.enabled
    brake := f.brake }

/-- R54: velocity 0 on all three axes. -/
def Reach.still (r : Reach) : Bool :=
  decide (r.velocity.x = 0) && decide (r.velocity.y = 0) && decide (r.velocity.z = 0)

end Sys2Proof.Machine
end

