-- ==== Sys2Proof/Machine/Evaluation.lean ====
section
/-! DEFINITION. The frame evaluation (R126–R133): FRAME_EVALUATION. -/

namespace Sys2Proof.Machine

/-- R45, R29: the held frame is taken out of the slot; the record's first-frame mark becomes the frame's. -/
def State.takeFrame (s : State) (arm : Arm) (f : HeldFrame) : State :=
  (s.modFeed arm (fun d => { d with holding := none })).modReach arm (fun r => { r with firstMark := f.gap.isNone })

/-- R126 stage 1: the arithmetic. -/
def State.arithmetic (s : State) (t : ZoneTable) (arm : Arm) (f : HeldFrame) : State :=
  s.modReach arm (fun r => r.run t (t.arms.get arm) f)

/-- R130: seating finds the envelope on cells it may not take: the other arm's, closed, or granted refill-set cells. -/
def State.seatConflict (s : State) (arm : Arm) : Bool :=
  let b := (s.reach.get arm).envelope
  s.blockMeets b arm.other || s.blockMeetsSet b s.closedCell ||
    (s.rfgnt && s.blockMeetsSet b s.refillCell)

/-- R129: the cells excluded at seating: closed cells, and refill-set cells while the refill state is GRANTED. -/
def State.seatExcluded (s : State) (i : Nat) : Bool := s.closedCell i || (s.rfgnt && s.refillCell i)

/-- R126: the changes to the cause sets that stages 2, 4 and 5 decide, gathered through the evaluation. -/
structure Gathered where
  /-- R129: UNSEATED is removed. -/
  seated : Bool
  /-- R130: SEAT_CONFLICT is added. -/
  conflict : Bool
  /-- R131: TRESPASS is added. -/
  trespass : Bool
  /-- R132, R133: SHORTFALL and STARVED as stage 5 leaves them, where it decides them. -/
  shortfall : Option (Bool × Bool)
  deriving DecidableEq, Repr

/-- Nothing gathered. -/
def Gathered.none : Gathered := ⟨false, false, false, Option.none⟩

/-- R129: stage 2 for an unseated arm: the seize and the seated mark. -/
def State.seat (s : State) (arm : Arm) : State :=
  (s.seize arm s.seatExcluded).modEnf arm (fun e => { e with seated := true })

/-- R132: SHORTFALL while the lane holds a WAITING traverse, STARVED while it holds none. -/
def State.shortfallKind (s : State) (arm : Arm) : Bool × Bool :=
  if (s.lanes.get arm).waitingList.isEmpty then (false, true) else (true, false)

/-- R132, R133: the pause-release run counter after stage 5. -/
def runAfter (counter : Nat) (covered : Bool) : Nat := if covered then min 15 (counter + 1) else 0

/-- R132, R133: SHORTFALL and STARVED after stage 5. -/
def State.shortfallAfter (s : State) (arm : Arm) (pr : Nat) (covered : Bool) : Bool × Bool :=
  let e := s.enf.get arm
  if !covered then s.shortfallKind arm
  else if pr ≤ runAfter e.runCounter true then (false, false)
  else if e.pause.shortfall || e.pause.starved then s.shortfallKind arm
  else (false, false)

/-- R126: the gathered changes made to the sets together when stage 6 is complete. -/
def State.applyGathered (s : State) (arm : Arm) (g : Gathered) : State :=
  let e := s.enf.get arm
  let q := { e.stop with trespass := e.stop.trespass || g.trespass, seatConflict := e.stop.seatConflict || g.conflict }
  let kinds := match g.shortfall with | Option.none => (e.pause.shortfall, e.pause.starved) | some k => k
  s.setCauses arm
    { e.pause with
      unseated := e.pause.unseated && !g.seated
      shortfall := kinds.1
      starved := kinds.2
      stopped := e.pause.stopped || g.trespass || g.conflict }
    q

/-- R126 stages 3–6 for a STEADY frame without the first-frame mark. `marked`: the reach record carried the mark when the
arithmetic ended, which by R64 rules out the linger sweep (log 31). -/
def State.fullStages (s : State) (during : List Arrival) (t : ZoneTable) (arm : Arm) (gap : Option Nat)
    (marked : Bool) (g : Gathered) : State × Gathered :=
  let s3 := s.arriveAt during 3
  let s4 := if marked then s3 else s3.lingerSweep arm
  let s5 := s4.arriveAt during 4
  let trespass := !s5.covered (s5.reach.get arm).envelope arm
  let s6 := s5.arriveAt during 5
  let covered := s6.covered (s6.reach.get arm).sweep arm
  let kinds := s6.shortfallAfter arm (t.arms.get arm).pr.toNat covered
  let s7 := (s6.modEnf arm (fun e => { e with runCounter := runAfter e.runCounter covered })).arriveAt during 6
  (s7.countdown arm gap, { g with trespass := trespass, shortfall := some kinds })

/-- R126 stage 2, for frames taken while the feed is STEADY. -/
def State.seatingStage (s : State) (arm : Arm) : State × Gathered :=
  if (s.enf.get arm).seated then (s, Gathered.none)
  else (s.seat arm, { Gathered.none with seated := true, conflict := s.seatConflict arm })

/-- R126, R31: the stages of an evaluation; `steady`: the feed was STEADY when the frame was taken. An event that arrives
after the arithmetic does not alter the path: the record's first-frame mark is read when the arithmetic ends (log 31). -/
def State.evaluationStages (s : State) (during : List Arrival) (t : ZoneTable) (arm : Arm) (f : HeldFrame)
    (steady : Bool) : State :=
  let s1 := ((s.takeFrame arm f).arriveAt during 1).arithmetic t arm f
  let s2 := s1.arriveAt during 2
  let r :=
    if steady then
      let seat := s2.seatingStage arm
      if f.gap.isSome then seat.1.fullStages during t arm f.gap (s1.reach.get arm).firstMark seat.2 else (seat.1.arriveBetween during 3 7, seat.2)
    else (s2.arriveBetween during 3 7, Gathered.none)
  let s3 := if steady then r.1.applyGathered arm r.2 else r.1
  (s3.arriveAt during 7).writeSnapshot arm

/-- R126: the body of the service, once the arbiter serves it. -/
def State.evaluationBody (s : State) (during : List Arrival) (arm : Arm) : State :=
  match s.active, (s.feeds.get arm).holding with
  | some t, some f => s.evaluationStages during t arm f (decide ((s.feeds.get arm).state = .steady))
  | _, _ => s

/-- FRAME_EVALUATION (R126). -/
def execFrameEvaluation (arm : Arm) (during : List Arrival) (s : State) : Host.Outcome State Fault Refusal :=
  .next (s.serve (.evaluation arm) (fun s => s.evaluationBody during arm))

end Sys2Proof.Machine
end

