-- ==== Sys2Proof/Machine/Refill.lean ====
section
/-! DEFINITION. The refill interlock (R146–R153): RFREQ_CHANGE, DEBOUNCE_EXPIRY, STALL_TIMER_EXPIRY, REFILL_TEST, and
what an install swap does to it. -/

namespace Sys2Proof.Machine

/-- R146: put the interlock's state, write the refill record and the status word (RFGNT). -/
def State.putRefill (s : State) (r : Refill) : State := ((s.setRefill r).writeRefillRecord).writeStatus

/-- R147: the debounce timer's time: RDR when the debounced level is low, RDF when it is high. -/
def debounceTime (t : ZoneTable) (debounced : Bool) : Nat :=
  if debounced then ms t.rdf.toNat else ms t.rdr.toNat

/-- R147: the debounce timer runs exactly while the sampled level differs from the debounced one. -/
def debounceTimerFor (t : ZoneTable) (sampled debounced : Bool) : Timer :=
  if sampled = debounced then none else some (debounceTime t debounced)

/-- R147: the sampled level changes. While no table is active the timer stays stopped, whatever the line does. -/
def State.rfreqChange (s : State) (high : Bool) : State :=
  if high = s.rfreq then s
  else
    match s.active with
    | none => s.setRfreq high
    | some t => (s.setRfreq high).setRefill
        { s.refill with debounceTimer := debounceTimerFor t high s.refill.debounced }

/-- R148: the move from IDLE to REQUESTED. -/
def Refill.requestOf (r : Refill) (t : ZoneTable) : Refill :=
  { r with state := .requested, stallTimer := some (ms t.rsl.toNat), stalled := false }

/-- R150, R152: the return to IDLE. -/
def Refill.toIdle (r : Refill) : Refill := { r with state := .idle, stallTimer := none, stalled := false }

/-- R149: the grant of refill. -/
def Refill.grantOf (r : Refill) : Refill := { r with state := .granted, stallTimer := none, stalled := false }

/-- R147: the debounced RFREQ takes the sampled level and the timer stops. -/
def Refill.debouncedTo (r : Refill) (high : Bool) : Refill := { r with debounced := high, debounceTimer := none }

/-- R148, R150: what a change of the debounced RFREQ does to the refill state. -/
def Refill.afterDebounce (r : Refill) (t : ZoneTable) (high : Bool) : Refill :=
  if high then
    if r.state = .idle ∧ t.hasRefillSet then (r.debouncedTo high).requestOf t else r.debouncedTo high
  else if r.state = .idle then r.debouncedTo high
  else (r.debouncedTo high).toIdle

/-- R146: each change of the refill state sets REFILL in PSTAT of both ports. -/
def State.flagRefillChange (s : State) (before : RefillState) : State :=
  if s.refill.state = before then s else s.raiseBoth .refill

/-- R147, R148, R150: the debounce timer expires. -/
def State.debounceExpiry (s : State) : State :=
  match s.active, s.refill.debounceTimer with
  | some t, some _ => (s.putRefill (s.refill.afterDebounce t s.rfreq)).flagRefillChange s.refill.state
  | _, _ => s

/-- R151: the stall timer expires in REQUESTED; it is not restarted. -/
def State.stallExpiry (s : State) : State :=
  match s.refill.stallTimer with
  | none => s
  | some _ =>
    if s.refill.state = .requested then
      (s.putRefill { s.refill with stallTimer := none, stalled := true }).raiseBoth .refill
    else s

/-- R149: neither arm owns a cell of the active table's refill set (R67). -/
def State.refillSetUnowned (s : State) : Bool :=
  decide (s.ownedIn .a s.refillCell = 0) && decide (s.ownedIn .b s.refillCell = 0)

/-- R149: the refill test, when served; it does nothing once the state has left REQUESTED. -/
def State.refillTestBody (s : State) : State :=
  if s.refill.state = .requested ∧ s.refillSetUnowned then
    (s.putRefill s.refill.grantOf).raiseBoth .refill
  else s

/-- R152: the stall timer and mark of a request carried into a new table. -/
def Refill.carryRequest (r : Refill) (t : ZoneTable) : Refill :=
  match r.stallTimer with
  | none => r
  | some _ => { r with stallTimer := some (ms t.rsl.toNat) }

/-- R152: the interlock carried into a new table by an install swap. `hadTable`: a table was active before. -/
def Refill.swapped (r : Refill) (t : ZoneTable) (hadTable rfreq : Bool) : Refill :=
  let level := hadTable && r.debounced
  let r1 := { r with debounced := level, debounceTimer := debounceTimerFor t rfreq level }
  match r1.state with
  | .idle => if t.hasRefillSet ∧ level then r1.requestOf t else r1
  | .requested => if t.hasRefillSet then r1.carryRequest t else r1.toIdle
  | .granted => r1

/-! ## The commands -/

/-- RFREQ_CHANGE (R147). -/
def execRfreqChange (high : Bool) (s : State) : Host.Outcome State Fault Refusal := .next (s.rfreqChange high)

/-- DEBOUNCE_EXPIRY (R147). -/
def execDebounceExpiry (s : State) : Host.Outcome State Fault Refusal := .next s.debounceExpiry

/-- STALL_TIMER_EXPIRY (R151). -/
def execStallTimerExpiry (s : State) : Host.Outcome State Fault Refusal := .next s.stallExpiry

/-- REFILL_TEST (R149). -/
def execRefillTest (s : State) : Host.Outcome State Fault Refusal :=
  .next (s.serve .refillTest State.refillTestBody)

end Sys2Proof.Machine
end

