-- ==== Sys2Proof/Machine/Install.lean ====
section
/-! DEFINITION. The configuration service: CLEAR_STOP, RESTART_LANE, the quiet gate and the install swap (R137, R138,
R164–R168); the mailbox's result half (R162); and the install window (R169). -/

namespace Sys2Proof.Machine

/-! ## A mailbox's result half (R159, R162, R178) -/

/-- R162: the reason and the result code first and the result tag last; then MAILBOX is set in the port's PSTAT. -/
def State.writeMailResult (s : State) (p : Port) (r : MailResult) (reason : Option HeldReason) (tag : Byte) : State :=
  let b := mailboxBase p
  let s1 := s.writeWord (b + 18) (wordOf (match reason with | none => 0 | some x => x.code))
  ((s1.writeWord (b + 17) (wordOf r.code)).writeWord (b + 16) (wordOf tag.toNat)).raise .mailbox p

/-! ## CLEAR_STOP (R137, R138) -/

/-- R137: the conditions in their order; the first that holds refuses with STOP_HELD and its reason. -/
def State.stopHeld (s : State) (arm : Arm) : Option HeldReason :=
  let r := s.reach.get arm
  if (s.feeds.get arm).state ≠ .steady ∨ r.firstMark then some .feed
  else if s.blockMeets r.envelope arm.other then some .otherArm
  else if s.blockMeetsSet r.envelope s.fencedCell then some .fence
  else if s.refillFence ∧ s.blockMeetsSet r.envelope s.refillCell then some .refill
  else none

/-- R138: an accepted CLEAR_STOP: the seize, the causes taken out, the snapshot. -/
def State.clearStop (s : State) (arm : Arm) : State :=
  let s1 := s.seize arm (fun _ => false)
  let e := s1.enf.get arm
  (s1.setCauses arm { e.pause with stopped := false }
    { e.stop with trespass := false, feedLoss := false, seatConflict := false }).writeEventSnapshot arm false

/-! ## The service's commands (R164 step 1) -/

/-- R137, R138, R162: carry out an accepted CLEAR_STOP and write its result. -/
def State.carryClear (s : State) (c : Accepted) (arm : Arm) : State :=
  match s.stopHeld arm with
  | some r => s.writeMailResult c.port .stopHeld (some r) c.tag
  | none => (s.clearStop arm).writeMailResult c.port .done none c.tag

/-- R164 step 1: carry out one accepted command. Its points are the 20 from `point` on: a CLEAR_STOP is one piece of
work at the first, and a RESTART_LANE has a point before each of its releases. -/
def State.carryOut (s : State) (during : List Arrival) (point : Nat) (c : Accepted) : State :=
  match c.command with
  | .clearStop arm => ((s.arriveAt during point).carryClear c arm).arriveBetween during (point + 1) (point + 20)
  | .restartLane arm =>
    ((s.restartLane during point arm).writeMailResult c.port .done none c.tag).arriveBetween during
      (point + (s.lanes.get arm).grantedList.length) (point + 20)

/-- R164 step 1: the accepted commands one after the other; at most two, one from each mailbox (R159). The events of
points that no command has fall before the gate test. -/
def carryOutAll (during : List Arrival) : Nat → List Accepted → State → State
  | point, [], s => s.arriveBetween during point 40
  | point, c :: r, s => carryOutAll during (point + 20) r (s.carryOut during point c)

/-! ## The quiet gate (R167) -/

/-- R167: LANES_EMPTY. -/
def State.lanesEmpty (s : State) : Bool := s.lanes.a.waitingList.isEmpty && s.lanes.b.waitingList.isEmpty
/-- R167: FEEDS_STEADY. -/
def State.feedsSteady (s : State) : Bool := decide (s.feeds.a.state = .steady) && decide (s.feeds.b.state = .steady)
/-- R167, R54: ARMS_STILL. -/
def State.armsStill (s : State) : Bool := s.reach.a.still && s.reach.b.still

/-- R167: no cell has an owner and refill is not GRANTED, which no mask can waive, and every unwaived condition holds. -/
def State.gateOpen (s : State) (k : GateMask) : Bool :=
  decide (s.tallies.a.owned = 0) && decide (s.tallies.b.owned = 0) && !s.rfgnt &&
  (k.lanesEmpty || s.lanesEmpty) && (k.feedsSteady || s.feedsSteady) && (k.armsStill || s.armsStill) &&
  (k.refillIdle || decide (s.refill.state = .idle)) && (k.noStandoff || decide (s.survey.standoff = 0))

/-! ## The install swap (R168) -/

/-- R41: ABSENT, the runs 0, the timers stopped, the held frame dropped; the last good sequence, the counts and the
frame in progress are left. -/
def Feed.swapped (f : Feed) : Feed :=
  { f with state := .absent, goodRun := 0, faultRun := 0, missTimer := none, graceTimer := none, holding := none }

/-- R41, R39: one feed receiver at a swap; FEED is set on the port unless the feed was already ABSENT. -/
def State.swapFeed (s : State) (arm : Arm) : State :=
  (((s.modFeed arm Feed.swapped).dropRequest (.evaluation arm))).raiseIf
    (decide ((s.feeds.get arm).state ≠ .absent)) .feed arm

/-- R140: the cause sets of one arm at a swap. -/
def State.swapCauses (s : State) (arm : Arm) : State :=
  let e := s.enf.get arm
  (s.modEnf arm (fun e => { e with seated := false, runCounter := 0 })).setCauses arm
    { noTable := false, feed := true, unseated := true, shortfall := false, starved := false, stopped := e.pause.stopped }
    { e.stop with noTable := false }

/-- R168: the swap of one arm's side: lane, feed receiver, reach record and enforcement. -/
def State.swapArm (s : State) (arm : Arm) : State :=
  (((s.swapLane arm).swapFeed arm).modReach arm (fun _ => Reach.cleared)).swapCauses arm

/-- R168: the pending table becomes active and every block takes it, each by its own rule. -/
def State.swap (s : State) (t : ZoneTable) : State :=
  let s1 := ((s.swapArm .a).swapArm .b).setFence []
  let s2 := s1.setSurvey { s1.survey with standoff := 0 }
  let s3 := (s2.setActive (some t)).writeWords 0x400 t.image
  let s4 := (s3.putRefill (s3.refill.swapped t s.active.isSome s3.rfreq)).flagRefillChange s3.refill.state
  let s5 := (s4.writeEventSnapshot .a true).writeEventSnapshot .b true
  s5.changeInstall { s5.install with
    state := .installed, reason := none, activeSerial := t.serial, pendingTable := none, window := none }

/-- R164 steps 2 and 3: the gate test of a pending install, and the swap if the gate is open. -/
def State.testGate (s : State) : State :=
  match s.install.pendingTable with
  | none => s
  | some p => if s.gateOpen p.mask then s.swap p.table else s

/-- R164: the body of the service. Afterwards the survey arbiter requests the grant phase (R102). -/
def State.configurationBody (s : State) (during : List Arrival) : State :=
  let s1 := carryOutAll during 0 s.accepted (s.setAccepted [])
  let s2 := (s1.arriveAt during 40).testGate
  (s2.arriveAt during 41).requestTogether [.grantPhase]

/-- CONFIGURATION_SERVICE (R164). -/
def execConfigurationService (during : List Arrival) (s : State) : Host.Outcome State Fault Refusal :=
  .next (s.serve .configuration (fun s => s.configurationBody during))

/-! ## The install window (R169) -/

/-- R169: the pending table is dropped and the state becomes EXPIRED or ABANDONED. -/
def State.dropInstall (s : State) (st : InstallState) : State :=
  s.changeInstall { s.install with state := st, reason := none, pendingTable := none, window := none }

/-- R169: the window timer expires while the state is PENDING. -/
def State.windowExpiry (s : State) : State :=
  match s.install.window with
  | none => s
  | some _ => if s.install.state = .pending then s.dropInstall .expired else s

/-- INSTALL_WINDOW_EXPIRY (R169). -/
def execInstallWindowExpiry (s : State) : Host.Outcome State Fault Refusal := .next s.windowExpiry

end Sys2Proof.Machine
end

