-- ==== Sys2Proof/Machine/Mailbox.lean ====
section
/-! DEFINITION. The survey tick: SIP rises, the mailboxes are read and their commands taken, and the tick's services are
requested (R102, R159–R162); SURVEY_TICK and SURVEY_END. -/

namespace Sys2Proof.Machine

/-! ## Acceptance (R160, R161) -/

/-- R143: a count above 32, or a zone number that is NZ or greater; while no table is active every number is refused. -/
def State.badFence (s : State) (count : Nat) (zones : List Nat) : Bool :=
  decide (32 < count) ||
  (match s.active with
   | none => !zones.isEmpty
   | some t => zones.any (fun z => decide (t.nz.toNat ≤ z)))

/-- R161: an argument is out of range. -/
def State.badArgument (s : State) : MailCommand → Bool
  | .install _ window => decide (window = 0)
  | .abandon => false
  | .fence count zones => s.badFence count zones
  | .priority mode oneShot => (PriorityMode.ofCode mode).isNone || (oneShotOfCode oneShot).isNone
  | .hold value => decide (1 < value)
  | .period code => decide (7 < code)
  | .clearStop arm => (armOfCode arm).isNone
  | .restartLane lane => (armOfCode lane).isNone
  | .unknown => false

/-- R161: the command needs the lock. CLEAR_STOP needs it only for the other port's arm. -/
def MailCommand.needsLock (p : Port) : MailCommand → Bool
  | .install _ _ => true
  | .abandon => true
  | .fence _ _ => true
  | .priority _ _ => true
  | .hold _ => true
  | .period _ => true
  | .clearStop arm => decide (armOfCode arm ≠ some p)
  | .restartLane _ => false
  | .unknown => false

/-- R160: RESTART_LANE names the other port's lane. -/
def MailCommand.notOwn (p : Port) : MailCommand → Bool
  | .install _ _ => false
  | .abandon => false
  | .fence _ _ => false
  | .priority _ _ => false
  | .hold _ => false
  | .period _ => false
  | .clearStop _ => false
  | .restartLane lane => decide (armOfCode lane ≠ some p)
  | .unknown => false

/-- R160: the command is an INSTALL. -/
def MailCommand.isInstall : MailCommand → Bool
  | .install _ _ => true
  | .abandon => false
  | .fence _ _ => false
  | .priority _ _ => false
  | .hold _ => false
  | .period _ => false
  | .clearStop _ => false
  | .restartLane _ => false
  | .unknown => false

/-- R160: the conditions in their order; the first that holds refuses the command with its result. -/
def State.mailRefusal (s : State) (p : Port) (c : MailCommand) : Option MailResult :=
  if c = .unknown then some .badCommand
  else if s.badArgument c then some .badArg
  else if c.needsLock p ∧ s.lock.holder ≠ some p then some .noLock
  else if c.notOwn p then some .notOwn
  else if c.isInstall ∧ s.install.state = .pending then some .busy
  else none

/-! ## The commands carried out at once -/

/-- R165: the copied table is validated; INVALID with the reason, or PENDING with the window timer started. -/
def State.beginInstall (s : State) (p : Port) (tag : Byte) (k : GateMask) (window : Nat) (t : ZoneTable) : State :=
  match t.validate with
  | some r => (s.changeInstall { s.install with state := .invalid, reason := some r, pendingSerial := t.serial }).writeMailResult
      p .done none tag
  | none => (s.changeInstall { s.install with
      state := .pending, reason := none, pendingSerial := t.serial, pendingTable := some ⟨t, k⟩,
      window := some (ms window) }).writeMailResult p .accepted none tag

/-- R169: ABANDON ends a pending install and changes nothing in any other state. -/
def State.abandon (s : State) : State := if s.install.state = .pending then s.dropInstall .abandoned else s

/-- R142: a set of distinct zone numbers: each number once, in rising order, so that equal sets are equal lists. -/
def fenceSetOf (zones : List Nat) : List Nat := (List.range 32).filter (fun z => zones.contains z)

/-- R115: the favoured arm of a fixed mode; ALTERNATE leaves it as it stands. -/
def PriorityMode.favours (m : PriorityMode) (now : Arm) : Arm :=
  match m with
  | .fixedA => .a
  | .fixedB => .b
  | .alternate => now

/-- R115: the survey arbiter's priority state after a PRIORITY command. -/
def Survey.setPriority (v : Survey) (m : PriorityMode) (one : Option Arm) : Survey :=
  { v with mode := m, favoured := m.favours v.favoured, oneShot := one }

/-- R105, R101: HOLD sets or clears the mark; a HOLD that lifts it restarts the timer when SIP falls. -/
def Survey.setHold (v : Survey) (on : Bool) : Survey :=
  { v with hold := on, restart := v.restart || (v.hold && !on) }

/-- R101: PERIOD sets the code and restarts the timer when SIP falls, even if the code is the one in force. -/
def Survey.setPeriod (v : Survey) (code : Nat) : Survey := { v with period := code, restart := true }

/-- R160: accept a command for the tick's configuration service. -/
def State.accept (s : State) (p : Port) (tag : Byte) (c : ServiceCommand) : State :=
  s.setAccepted (s.accepted ++ [⟨p, tag, c⟩])

/-- R160–R162: carry out a command that passed the acceptance test, or accept it for the configuration service. An
INSTALL's copy reads the 256 staging words one by one from `point` (R158, R165), in rising order of their offsets: the
spec gives the copy no order, and this one is the model's choice (log 33). -/
def State.carryOutAtOnce (s : State) (during : List Arrival) (point : Nat) (p : Port) (tag : Byte) (c : MailCommand) : State :=
  match c with
  | .install k window =>
    let r := readRun during 256 point 0x300 s
    r.2.beginInstall p tag k window (ZoneTable.ofWords r.1)
  | .abandon => s.abandon.writeMailResult p .done none tag
  | .fence _ zones => (s.setFence (fenceSetOf zones)).writeMailResult p .done none tag
  | .priority m o =>
    match PriorityMode.ofCode m, oneShotOfCode o with
    | some mode, some one => (s.setSurvey (s.survey.setPriority mode one)).writeMailResult p .done none tag
    | _, _ => s
  | .hold v => (s.setSurvey (s.survey.setHold (decide (v = 1)))).writeMailResult p .done none tag
  | .period code => (s.setSurvey (s.survey.setPeriod code)).writeMailResult p .done none tag
  | .clearStop a =>
    match armOfCode a with
    | some arm => s.accept p tag (.clearStop arm)
    | none => s
  | .restartLane a =>
    match armOfCode a with
    | some arm => s.accept p tag (.restartLane arm)
    | none => s
  | .unknown => s

/-- R160: test a command taken from a mailbox and carry it out or refuse it. -/
def State.takeMail (s : State) (during : List Arrival) (point : Nat) (p : Port) (tag : Byte) (c : MailCommand) : State :=
  match s.mailRefusal p c with
  | some r => s.writeMailResult p r none tag
  | none => s.carryOutAtOnce during point p tag c

/-- The first point of a mailbox's visit (log 7); mailbox A's points come first (log 32). -/
def mailPoint : Port → Nat
  | .a => 0
  | .b => 300

/-- R159: visit a mailbox: passed over when its tags are equal, skipped when the two tag reads differ. The events of the
copy's points fall in it even where no copy is made. -/
def State.visitMailbox (s : State) (during : List Arrival) (p : Port) : State :=
  let b := mailboxBase p
  let r := readRecord during (mailPoint p) b (b + 16) 16 s
  let copy := mailPoint p + 18
  let rest := fun (s : State) => s.arriveBetween during copy (copy + 256)
  if r.isNew && r.agrees then
    let c := MailCommand.ofWords r.words
    let s1 := r.after.takeMail during copy p r.tag c
    if c.isInstall && (r.after.mailRefusal p c).isNone then s1 else rest s1
  else rest r.after

/-! ## The tick (R102) and the end of the survey (R103) -/

/-- R103, R176: SIP rises or falls, and the status word is written. -/
def State.setSip (s : State) (b : Bool) : State := (s.setSurvey { s.survey with sip := b }).writeStatus

/-- R102: a configuration service is requested when the tick's commands include CLEAR_STOP or RESTART_LANE, or an
install is pending. -/
def State.wantsConfiguration (s : State) : Bool := !s.accepted.isEmpty || decide (s.install.state = .pending)

/-- R69, R102: the requests that begin to wait together at the tick: the configuration service, the refill test while
REQUESTED, and the grant phase where there is no configuration service. -/
def State.tickRequests (s : State) : List Request :=
  (if s.wantsConfiguration then [Request.configuration] else []) ++
  (if s.refill.state = .requested then [Request.refillTest] else []) ++
  (if s.wantsConfiguration then [] else [Request.grantPhase])

/-- R102: the tick. It comes only while the survey timer runs and no survey is in progress (R101). R159, R160: mailbox A is
visited first and then mailbox B; the spec leaves this order open, and it is the model's choice (log 32). The tick's
requests begin to wait when both visits are made, so an evaluation requested during the visits stands before the refill test
too: the spec leaves this order open, and it is the model's choice (log 34). -/
def State.surveyTick (s : State) (during : List Arrival) : State :=
  if s.ready && s.survey.timer.isSome && !s.survey.sip then
    let s1 := (s.setSurvey { s.survey with timer := some (fullPeriod s.survey.period) }).setSip true
    let s2 := (s1.visitMailbox during .a).visitMailbox during .b
    s2.requestTogether s2.tickRequests
  else s

/-- SURVEY_TICK (R102). -/
def execSurveyTick (during : List Arrival) (s : State) : Host.Outcome State Fault Refusal :=
  .next (s.surveyTick during)

/-- R103: a service of the tick is still waiting. -/
def State.tickServiceWaits (s : State) : Bool :=
  s.waiting.any (fun g => g.contains .configuration || g.contains .refillTest || g.contains .grantPhase)

/-- R101: the timer restarted for half the period when a PERIOD or a lifted HOLD asks for it. -/
def Survey.ended (v : Survey) : Survey :=
  if v.restart then { v with timer := some (halfPeriod v.period), restart := false } else v

/-- R103, R104: when every service of the tick has ended SIP falls and SURVEY is set in PSTAT of both ports. -/
def State.surveyEnd (s : State) : State :=
  if s.survey.sip && !s.tickServiceWaits then
    ((s.setSurvey s.survey.ended).setSip false).raiseBoth .survey
  else s

/-- SURVEY_END (R103). -/
def execSurveyEnd (s : State) : Host.Outcome State Fault Refusal := .next s.surveyEnd

end Sys2Proof.Machine
end

