-- ==== Sys2Proof/Machine/Resets.lean ====
section
/-! DEFINITION. Power-on, RESET_N and READY (R141, R173, R174), and the read of exchange memory by a port, which while
READY is 0 may find old or reset contents. -/

namespace Sys2Proof.Machine

/-- R99, R163: each slot's and each mailbox's result tag takes the post tag found in its request half. -/
def resultTagsOf (kept : Memory) : List (Nat × Word) :=
  let tag := fun (post result : Nat) => (result, wordOf (tagOf (kept.read post)).toNat)
  [tag (mailboxBase .a) (mailboxBase .a + 16), tag (mailboxBase .b) (mailboxBase .b + 16)] ++
  slotOrder.map (fun k => tag (slotBase .a k) (slotBase .a k + 8)) ++
  slotOrder.map (fun k => tag (slotBase .b k) (slotBase .b k + 8))

/-- Write a list of words, each at its own offset. -/
def Memory.writeAll : Memory → List (Nat × Word) → Memory
  | m, [] => m
  | m, (a, v) :: r => Memory.writeAll (m.write a v) r

/-- R174: every guard-written word rewritten: the contents that power-on leaves, but the result tags; the request
halves and the staging table keep what the ports last wrote. -/
def rewriteGuardWords (m : Memory) : Memory :=
  let kept : Memory := m.filter (fun c => portWritten c.1)
  Memory.writeAll (Memory.writeAll kept resetMemory) (resultTagsOf kept)

/-- POWER_ON (R173): every piece of state at its initial value and the initial contents written; READY is 0. RESET_N
is taken as released (log 20), and the RFREQ line is at the level it has. -/
def State.powerOn (s : State) : State :=
  { State.reset with pending := s.pending, rfreq := s.rfreq }

/-- RESET_N_ASSERT (R141, R174): READY falls and every piece of state takes its reset value; the exchange memory is
rewritten at the release. -/
def State.resetAssert (s : State) : State :=
  { State.reset with
    pending := s.pending, rfreq := s.rfreq, resetAsserted := true, mem := s.mem,
    memBefore := if s.ready then s.mem else s.memBefore }

/-- RESET_N_RELEASE (R174): the reset values stand (log 19) and every guard-written word is rewritten. -/
def State.resetRelease (s : State) : State :=
  if s.resetAsserted then
    { State.reset with
      pending := s.pending, rfreq := s.rfreq, mem := rewriteGuardWords s.mem, memBefore := s.memBefore }
  else s

/-- READY_RISE (R173, R101): the initial writes are complete, READY becomes 1, and the survey timer starts for half the
period. -/
def State.readyRise (s : State) : State :=
  if s.resetAsserted || s.ready then s
  else
    ((s.setReady true).setMemBefore []).setSurvey { s.survey with timer := some (halfPeriod s.survey.period) }

/-- POWER_ON. -/
def execPowerOn (s : State) : Host.Outcome State Fault Refusal := .next s.powerOn

/-- RESET_N_ASSERT. -/
def execResetNAssert (s : State) : Host.Outcome State Fault Refusal := .next s.resetAssert

/-- RESET_N_RELEASE. -/
def execResetNRelease (s : State) : Host.Outcome State Fault Refusal := .next s.resetRelease

/-- READY_RISE. -/
def execReadyRise (s : State) : Host.Outcome State Fault Refusal := .next s.readyRise

/-- R171, R174: what a port's read of the exchange memory returns. 0x500–0x7FF reads zero. While READY is 0 a
guard-written word is found with its old or its reset contents: a free value, one for each read (log 13). -/
def State.readMemory (s : State) (addr : BitVec 11) (nthRead : Nat) : Word :=
  let a := addr.toNat
  if Config.memoryWords ≤ a then 0
  else if s.ready || portWritten a then s.word a
  else if Config.unreadyReadsOld a nthRead then s.memBefore.read a
  else (rewriteGuardWords s.memBefore).read a

end Sys2Proof.Machine
end

