-- ==== Sys2Proof/Machine/Survey.lean ====
section
/-! DEFINITION. The survey grant phase: command intake, the grant decision, contests, priority, standoff and yield, the
zone view and the survey record (R80–R90, R104–R120, R73, R74): SURVEY_GRANT_PHASE. -/

namespace Sys2Proof.Machine

/-! ## Blockers (R106–R109) -/

/-- What the grant decision finds for a lane: no candidate, a blocked head, or a grantable one. -/
inductive Finding where
  | noHead
  | blocked (slot : Slot) (b : Blocker) (zone : Option Nat)
  | grantable (slot : Slot) (tr : Traverse)
  deriving DecidableEq, Repr

/-- R106, R109: the first blocker of a head, with its blocker zone, or none. `fenceUp` is the refill fence as read once
at the start of the decision (R108). -/
def State.blockerOf (s : State) (t : ZoneTable) (fenceUp : Bool) (arm : Arm) (tr : Traverse) :
    Option (Blocker × Option Nat) :=
  if !(s.enf.get arm).seated then some (.unseated, none)
  else if (t.arms.get arm).w.toNat ≤ (s.lanes.get arm).grantedList.length then some (.window, none)
  else match s.zoneTest t tr.zones (fun i _ => t.setHas s.fence i) with
  | some z => some (.fence, some z)
  | none =>
    match (if fenceUp then s.zoneTest t tr.zones (fun i _ => t.refillHas i) else none) with
    | some z => some (.refill, some z)
    | none =>
      match s.zoneTest t tr.zones (fun _ c => c.ownedBy arm.other) with
      | some z => some (.otherArm, some z)
      | none => none

/-- R106: test a lane's head. -/
def State.find (s : State) (t : ZoneTable) (fenceUp : Bool) (arm : Arm) : Finding :=
  match (s.lanes.get arm).head with
  | none => .noHead
  | some slot =>
    match (s.entry arm slot).traverse with
    | none => .noHead
    | some tr =>
      match s.blockerOf t fenceUp arm tr with
      | some (b, z) => .blocked slot b z
      | none => .grantable slot tr

/-! ## Priority (R113, R114) -/

/-- R113: the favoured arm for a decision. -/
def Survey.favouredNow (v : Survey) : Arm := v.oneShot.getD v.favoured

/-- R113, R114: after a decision in which an arm lost the contest or yielded: the one-shot is used up, and the favoured
arm item is set according to the mode. -/
def Survey.decided (v : Survey) (loser : Arm) : Survey :=
  { v with
    oneShot := none
    favoured := match v.mode with
      | .fixedA => .a
      | .fixedB => .b
      | .alternate => loser }

/-! ## Contest (R110) -/

/-- R110: some cell is unowned and lies in both cell sets. -/
def State.contest (s : State) (t : ZoneTable) (x y : Traverse) : Bool :=
  (s.zoneTest t x.zones (fun i c => decide (c.owner = none) && t.setHas y.zones i)).isSome

/-- R110: a finding as the contest leaves it: the loser's head is blocked with CONTEST. -/
def Finding.lose : Finding → Finding
  | .grantable slot _ => .blocked slot .contest none
  | .blocked slot b z => .blocked slot b z
  | .noHead => .noHead

/-- R110: the two findings and the survey state after a contest has been settled. -/
def State.settle (s : State) (t : ZoneTable) (fa fb : Finding) : Finding × Finding × Survey :=
  match fa, fb with
  | .grantable _ x, .grantable _ y =>
    if s.contest t x y then
      match s.survey.favouredNow with
      | .a => (fa, fb.lose, s.survey.decided .b)
      | .b => (fa.lose, fb, s.survey.decided .a)
    else (fa, fb, s.survey)
  | _, _ => (fa, fb, s.survey)

/-! ## Blockers written and grants made (R111, R112) -/

/-- R112: the blocker of a waiting slot by the lane's finding: the head's own, EARLY for every other. -/
def Finding.blockerFor (f : Finding) (slot : Slot) : Blocker × Option Nat :=
  match f with
  | .noHead => (.early, none)
  | .blocked k b z => if k = slot then (b, z) else (.early, none)
  | .grantable k _ => if k = slot then (.none, none) else (.early, none)

/-- R90, R112: write the blocker of every WAITING traverse of a lane. -/
def State.writeBlockers (s : State) (arm : Arm) (f : Finding) : State :=
  (s.lanes.get arm).waitingList.foldl
    (fun s slot => s.writeBlocker arm slot (f.blockerFor slot).1 (f.blockerFor slot).2) s

/-- R111: carry out a grant, if the finding is one. -/
def State.grantFound (s : State) (t : ZoneTable) (arm : Arm) (f : Finding) : State :=
  match f with
  | .noHead => s
  | .blocked _ _ _ => s
  | .grantable slot tr => s.grant t arm slot tr

/-! ## Standoff and yield (R116–R118) -/

/-- R116: the head is reported with blocker OTHER_ARM. -/
def Finding.onOtherArm : Finding → Bool
  | .blocked _ .otherArm _ => true
  | .blocked _ _ _ => false
  | .noHead => false
  | .grantable _ _ => false

/-- R118: the unfavoured arm's lane yields, STANDOFF is set on both ports, and the counter is set to 0. -/
def State.yield (s : State) : State :=
  let loser := s.survey.favouredNow.other
  let s1 := (s.yieldLane loser).raiseBoth .standoff
  s1.setSurvey { (s1.survey.decided loser) with standoff := 0 }

/-- R117: the standoff counter at the end of a grant decision that read the lanes. -/
def State.updateStandoff (s : State) (t : ZoneTable) (standoff : Bool) : State :=
  if standoff then
    if t.sc.toNat ≤ s.survey.standoff + 1 then s.yield
    else s.setSurvey { s.survey with standoff := s.survey.standoff + 1 }
  else s.setSurvey { s.survey with standoff := 0 }

/-- R106–R118: the grant decision, the contest, the claims and grants, and the standoff update. While no table is active
no lane holds a waiting traverse (R112). -/
def State.decideGrants (s : State) : State :=
  match s.active with
  | none => s.setSurvey { s.survey with standoff := 0 }
  | some t =>
    let fenceUp := s.refillFence
    let r := s.settle t (s.find t fenceUp .a) (s.find t fenceUp .b)
    let s1 := ((s.setSurvey r.2.2).writeBlockers .a r.1).writeBlockers .b r.2.1
    let s2 := (s1.grantFound t .a r.1).grantFound t .b r.2.1
    s2.updateStandoff t (r.1.onOtherArm && r.2.1.onOtherArm)

/-! ## Zone view and survey record (R73, R74, R120) -/

/-- R73, R176: the zone view word of a zone. -/
def State.viewWord (s : State) (z : Nat) : Word :=
  match s.active with
  | none => 0
  | some t =>
    if z < t.nz.toNat then
      wordOf (markAt (anyCell (fun i c => t.zoneHas z i && c.ownedBy .a) 0 s.cells) 0 +
        markAt (anyCell (fun i c => t.zoneHas z i && c.ownedBy .b) 0 s.cells) 1 +
        markAt (s.fence.contains z) 2 + markAt (t.refillList.contains z) 3)
    else 0

/-- R74: capture the zone view. -/
def State.captureView (s : State) : State :=
  s.writeWords 0x060 ((List.range 32).map s.viewWord)

/-- R120, R176: words 2, 3 and 5–7 of the header. -/
def State.writeSurveyRecord (s : State) : State :=
  let v := s.survey
  (s.writeWords 0x002 [wordOf (v.count.toNat % 2 ^ 16), wordOf (v.count.toNat / 2 ^ 16)]).writeWords 0x005
    [wordOf (v.period + markAt v.hold 4),
     wordOf (v.mode.code + markAt (decide (v.favoured = .b)) 4 + sideCode v.oneShot * 2 ^ 8),
     wordOf v.standoff]

/-- R104: the survey count advances by 1 and the survey record is written. -/
def State.endGrantPhase (s : State) : State :=
  (s.setSurvey { s.survey with count := s.survey.count + 1 }).writeSurveyRecord

/-! ## The grant phase -/

/-- R80, R105, R106: intake and decision, unless HOLD is set; under HOLD the capture and the header writes alone. -/
def State.grantPhaseBody (s : State) (during : List Arrival) : State :=
  let s1 :=
    if s.survey.hold then s.arriveWhen during (fun k => decide (k ≤ 320))
    else (((s.intakeLane during .a).intakeLane during .b).arriveAt during 320).decideGrants
  ((s1.arriveFrom during 321).captureView).endGrantPhase

/-- SURVEY_GRANT_PHASE (R106). -/
def execSurveyGrantPhase (during : List Arrival) (s : State) : Host.Outcome State Fault Refusal :=
  .next (s.serve .grantPhase (fun s => s.grantPhaseBody during))

end Sys2Proof.Machine
end

