-- ==== Sys2Proof/Machine/Dispatch.lean ====
section
/-! DEFINITION. exec: one arm per command, each one direct call of its meaning. -/

namespace Sys2Proof.Machine

def exec (i : Instr) (s : State) : Host.Outcome State Fault Refusal :=
  match i with
  | .powerOn => Sys2Proof.Machine.execPowerOn s
  | .resetNAssert => Sys2Proof.Machine.execResetNAssert s
  | .resetNRelease => Sys2Proof.Machine.execResetNRelease s
  | .readyRise => Sys2Proof.Machine.execReadyRise s
  | .frameComplete arm chars => Sys2Proof.Machine.execFrameComplete arm chars s
  | .missTimerExpiry arm => Sys2Proof.Machine.execMissTimerExpiry arm s
  | .lossGraceExpiry arm => Sys2Proof.Machine.execLossGraceExpiry arm s
  | .stateSnapshotWrite arm => Sys2Proof.Machine.execStateSnapshotWrite arm s
  | .frameEvaluation arm during => Sys2Proof.Machine.execFrameEvaluation arm during s
  | .surveyTick during => Sys2Proof.Machine.execSurveyTick during s
  | .configurationService during => Sys2Proof.Machine.execConfigurationService during s
  | .refillTest => Sys2Proof.Machine.execRefillTest s
  | .surveyGrantPhase during => Sys2Proof.Machine.execSurveyGrantPhase during s
  | .surveyEnd => Sys2Proof.Machine.execSurveyEnd s
  | .rfreqChange high => Sys2Proof.Machine.execRfreqChange high s
  | .debounceExpiry => Sys2Proof.Machine.execDebounceExpiry s
  | .stallTimerExpiry => Sys2Proof.Machine.execStallTimerExpiry s
  | .installWindowExpiry => Sys2Proof.Machine.execInstallWindowExpiry s
  | .lockRequest port value meetsOther => Sys2Proof.Machine.execLockRequest port value meetsOther s
  | .lockRelease port value => Sys2Proof.Machine.execLockRelease port value s
  | .pstatRead port => Sys2Proof.Machine.execPstatRead port s
  | .pmaskWrite port value => Sys2Proof.Machine.execPmaskWrite port value s
  | .pguardRead port => Sys2Proof.Machine.execPguardRead port s
  | .registerWrite port select value => Sys2Proof.Machine.execRegisterWrite port select value s
  | .stagingWrite port offset value => Sys2Proof.Machine.execStagingWrite port offset value s
  | .memoryWrite port addr value => Sys2Proof.Machine.execMemoryWrite port addr value s
  | .feedIdleSeen arm => Sys2Proof.Machine.execFeedIdleSeen arm s

end Sys2Proof.Machine
end

