-- ==== Sys2Proof/Safety.lean ====
section
/-! DEFINITION. What counts as a sound state of the guard, in the terms the statements use: the invariants that the rules
give for whole records, and the figures that a reader of the exchange memory relies on. Every quantifier is over a bounded
range or a list, so that each predicate can be decided on a given state. -/

namespace Sys2Proof.Machine

/-- A condition on both arms, or on both ports. -/
abbrev bothSides (P : Side → Prop) : Prop := P .a ∧ P .b

/-- R171: the exchange memory is in its canonical form. -/
abbrev State.memoryOk (s : State) : Prop := s.mem.wf = true

/-! ## The claim table (R56, R57) -/

/-- R56: "An unowned cell has no linger mark, and an owned cell with claim count 0 has its linger mark set", an owned cell
being held (count above 0, mark clear) or lingering (count 0, mark set). -/
abbrev Cell.Ok (c : Cell) : Prop :=
  (c.owner = none → c.count = 0 ∧ c.linger = false) ∧ (c.owner ≠ none → (c.linger = true ↔ c.count = 0))

/-- R56, R57: 1024 records, each in one of the allowed conditions, and the tallies as the records give them. -/
abbrev State.claimTableOk (s : State) : Prop :=
  s.cells.length = 1024 ∧ (∀ c ∈ s.cells, Cell.Ok c) ∧ s.tallies = ⟨tallyOf s.cells .a, tallyOf s.cells .b⟩

/-! ## The lanes (R77–R79) -/

/-- R78, R79: the lists hold exactly the slots of their state, each once; a live slot holds a traverse; an UNSET lane
holds no live traverse. -/
abbrev Lane.Ok (l : Lane) : Prop :=
  (∀ k : Slot, k ∈ l.waitingList ↔ (l.slots.get k).state = .waiting) ∧
  (∀ k : Slot, k ∈ l.grantedList ↔ (l.slots.get k).state = .granted) ∧
  l.waitingList.Nodup ∧ l.grantedList.Nodup ∧
  (∀ k : Slot, (l.slots.get k).state = .waiting ∨ (l.slots.get k).state = .granted →
    (l.slots.get k).traverse.isSome = true) ∧
  (l.next = none → l.waitingList = [] ∧ l.grantedList = [])

/-- R78, R79 for both lanes. -/
abbrev State.lanesOk (s : State) : Prop := bothSides (fun arm => Lane.Ok (s.lanes.get arm))

/-- R82 order 5: a zone list that BAD_ZONE did not refuse. -/
abbrev ZoneTable.ZonesOk (t : ZoneTable) (zs : List Nat) : Prop := zs ≠ [] ∧ ∀ z ∈ zs, z < t.nz.toNat

/-- The traverse of a slot holds the cell. -/
def Lane.holds (l : Lane) (t : ZoneTable) (i : Nat) (k : Slot) : Bool :=
  match (l.slots.get k).traverse with
  | none => false
  | some tr => t.setHas tr.zones i

/-- R56: how many GRANTED traverses of the lane have the cell in their cell set. -/
def Lane.holders (l : Lane) (t : ZoneTable) (i : Nat) : Nat := (l.grantedList.filter (l.holds t i)).length

/-- R56, R60, R79 for one arm under the active table: at most W GRANTED traverses; every cell owned by the arm has as its
claim count the number of GRANTED traverses that hold it; and every cell that one of them holds is owned by the arm. -/
abbrev State.grantsOk (s : State) (t : ZoneTable) (arm : Arm) : Prop :=
  (s.lanes.get arm).grantedList.length ≤ (t.arms.get arm).w.toNat ∧
  (∀ k : Slot, ∀ tr ∈ ((s.lanes.get arm).slots.get k).traverse,
    ((s.lanes.get arm).slots.get k).state = .waiting ∨ ((s.lanes.get arm).slots.get k).state = .granted →
      t.ZonesOk tr.zones) ∧
  ∀ i < 1024,
    ((s.cell i).owner = some arm → (s.cell i).count = (s.lanes.get arm).holders t i) ∧
    (0 < (s.lanes.get arm).holders t i → (s.cell i).owner = some arm)

/-- R78, R56: with no active table no lane holds a live traverse, and so every claim count is 0; with one, R56, R60 and R79
hold for both arms, and the table is one that validation let through (R18). -/
abbrev State.ownershipOk (s : State) : Prop :=
  match s.active with
  | none => bothSides (fun arm => (s.lanes.get arm).waitingList = [] ∧ (s.lanes.get arm).grantedList = []) ∧
      ∀ c ∈ s.cells, c.count = 0
  | some t => t.validate = none ∧ bothSides (s.grantsOk t)

/-! ## The install status (R166) -/

/-- R166: "The pending table exists exactly while the state is PENDING", with its window timer; a reason stands exactly
with INVALID; a pending table has passed validation (R165) and carries the 32 zone records and 32 refill entries that the
copy takes (R165, R181). -/
abbrev Install.Ok (i : Install) : Prop :=
  (i.pendingTable.isSome = true ↔ i.state = .pending) ∧ (i.window.isSome = true ↔ i.state = .pending) ∧
  (i.reason.isSome = true ↔ i.state = .invalid) ∧ ∀ p ∈ i.pendingTable, p.table.validate = none ∧ p.table.zones.length = 32 ∧ p.table.refillEntries.length = 32

/-- The claim table, the lanes, who holds which cell, and the tables that give the cells their meaning, together. -/
abbrev State.claimsOk (s : State) : Prop :=
  s.claimTableOk ∧ s.lanesOk ∧ s.ownershipOk ∧ Install.Ok s.install

/-! ## The cause sets (R123, R124, R134) -/

/-- R123, R124, R134 for one arm: FEED exactly while the feed is not STEADY; UNSEATED exactly while the arm is not seated;
STOPPED exactly while the stop set holds one of the three causes; SHORTFALL and STARVED never both; NO_TABLE in both sets
exactly while no table is active. -/
abbrev State.causesOk (s : State) (arm : Arm) : Prop :=
  let e := s.enf.get arm
  (e.pause.feed = true ↔ (s.feeds.get arm).state ≠ .steady) ∧
  (e.pause.unseated = true ↔ e.seated = false) ∧
  (e.pause.stopped = true ↔ e.stop.trespass = true ∨ e.stop.feedLoss = true ∨ e.stop.seatConflict = true) ∧
  ¬ (e.pause.shortfall = true ∧ e.pause.starved = true) ∧
  (e.pause.noTable = true ↔ s.active = none) ∧ (e.stop.noTable = true ↔ s.active = none)

/-! ## The guard report (R186) -/

/-- R186: while the stage is history, each condition that holds has its history mark. -/
abbrev State.guardReportOk (s : State) (p : Port) : Prop :=
  (s.ports.get p).stage = .history → s.guardConditions &&& ~~~(s.ports.get p).history = 0

/-! ## The header (R176) -/

/-- R176, R146: word 0x00B. -/
def State.refillWord (s : State) : Word :=
  wordOf (s.refill.state.code + markAt s.refill.stalled 4 + markAt s.refill.debounced 5 +
    markAt (match s.active with | none => false | some t => t.hasRefillSet) 6)

/-- R176, R154: word 0x00C. -/
def State.lockWord (s : State) : Word := wordOf (sideCode s.lock.holder + sideCode s.lock.pendingPort * 2 ^ 4)

/-- R176, R166: word 0x008. -/
def State.installWord (s : State) : Word :=
  wordOf (s.install.state.code + (match s.install.reason with | none => 0 | some r => r.code) * 2 ^ 8)

/-- R176: unless RESET_N is asserted, the words written "at each change" show the state as it stands. -/
abbrev State.headerOk (s : State) : Prop :=
  s.resetAsserted = false →
    s.word 0x004 = s.statusWord ∧ s.word 0x008 = s.installWord ∧ s.word 0x009 = s.install.pendingSerial ∧
    s.word 0x00A = s.install.activeSerial ∧ s.word 0x00B = s.refillWord ∧ s.word 0x00C = s.lockWord

/-- R127: the snapshot counts are even. -/
abbrev State.snapshotsOk (s : State) : Prop :=
  bothSides (fun arm => (s.word (snapshotBase arm)).getLsbD 0 = false)

/-! ## The refill interlock (R153) -/

/-- R153: while the refill state is GRANTED, no cell of the refill set has an owner. -/
abbrev State.refillOk (s : State) : Prop :=
  s.refill.state = .granted → ∀ i < s.cells.length, s.refillCell i = true → (s.cell i).owner = none

/-! ## The lock (R154) -/

/-- R154: the holder is never also pending, and a pending port exists only while the lock has a holder. -/
abbrev Lock.Ok (l : Lock) : Prop :=
  ∀ q ∈ l.pendingPort, l.holder = some q.other

/-! ## The evaluation requests (R29, R30, R69) -/

/-- R29, R30, R69: exactly one evaluation request of an arm waits while its holding slot holds a frame, and none while it
is empty; a frame is held only while a table is active (R25). -/
abbrev State.requestsOk (s : State) (arm : Arm) : Prop :=
  s.waiting.flatten.count (.evaluation arm) = (if (s.feeds.get arm).holding.isSome then 1 else 0) ∧
  (s.active = none → (s.feeds.get arm).holding = none)

/-! ## The feed receivers (R32–R37) -/

/-- R32, R35, R36, R37: in ABSENT both timers are stopped; in LOST the miss timer is stopped; in ACQUIRING and STEADY it
runs; in STEADY the loss-grace timer is stopped; a feed that is not ABSENT has a last good sequence, and without a table
the feed is ABSENT (R25). -/
abbrev State.feedOk (s : State) (arm : Arm) : Prop :=
  let f := s.feeds.get arm
  (f.state = .absent → f.missTimer = none ∧ f.graceTimer = none) ∧
  (f.state = .lost → f.missTimer = none ∧ f.goodRun = 0) ∧
  (f.state = .acquiring ∨ f.state = .steady → f.missTimer.isSome = true ∧ f.lastSeq.isSome = true) ∧
  (f.state = .steady → f.graceTimer = none) ∧
  (s.active = none → f.state = .absent)

/-! ## Terms of the statements: what an event may change -/

/-- Flags as bits of PSTAT (R183). -/
def flagBits (fs : List Flag) : BitVec 11 := fs.foldl (fun b f => b ||| BitVec.ofNat 11 (2 ^ f.bit)) 0

/-- R183, R186: a port's registers after an event that has set the flags `fs` and has left the guard conditions as they
are in `t`. -/
def State.portAfter (s t : State) (p : Port) (fs : List Flag) : PortRegs :=
  let r := s.ports.get p
  { r with
    flags := r.flags ||| flagBits fs
    stage := if t.guardConditions = s.guardConditions then r.stage else .history
    history := if t.guardConditions = s.guardConditions then r.history else r.history ||| t.guardConditions }

/-- Both ports' registers after an event: the flags set on the named port and those set on the other port. -/
abbrev State.portsAfter (s t : State) (p : Port) (own others : List Flag) : Prop :=
  t.ports.get p = s.portAfter t p own ∧ t.ports.get p.other = s.portAfter t p.other others

/-- R125: the flags that an arm's cause sets raise on its own port, from `s` to `t`: PAUSE when the pause line has changed
level, STOP when a cause has entered the stop cause set. -/
def State.lineFlags (s t : State) (arm : Arm) : List Flag :=
  (if t.pauseLine arm = s.pauseLine arm then [] else [.pause]) ++
  (if (t.enf.get arm).stop.gains (s.enf.get arm).stop then [.stop] else [])

/-- R176: the status word shows `t`, and every other word is as in `s`. -/
abbrev State.statusShown (s t : State) : Prop := t.word 0x004 = t.statusWord ∧ ∀ a, a ≠ 0x004 → t.word a = s.word a

/-- Every word but those of a list is as before. -/
abbrev State.wordsKept (s t : State) (but : List Nat) : Prop := ∀ a, a ∉ but → t.word a = s.word a

/-- The offsets from `a` up, `n` of them. -/
def offsets (a n : Nat) : List Nat := (List.range n).map (fun k => a + k)

/-- The arbiter serves this request now, and no snapshot write is ordered that would be made first (R70, R128). -/
abbrev State.readyFor (s : State) (r : Request) : Prop :=
  s.servable r = true ∧ s.enf.a.snapshotOrdered = false ∧ s.enf.b.snapshotOrdered = false

/-! ## Terms of the statements: what a controller writes -/

/-- R23, R24: the ten bytes of a frame of correct form. -/
def feedBytes (arm : Arm) (status : BitVec 4) (q : Byte) (x y z : Word) : List Byte :=
  let low := fun (w : Word) => BitVec.ofNat 8 w.toNat
  let high := fun (w : Word) => BitVec.ofNat 8 (w.toNat / 2 ^ 8)
  let body := [BitVec.ofNat 8 (feedTag arm * 2 ^ 4 + status.toNat), q, low x, high x, low y, high y, low z, high z]
  0x5C :: body ++ [255 - body.foldl (· + ·) 0]

/-- R23: the held frame that those bytes give. -/
def feedFrame (status : BitVec 4) (q : Byte) (x y z : Word) (gap : Option Nat) : HeldFrame :=
  ⟨x, y, z, status.getLsbD 0, status.getLsbD 1, q, gap⟩

/-- R159: a mailbox holds a new command. -/
abbrev State.mailNew (s : State) (p : Port) : Prop :=
  tagOf (s.word (mailboxBase p)) ≠ tagOf (s.word (mailboxBase p + 16))

/-- R159, R178: the command that a mailbox's request half holds. -/
def State.mailCommand (s : State) (p : Port) : MailCommand :=
  MailCommand.ofWords ((List.range 16).map (fun k => s.word (mailboxBase p + k)))

/-- R102: a tick comes: the part is ready, the survey timer runs, and no survey is in progress. -/
abbrev State.tickDue (s : State) : Prop := s.ready = true ∧ s.survey.timer.isSome = true ∧ s.survey.sip = false

/-- R102: the survey arbiter after a tick: SIP is 1 and the timer runs for a full period. -/
def Survey.ticked (v : Survey) : Survey := { v with sip := true, timer := some (fullPeriod v.period) }

/-- R162, R178: a mailbox's result half as a command's end leaves it, beside its undefined words. -/
abbrev State.mailResult (t : State) (p : Port) (tag : Byte) (r : MailResult) (reason : Nat) : Prop :=
  t.word (mailboxBase p + 16) = wordOf tag.toNat ∧ t.word (mailboxBase p + 17) = wordOf r.code ∧
    t.word (mailboxBase p + 18) = wordOf reason

/-- The three words of a mailbox's result half. -/
def mailResultWords (p : Port) : List Nat := offsets (mailboxBase p + 16) 3

/-- R80: a slot holds a new command. -/
abbrev State.slotNew (s : State) (arm : Arm) (k : Slot) : Prop :=
  tagOf (s.word (slotBase arm k)) ≠ tagOf (s.word (slotBase arm k + 8))

/-! ## Terms of the statements: cells -/

/-- R66: every cell of the block is owned by the arm in the records given. -/
abbrev coveredIn (cell : Nat → Cell) (b : Option Block) (arm : Arm) : Prop :=
  ∀ i < 1024, blockHas b i = true → (cell i).owner = some arm

/-- The reach record that the run of a frame leaves (R42, R45). -/
def State.reachAfter (s : State) (t : ZoneTable) (arm : Arm) (f : HeldFrame) : Reach :=
  ({ (s.reach.get arm) with firstMark := f.gap.isNone }).run t (t.arms.get arm) f

end Sys2Proof.Machine
end

