-- ==== Sys2Proof/Certificates/Slice0/Obligations.lean ====
section
/-! DEFINITION. The statements about the model, for the provers. Each docstring names the rule it formalises, and where a
clause rests on a choice of the model, the log entry. -/

open Sys2Proof Sys2Proof.Machine

/-! ## The machine as a whole -/

/-- A step carries out the command at the front of the queue with the queue's rest; on an empty queue the block idles
(the model's choice, log 2). -/
def Obligations.StepTakesTheFrontCommand : Prop :=
  (∀ (s : State) (c : Instr) (rest : List Instr), s.pending = c :: rest →
    step s = exec c { s with pending := rest }) ∧
  ∀ s : State, s.pending = [] → step s = .next s

/-- Every command, whatever its operands and whatever the state, ends in a next state, and leaves the queue alone: no rule
describes a behaviour that stops the part (log 1). -/
def Obligations.EveryCommandAnswersAndKeepsTheQueue : Prop :=
  ∀ (c : Instr) (s : State), ∃ t, exec c s = .next t ∧ t.pending = s.pending

/-- The state right after power-on, item by item, by the reset tables of R40, R55, R58, R98, R121, R141, R142, R146, R154,
R163, R166, R183–R186. That the queue of commands is empty is the model's choice (log 29). -/
def Obligations.ResetStateIsAsTheSpecStates : Prop :=
  let s := State.reset
  s.ready = false ∧ s.active = none ∧ s.fence = [] ∧ s.accepted = [] ∧ s.waiting = [] ∧ s.pending = [] ∧
  (∀ p : Port, (s.ports.get p).flags = 0 ∧ (s.ports.get p).mask = 0 ∧ (s.ports.get p).stage = .history ∧
    (s.ports.get p).history = 0x0033) ∧
  (∀ arm : Arm,
    let f := s.feeds.get arm
    f.state = .absent ∧ f.goodRun = 0 ∧ f.faultRun = 0 ∧ f.lastSeq = none ∧ f.missTimer = none ∧ f.graceTimer = none ∧
      f.holding = none ∧ f.good = 0 ∧ f.bad = 0 ∧ f.duplicate = 0 ∧ f.overrun = 0 ∧ f.idleSeen = false) ∧
  (∀ arm : Arm,
    let r := s.reach.get arm
    r.position = none ∧ r.velocity = ⟨0, 0, 0⟩ ∧ r.stopReach = ⟨0, 0, 0⟩ ∧ r.stopPoint = none ∧ r.envelope = none ∧
      r.sweep = none ∧ r.firstMark = true ∧ r.enabled = false ∧ r.brake = false) ∧
  s.cells.length = 1024 ∧ (∀ i < 1024, s.cell i = ⟨none, 0, false⟩) ∧ s.tallies = ⟨⟨0, 0⟩, ⟨0, 0⟩⟩ ∧
  (∀ arm : Arm, (s.lanes.get arm).next = none ∧ (s.lanes.get arm).waitingList = [] ∧ (s.lanes.get arm).grantedList = [] ∧
    ∀ k : Slot, (s.lanes.get arm).slots.get k = ⟨.free, none⟩) ∧
  s.survey.period = 3 ∧ s.survey.hold = false ∧ s.survey.sip = false ∧ s.survey.count = 0 ∧ s.survey.mode = .alternate ∧
  s.survey.favoured = .a ∧ s.survey.oneShot = none ∧ s.survey.standoff = 0 ∧
  (∀ arm : Arm,
    let e := s.enf.get arm
    e.pause = ⟨true, true, true, false, false, false⟩ ∧ e.stop = ⟨true, false, false, false⟩ ∧ e.seated = false ∧
      e.runCounter = 0) ∧
  s.refill = ⟨.idle, false, none, false, none⟩ ∧ s.lock = ⟨none, none, .b⟩ ∧ s.install = ⟨.none, none, 0, 0, none, none⟩

/-- R173: what each word of exchange memory holds after power-on. -/
def powerOnWord (a : Nat) : Word :=
  if a = 0x000 then 0x2410 else if a = 0x001 then 1 else if a = 0x004 then 0x00F0 else if a = 0x005 then 3
  else if a = 0x006 then 2 else if a = 0x082 ∨ a = 0x0A2 then 7 else if a = 0x083 ∨ a = 0x0A3 then 1 else 0

/-- R173, with R141, R176 and R177: power-on from any state gives the reset state with READY 0, and every word of exchange
memory its initial contents. R141, R174, R183, R184, R58: while RESET_N is asserted READY is 0 and every piece of state has
its reset value; the exchange memory is not yet rewritten (log 19). After both, all four arm lines are asserted and both attention
lines released. The queue and the RFREQ line are not the part's to reset (logs 4, 20 and 29); the memory kept for reads
before READY is the model's own (log 13). -/
def Obligations.BothResetsGiveTheResetValues : Prop :=
  (∀ s : State, ∃ t, exec .powerOn s = .next t ∧
    t = { State.reset with pending := s.pending, rfreq := s.rfreq } ∧ t.ready = false ∧ (∀ a, t.word a = powerOnWord a) ∧
    (∀ arm : Arm, t.pauseLine arm = true ∧ t.stopLine arm = true) ∧ ∀ p : Port, t.attention p = false) ∧
  ∀ s : State, ∃ t, exec .resetNAssert s = .next t ∧
    t = { State.reset with
          pending := s.pending, rfreq := s.rfreq, resetAsserted := true, mem := s.mem
          memBefore := if s.ready then s.mem else s.memBefore } ∧
    t.ready = false ∧ (∀ arm : Arm, t.pauseLine arm = true ∧ t.stopLine arm = true) ∧
    ∀ p : Port, t.attention p = false

/-- R174, R99, R163: when RESET_N is released every guard-written word takes the contents that power-on leaves, but each
slot's and each mailbox's result tag, which takes the post tag found; request halves and the staging table keep what the
ports wrote. Every other piece of state has its reset value, as from the assertion on (the memory alone being rewritten now,
log 19); the RFREQ line keeps its level (log 4), and the memory kept for reads before READY, and the queue, are the model's own
(logs 13 and 29). A release while RESET_N is not asserted changes nothing (the model's choice, log 1). -/
def Obligations.ResetReleaseRewritesTheGuardWords : Prop :=
  (∀ s : State, s.memoryOk → s.resetAsserted = true → ∃ t, exec .resetNRelease s = .next t ∧
    t = { State.reset with pending := s.pending, rfreq := s.rfreq, mem := t.mem, memBefore := s.memBefore } ∧
    (∀ a, portWritten a = true → t.word a = s.word a) ∧
    (∀ p : Port, t.word (mailboxBase p + 16) = s.word (mailboxBase p) &&& 0x00FF) ∧
    (∀ (arm : Arm) (k : Slot), t.word (slotBase arm k + 8) = s.word (slotBase arm k) &&& 0x00FF) ∧
    ∀ a, portWritten a = false → (∀ p : Port, a ≠ mailboxBase p + 16) → (∀ (arm : Arm) (k : Slot), a ≠ slotBase arm k + 8) →
      t.word a = powerOnWord a) ∧
  ∀ s : State, s.resetAsserted = false → exec .resetNRelease s = .next s

/-- R173, R101: when the initial writes are complete READY becomes 1, and the survey timer starts for half the period:
250 µs at the period code 3 of a reset. The memory kept for reads before READY is the model's own (log 13). -/
def Obligations.ReadyRiseStartsTheSurveyTimer : Prop :=
  (∀ s : State, s.resetAsserted = false → s.ready = false →
    exec .readyRise s = .next { s with
      ready := true, memBefore := [], survey := { s.survey with timer := some (31250 * 2 ^ s.survey.period) } }) ∧
  ∃ t, exec .readyRise State.reset = .next t ∧ t.survey.timer = some 250000

/-! ## Feed receivers -/

/-- R25: while no table is active a completed frame is discarded, and the whole state stays as it is; R22: so does a frame
that completes before the receiver has seen 5 µs of idle, for it was never begun; and the idle, once seen, is remembered
(log 21), unless RESET_N is asserted. -/
def Obligations.FrameNeedsATableAndIdle : Prop :=
  (∀ (s : State) (arm : Arm) (chars : List LineChar), s.active = none → exec (.frameComplete arm chars) s = .next s) ∧
  (∀ (s : State) (arm : Arm) (chars : List LineChar), (s.feeds.get arm).idleSeen = false →
    exec (.frameComplete arm chars) s = .next s) ∧
  ∀ (s : State) (arm : Arm), s.resetAsserted = false →
    exec (.feedIdleSeen arm) s = .next { s with feeds := s.feeds.set arm { (s.feeds.get arm) with idleSeen := true } }

/-- R24: byte 9 is the check byte exactly when the sum of bytes 1 to 9 is 255 modulo 256; the check byte is 255 less the
sum of bytes 1 to 8, modulo 256; a frame whose byte 9 differs fails; the sync byte is not part of the sum. -/
def Obligations.CheckByteMakesTheSum255 : Prop :=
  ∀ bs : List Byte, bs.length = 10 →
    (byteAt bs 9 = checkByte bs ↔ (((bs.drop 1).map BitVec.toNat).sum % 256 = 255)) ∧
    (checkByte bs).toNat = 255 - (((bs.drop 1).take 8).map BitVec.toNat).sum % 256 ∧
    (byteAt bs 9 ≠ checkByte bs → ∀ arm, badFrame arm bs = true) ∧
    ∀ b : Byte, checkByte (bs.set 0 b) = checkByte bs

/-- The conditions of R26, in its order. -/
abbrev isBad (arm : Arm) (bs : List Byte) : Prop :=
  bs.length ≠ 10 ∨ byteAt bs 0 ≠ 0x5C ∨ ((bs.drop 1).map BitVec.toNat).sum % 256 ≠ 255 ∨
    (byteAt bs 1).toNat / 16 ≠ (match arm with | .a => 1 | .b => 2)

/-- R26, R33, R34: a bad frame, whatever is wrong with it, adds 1 to the bad count; in ACQUIRING the good run becomes 0,
in STEADY the fault run rises by 1 (here without reaching FC); in ABSENT and LOST nothing else changes. The fault that
reaches FC is FallCountLosesTheFeed's. R27: a frame of correct form that repeats the last good sequence adds 1 to the
duplicate count and changes nothing else, in every feed state. -/
def Obligations.BadAndDuplicateFramesAreCounted : Prop :=
  (∀ (s : State) (arm : Arm) (chars : List LineChar) (t : ZoneTable),
    let f := s.feeds.get arm
    s.active = some t → f.idleSeen = true → isBad arm (chars.map (fun c => c.data)) →
    ¬ (f.state = .steady ∧ (t.arms.get arm).fc.toNat ≤ f.faultRun + 1) →
    exec (.frameComplete arm chars) s = .next { s with
      feeds := s.feeds.set arm { f with
        bad := f.bad + 1
        goodRun := if f.state = .acquiring then 0 else f.goodRun
        faultRun := if f.state = .steady then f.faultRun + 1 else f.faultRun } }) ∧
  ∀ (s : State) (arm : Arm) (chars : List LineChar) (t : ZoneTable) (status : BitVec 4) (q : Byte) (x y z : Word),
    let f := s.feeds.get arm
    s.active = some t → f.idleSeen = true → chars.map (fun c => c.data) = feedBytes arm status q x y z →
    f.lastSeq = some q →
    exec (.frameComplete arm chars) s = .next { s with feeds := s.feeds.set arm { f with duplicate := f.duplicate + 1 } }

/-- R28–R30, R32, R35, R39, R45, R135: the first good frame of an acquisition: ACQUIRING with good run 1 and fault run 0,
the miss timer started, the frame held without a gap (replacing a held one, with an overrun, or asking the arbiter for an
evaluation), the reach record's first-frame mark set, FEED flagged and kept as a pause cause. -/
def Obligations.GoodFrameBeginsAcquisition : Prop :=
  ∀ (s : State) (arm : Arm) (chars : List LineChar) (t : ZoneTable) (status : BitVec 4) (q : Byte) (x y z : Word),
    let f := s.feeds.get arm
    s.memoryOk → s.active = some t → f.idleSeen = true → chars.map (fun c => c.data) = feedBytes arm status q x y z →
    f.lastSeq ≠ some q → f.state = .absent ∨ f.state = .lost →
    ∃ u, exec (.frameComplete arm chars) s = .next u ∧
      u = { s with feeds := u.feeds, reach := u.reach, enf := u.enf, ports := u.ports, waiting := u.waiting, mem := u.mem } ∧
      u.feeds = s.feeds.set arm { f with
        state := .acquiring, goodRun := 1, faultRun := 0, lastSeq := some q
        missTimer := some (missTime (t.arms.get arm)), good := f.good + 1
        holding := some (feedFrame status q x y z none)
        overrun := if f.holding.isSome then f.overrun + 1 else f.overrun } ∧
      u.reach = s.reach.set arm { (s.reach.get arm) with firstMark := true } ∧
      u.enf = s.enf.set arm { (s.enf.get arm) with pause := { (s.enf.get arm).pause with feed := true } } ∧
      u.waiting = (if f.holding.isSome then s.waiting else s.waiting ++ [[.evaluation arm]]) ∧
      s.portsAfter u arm ([.feed] ++ s.lineFlags u arm) [] ∧ s.statusShown u

/-- R28: the gap of a frame with sequence q after a last good sequence l, joined by R30 to that of a held frame. -/
def heldGap (f : Feed) (k : Nat) : Option Nat :=
  match f.holding with
  | none => some k
  | some h => h.gap.map (fun j => min 255 (j + k))

/-- R28–R30, R33, R34, R36: a good frame in ACQUIRING that does not yet bring the good run to RC adds 1 to it; in STEADY it
sets the fault run to 0. In both the miss timer restarts, the gap is the sequence less the last good one modulo 256, joined
to a held frame's, and no flag or cause changes. -/
def Obligations.GoodFrameKeepsTheFeedState : Prop :=
  ∀ (s : State) (arm : Arm) (chars : List LineChar) (t : ZoneTable) (status : BitVec 4) (q l : Byte) (x y z : Word),
    let f := s.feeds.get arm
    s.active = some t → f.idleSeen = true → chars.map (fun c => c.data) = feedBytes arm status q x y z →
    f.lastSeq = some l → l ≠ q →
    f.state = .steady ∨ (f.state = .acquiring ∧ f.goodRun + 1 < (t.arms.get arm).rc.toNat) →
    exec (.frameComplete arm chars) s = .next { s with
      feeds := s.feeds.set arm { f with
        goodRun := if f.state = .acquiring then f.goodRun + 1 else f.goodRun
        faultRun := if f.state = .steady then 0 else f.faultRun
        lastSeq := some q, missTimer := some (missTime (t.arms.get arm)), good := f.good + 1
        holding := some (feedFrame status q x y z (heldGap f (q - l).toNat))
        overrun := if f.holding.isSome then f.overrun + 1 else f.overrun }
      waiting := if f.holding.isSome then s.waiting else s.waiting ++ [[.evaluation arm]] }

/-- R33, R37, R39, R135: the good frame that brings the good run to RC makes the feed STEADY: the fault run is 0, the
loss-grace timer is cancelled, FEED is flagged and leaves the pause causes, and the pause-release run counter is 0. -/
def Obligations.RiseCountBringsSteady : Prop :=
  ∀ (s : State) (arm : Arm) (chars : List LineChar) (t : ZoneTable) (status : BitVec 4) (q l : Byte) (x y z : Word),
    let f := s.feeds.get arm
    s.memoryOk → s.active = some t → f.idleSeen = true → chars.map (fun c => c.data) = feedBytes arm status q x y z →
    f.lastSeq = some l → l ≠ q → f.state = .acquiring → (t.arms.get arm).rc.toNat ≤ f.goodRun + 1 →
    ∃ u, exec (.frameComplete arm chars) s = .next u ∧
      u = { s with feeds := u.feeds, enf := u.enf, ports := u.ports, waiting := u.waiting, mem := u.mem } ∧
      u.feeds = s.feeds.set arm { f with
        state := .steady, goodRun := f.goodRun + 1, faultRun := 0, lastSeq := some q
        missTimer := some (missTime (t.arms.get arm)), graceTimer := none, good := f.good + 1
        holding := some (feedFrame status q x y z (heldGap f (q - l).toNat))
        overrun := if f.holding.isSome then f.overrun + 1 else f.overrun } ∧
      u.enf = s.enf.set arm { (s.enf.get arm) with
        pause := { (s.enf.get arm).pause with feed := false }, runCounter := 0 } ∧
      u.waiting = (if f.holding.isSome then s.waiting else s.waiting ++ [[.evaluation arm]]) ∧
      s.portsAfter u arm ([.feed] ++ s.lineFlags u arm) [] ∧ s.statusShown u

/-- R36, R33, R34: a miss restarts the miss timer for 1.5 × FP rounded down to whole µs; in ACQUIRING it sets the good run to
0, in STEADY it adds 1 to the fault run (here without reaching FC). R37, R136: a loss-grace expiry while the feed is not STEADY
stops the timer, adds FEED_LOSS and STOPPED at once and orders a snapshot write. An expiry of a stopped timer changes nothing
(the model's choice, log 1). -/
def Obligations.FeedTimerExpiriesAct : Prop :=
  (∀ (s : State) (arm : Arm) (t : ZoneTable),
    let f := s.feeds.get arm
    s.active = some t → f.missTimer ≠ none → f.state = .acquiring ∨ f.state = .steady →
    ¬ (f.state = .steady ∧ (t.arms.get arm).fc.toNat ≤ f.faultRun + 1) →
    exec (.missTimerExpiry arm) s = .next { s with
      feeds := s.feeds.set arm { f with
        missTimer := some ((t.arms.get arm).fp.toNat * 3 / 2 * 1000)
        goodRun := if f.state = .acquiring then 0 else f.goodRun
        faultRun := if f.state = .steady then f.faultRun + 1 else f.faultRun } }) ∧
  (∀ (s : State) (arm : Arm), (s.feeds.get arm).missTimer = none → exec (.missTimerExpiry arm) s = .next s) ∧
  (∀ (s : State) (arm : Arm),
    let f := s.feeds.get arm
    let e := s.enf.get arm
    s.memoryOk → f.graceTimer ≠ none → f.state ≠ .steady →
    ∃ u, exec (.lossGraceExpiry arm) s = .next u ∧
      u = { s with feeds := s.feeds.set arm { f with graceTimer := none }, enf := u.enf, ports := u.ports, mem := u.mem } ∧
      u.enf = s.enf.set arm { e with
        pause := { e.pause with stopped := true }, stop := { e.stop with feedLoss := true }, snapshotOrdered := true } ∧
      s.portsAfter u arm (s.lineFlags u arm) [] ∧ s.statusShown u) ∧
  ∀ (s : State) (arm : Arm), (s.feeds.get arm).graceTimer = none → exec (.lossGraceExpiry arm) s = .next s

/-- The enforcement state when FEED_LOSS is added (R136), else as it was but for FEED. -/
def lostEnforcement (e : Enforcement) (loss : Bool) : Enforcement :=
  { e with
    pause := { e.pause with feed := true, stopped := e.pause.stopped || loss }
    stop := { e.stop with feedLoss := e.stop.feedLoss || loss }
    snapshotOrdered := true }

/-- R34, R35, R37, R39, R135, R136: the fault that brings the fault run to FC, a bad frame or a miss alike, loses the feed:
LOST, miss timer stopped, good run 0, the loss-grace timer started for LG ms or, with LG 0, FEED_LOSS and STOPPED put in at
once; FEED is flagged and held, and a snapshot write is ordered. -/
def Obligations.FallCountLosesTheFeed : Prop :=
  ∀ (s : State) (arm : Arm) (t : ZoneTable) (c : Instr) (bad : Word),
    let f := s.feeds.get arm
    let m := t.arms.get arm
    s.memoryOk → s.active = some t → f.state = .steady → m.fc.toNat ≤ f.faultRun + 1 →
    (c = .missTimerExpiry arm ∧ f.missTimer ≠ none ∧ bad = f.bad) ∨
      (∃ chars, c = .frameComplete arm chars ∧ f.idleSeen = true ∧ isBad arm (chars.map (fun c => c.data)) ∧
        bad = f.bad + 1) →
    ∃ u, exec c s = .next u ∧
      u = { s with feeds := u.feeds, enf := u.enf, ports := u.ports, mem := u.mem } ∧
      u.feeds = s.feeds.set arm { f with
        state := .lost, bad := bad, faultRun := f.faultRun + 1, goodRun := 0, missTimer := none
        graceTimer := if m.lg.toNat = 0 then f.graceTimer else some (m.lg.toNat * 1000000) } ∧
      u.enf = s.enf.set arm (lostEnforcement (s.enf.get arm) (decide (m.lg.toNat = 0))) ∧
      s.portsAfter u arm ([.feed] ++ s.lineFlags u arm) [] ∧ s.statusShown u

/-- R128, R177: the arm's snapshot words after a snapshot write for an event, which has left the state as it is in `u`. -/
abbrev Sys2Proof.Machine.State.eventShown (s u : State) (arm : Arm) : Prop :=
  let b := snapshotBase arm
  let e := u.enf.get arm
  let f := u.feeds.get arm
  u.word b = s.word b + 2 ∧
    u.word (b + 1) = (s.word (b + 1) &&& 0xFFEC) ||| wordOf (f.state.code + markAt e.seated 4) ∧
    u.word (b + 2) = wordOf e.pause.bits ∧ u.word (b + 3) = wordOf e.stop.bits ∧
    (∀ k, 4 ≤ k → k ≤ 14 → u.word (b + k) = s.word (b + k)) ∧
    u.word (b + 15) = (s.word (b + 15) &&& 1) ||| (match f.lastSeq with | none => 0 | some q => wordOf (2 + q.toNat * 256)) ∧
    u.word (b + 16) = wordOf (u.tallies.get arm).owned ∧ u.word (b + 17) = wordOf (u.tallies.get arm).lingering ∧
    u.word (b + 18) = f.good ∧ u.word (b + 19) = f.bad ∧ u.word (b + 20) = f.duplicate ∧ u.word (b + 21) = f.overrun

/-- R128, R177: a snapshot write for an event: the count rises twice; the feed state, the seated mark, both cause sets, the
tallies, the four counts and the last good sequence are shown as they stand (the last of these DEDUCED, log 11); the drive
status, position, velocity, stop reach and current traverse stay as the last stage 7 wrote them; every other word is as
before. With no write ordered the command changes nothing (the model's choice, log 9). -/
def Obligations.OrderedSnapshotWriteShowsTheEvent : Prop :=
  (∀ (s : State) (arm : Arm),
    let e := s.enf.get arm
    s.memoryOk → e.snapshotOrdered = true →
    ∃ u, exec (.stateSnapshotWrite arm) s = .next u ∧
      u = { s with enf := s.enf.set arm { e with snapshotOrdered := false }, mem := u.mem } ∧
      s.eventShown u arm ∧ s.wordsKept u (offsets (snapshotBase arm) 22)) ∧
  ∀ (s : State) (arm : Arm), (s.enf.get arm).snapshotOrdered = false → exec (.stateSnapshotWrite arm) s = .next s

/-- R128, R72: the ordered snapshot writes of both arms are made before any service begins: a service that the arbiter would
serve now has the same outcome when they have been made first. R70: the arbiter serves a request that none has waited longer
than, that is, one of the group that has waited longest; new requests join behind those that wait; the service that ends leaves
the others in their order. A service that is not the one to serve does not take place, and changes nothing (the model's choice,
log 1; groups: log 8). -/
def Obligations.OrderedSnapshotsPrecedeEveryService : Prop :=
  ∀ (s : State) (during : List Arrival) (c : Instr) (r : Request),
    (∃ arm, r = .evaluation arm ∧ c = .frameEvaluation arm during) ∨ (r = .configuration ∧ c = .configurationService during) ∨
      (r = .refillTest ∧ c = .refillTest) ∨ (r = .grantPhase ∧ c = .surveyGrantPhase during) →
    (s.servable r = true ↔ ∃ group later, s.waiting = group :: later ∧ r ∈ group) ∧
    (s.servable r = true →
      ∃ u v w, exec (.stateSnapshotWrite .a) s = .next u ∧ exec (.stateSnapshotWrite .b) u = .next v ∧
        exec c s = .next w ∧ exec c v = .next w) ∧
    (s.servable r = false → exec c s = .next s) ∧
    (s.dropRequest r).waiting.flatten = s.waiting.flatten.filter (fun q => q != r) ∧
    ∀ rs : List Request, (s.requestTogether rs).waiting.flatten = s.waiting.flatten ++ rs

/-! ## Stop reach -/

/-- R49 on one axis: the stop point q of a position c with velocity v and stop reach d. -/
abbrev stopPointRule (c v : Int) (d : Nat) (q : Int) : Prop :=
  (0 < v → q = min 32767 (c + d)) ∧ (v < 0 → q = max (-32768) (c - d)) ∧ (v = 0 → q = c) ∧
    (0 ≤ v → c ≤ q) ∧ (v ≤ 0 → q ≤ c) ∧ -32768 ≤ q ∧ q ≤ 32767

/-- R49: the stop point lies the stop reach ahead of the position on the side toward which the arm moves, or at the end of
the coordinate range, whichever is nearer; with velocity 0 it is the position. -/
def Obligations.StopPointIsStopReachAhead : Prop :=
  ∀ (r : Reach) (t : ZoneTable) (m : ArmFields) (f : HeldFrame),
    let n := r.run t m f
    ∃ c q : Vec Int, n.position = some c ∧ n.stopPoint = some q ∧
      stopPointRule c.x n.velocity.x n.stopReach.x q.x ∧ stopPointRule c.y n.velocity.y n.stopReach.y q.y ∧
      stopPointRule c.z n.velocity.z n.stopReach.z q.z

/-- R50 on one axis: the envelope range e and the sweep range w of a position c, a stop point q and a half-width h. -/
abbrev blockRule (c q : Int) (h : Nat) (v : Int) (d : Nat) (e w : AxisRange) : Prop :=
  e.lo = max (-32768) (c - h) ∧ e.hi = min 32767 (c + h) ∧
    w.lo = max (-32768) (min c q - h) ∧ w.hi = min 32767 (max c q + h) ∧
    e.lo ≤ e.hi ∧ w.lo ≤ w.hi ∧ w.lo ≤ e.lo ∧ e.hi ≤ w.hi ∧ (v = 0 ∨ d = 0 → w.lo = e.lo ∧ w.hi = e.hi)

/-- R50: both blocks as coordinate ranges, saturated; low ends at most high ends; the sweep range contains the envelope range,
and equals it on an axis whose velocity or stop reach is 0. -/
def Obligations.BlocksAreWidenedRanges : Prop :=
  ∀ (r : Reach) (t : ZoneTable) (m : ArmFields) (f : HeldFrame),
    let n := r.run t m f
    ∃ (c q : Vec Int) (e w : Block), n.position = some c ∧ n.stopPoint = some q ∧ n.envelope = some e ∧ n.sweep = some w ∧
      blockRule c.x q.x m.hx.toNat n.velocity.x n.stopReach.x e.x w.x ∧
      blockRule c.y q.y m.hy.toNat n.velocity.y n.stopReach.y e.y w.y ∧
      blockRule c.z q.z m.hz.toNat n.velocity.z n.stopReach.z e.z w.z

/-- R51: a coordinate range as an index range: none when it lies wholly below or wholly above the grid, and otherwise
trimmed to the grid; an index is in it exactly when the range touches it, a coordinate on a boundary lying in the higher
index. The blocks of a run are so converted, with 16 columns, 16 rows and 4 tiers. -/
def Obligations.IndexRangeHoldsEveryTouchedIndex : Prop :=
  (∀ (lo hi : Int) (p n : Nat), 0 < p → 0 < n → lo ≤ hi →
    (hi < 0 → indexRange lo hi p n = none) ∧
    (0 ≤ lo ∧ (n : Int) - 1 < lo / p → indexRange lo hi p n = none) ∧
    (0 ≤ hi → ¬ (0 ≤ lo ∧ (n : Int) - 1 < lo / p) →
      indexRange lo hi p n = some ((if 0 ≤ lo then lo / (p : Int) else 0).toNat, (min ((n : Int) - 1) (hi / p)).toNat)) ∧
    ∀ i : Nat, (AxisRange.mk lo hi (indexRange lo hi p n)).has i = true ↔
      i < n ∧ ∃ x : Int, lo ≤ x ∧ x ≤ hi ∧ (i : Int) * p ≤ x ∧ x < ((i : Int) + 1) * p) ∧
  ∀ (t : ZoneTable) (m : ArmFields) (c q : Vec Int),
    let b := blockBetween t m c q
    b.x.cells = indexRange b.x.lo b.x.hi t.px.toNat 16 ∧ b.y.cells = indexRange b.y.lo b.y.hi t.py.toNat 16 ∧
      b.z.cells = indexRange b.z.lo b.z.hi t.pz.toNat 4

/-- n is d / k rounded up. -/
abbrev roundedUp (d k n : Nat) : Prop := d ≤ n * k ∧ (n = 0 ∨ (n - 1) * k < d)

/-- R46 on one axis. -/
abbrev velocityRule (new old v : Int) (k : Nat) : Prop :=
  (∃ n, roundedUp (new - old).natAbs k n ∧ v.natAbs = min 4095 n) ∧
    (0 < new - old → 0 < v) ∧ (new - old < 0 → v < 0) ∧ (new = old → v = 0)

/-- R47, R48 on one axis. -/
abbrev stopReachRule (m : ArmFields) (brake : Bool) (v : Int) (d : Nat) : Prop :=
  (brake = true → d = 0) ∧
    (brake = false → (∃ n, roundedUp (8 * (v.natAbs * v.natAbs)) m.dec.toNat n ∧ d = min 8191 (v.natAbs * m.rf.toNat + n)) ∧
      (v ≠ 0 → 1 ≤ d) ∧ (v = 0 → d = 0))

/-- R43 on one axis. -/
abbrev transformRule (offset raw : Word) (mirror : Bool) (c : Int) : Prop :=
  c = max (-32768) (min 32767 (if mirror then offset.toInt - raw.toInt else offset.toInt + raw.toInt))

/-- R43, R45–R48: the position is the arm's offset plus the raw coordinate, or minus it on an axis with the mirror mark, which
z never has, saturated; the drive status is the frame's; the velocity is 0 for a frame with the first-frame mark, and else the
difference of the positions over the gap, its magnitude rounded up and limited to 4095; the stop reach is the reaction travel
plus the braking travel rounded up, limited to 8191, and 0 with the brake engaged. -/
def Obligations.VelocityAndStopReachNeverUnderstate : Prop :=
  ∀ (r : Reach) (t : ZoneTable) (m : ArmFields) (f : HeldFrame), 0 < m.dec.toNat →
    let n := r.run t m f
    (∃ c, n.position = some c ∧ transformRule m.dx f.x m.mirrorX c.x ∧ transformRule m.dy f.y m.mirrorY c.y ∧
      transformRule m.dz f.z false c.z) ∧
    n.enabled = f.enabled ∧ n.brake = f.brake ∧
    (f.gap = none → n.velocity = ⟨0, 0, 0⟩) ∧
    (∀ (k : Nat) (p c : Vec Int), f.gap = some k → 0 < k → r.position = some p → n.position = some c →
      velocityRule c.x p.x n.velocity.x k ∧ velocityRule c.y p.y n.velocity.y k ∧ velocityRule c.z p.z n.velocity.z k) ∧
    stopReachRule m f.brake n.velocity.x n.stopReach.x ∧ stopReachRule m f.brake n.velocity.y n.stopReach.y ∧
    stopReachRule m f.brake n.velocity.z n.stopReach.z

/-! ## The claim table -/

/-- Only the cell records and the tallies differ, and the tallies count the records (R57). -/
abbrev Sys2Proof.Machine.State.cellsOnly (s u : State) : Prop :=
  u = { s with cells := u.cells, tallies := u.tallies } ∧ u.tallies = ⟨tallyOf u.cells .a, tallyOf u.cells .b⟩

/-- R57, R59, R61, R62, R64, R65: what a claim, a release, a linger sweep and a seize do to each cell record, and that they
touch nothing else. A release is made of cells that the arm holds (R61). -/
def Obligations.CellOperationsChangeTheirCells : Prop :=
  ∀ (s : State) (arm : Arm) (inSet : Nat → Bool),
    s.cellsOnly (s.claim arm inSet) ∧ s.cellsOnly (s.release arm inSet) ∧ s.cellsOnly (s.lingerSweep arm) ∧
    s.cellsOnly (s.seize arm inSet) ∧
    ∀ i < s.cells.length,
      let c := s.cell i
      let r := s.reach.get arm
      (s.claim arm inSet).cell i = (if inSet i then ⟨some arm, c.count + 1, false⟩ else c) ∧
      (inSet i = false → (s.release arm inSet).cell i = c) ∧
      (inSet i = true → c.owner = some arm → 1 < c.count → (s.release arm inSet).cell i = { c with count := c.count - 1 }) ∧
      (inSet i = true → c.owner = some arm → c.count = 1 →
        (s.release arm inSet).cell i =
          if (s.feeds.get arm).state = .steady ∧ r.firstMark = false ∧ blockHas r.sweep i = false then ⟨none, 0, false⟩
          else ⟨some arm, 0, true⟩) ∧
      (s.lingerSweep arm).cell i =
        (if c.owner = some arm ∧ c.linger = true ∧ blockHas r.sweep i = false then ⟨none, 0, false⟩ else c) ∧
      (s.seize arm inSet).cell i =
        (if blockHas r.envelope i = true ∧ inSet i = false ∧ c.owner = none then ⟨some arm, 0, true⟩ else c)

/-- R52: the envelope block's cells are always among the sweep block's. R66, R64: a linger sweep never uncovers a block whose
cells are all the sweep block's, and it leaves held cells and the other arm's cells alone. -/
def Obligations.LingerSweepNeverUncovers : Prop :=
  (∀ (r : Reach) (t : ZoneTable) (m : ArmFields) (f : HeldFrame) (i : Nat),
    blockHas (r.run t m f).envelope i = true → blockHas (r.run t m f).sweep i = true) ∧
  ∀ (s : State) (arm : Arm) (b : Option Block), s.cells.length = 1024 →
    (∀ i < 1024, blockHas b i = true → blockHas (s.reach.get arm).sweep i = true) →
    coveredIn s.cell b arm → coveredIn (s.lingerSweep arm).cell b arm ∧
      ∀ i < 1024, (s.cell i).owner ≠ some arm ∨ (s.cell i).linger = false → (s.lingerSweep arm).cell i = s.cell i

/-! ## The frame evaluation -/

/-- R31, R45, R53, R126: a frame taken while its feed is not STEADY passes the arithmetic and the snapshot only. R30, R53, R126,
R129: so, in effect, does a frame with the first-frame mark that is taken in STEADY for an arm already seated: no seize, no later
check, no countdown, no cause and no flag; the status word shows the state as it stands. -/
def Obligations.EvaluationOutsideSteadyOnlyShows : Prop :=
  (∀ (s : State) (arm : Arm) (t : ZoneTable) (f : HeldFrame),
    s.readyFor (.evaluation arm) → s.active = some t → (s.feeds.get arm).holding = some f →
    (s.feeds.get arm).state ≠ .steady →
    ∃ u, exec (.frameEvaluation arm []) s = .next u ∧
      u = { s with
            feeds := s.feeds.set arm { (s.feeds.get arm) with holding := none }
            reach := s.reach.set arm (s.reachAfter t arm f)
            waiting := (s.dropRequest (.evaluation arm)).waiting, mem := u.mem } ∧
      s.wordsKept u (offsets (snapshotBase arm) 22)) ∧
  ∀ (s : State) (arm : Arm) (t : ZoneTable) (f : HeldFrame),
    s.readyFor (.evaluation arm) → s.memoryOk → s.active = some t → (s.feeds.get arm).holding = some f →
    (s.feeds.get arm).state = .steady → f.gap = none → (s.enf.get arm).seated = true →
    ∃ u, exec (.frameEvaluation arm []) s = .next u ∧
      u = { s with
            feeds := s.feeds.set arm { (s.feeds.get arm) with holding := none }
            reach := s.reach.set arm (s.reachAfter t arm f)
            waiting := (s.dropRequest (.evaluation arm)).waiting, mem := u.mem } ∧
      u.word 0x004 = u.statusWord ∧ s.wordsKept u (0x004 :: offsets (snapshotBase arm) 22) ∧
      (s.word 0x004 = s.statusWord → s.wordsKept u (offsets (snapshotBase arm) 22))

/-- A fully evaluated frame (R126): served now, taken in STEADY, without the first-frame mark. -/
abbrev Sys2Proof.Machine.State.fullFrame (s : State) (arm : Arm) (t : ZoneTable) (f : HeldFrame) (k : Nat) : Prop :=
  s.readyFor (.evaluation arm) ∧ s.cells.length = 1024 ∧ s.active = some t ∧ (s.feeds.get arm).holding = some f ∧
    (s.feeds.get arm).state = .steady ∧ f.gap = some k

/-- R126: what an evaluation of a STEADY frame leaves: the frame is taken out and its request served, the reach record is that of
its run, and but for these, the arm's causes, the cells, the arm's lane, flags and memory nothing changes. -/
abbrev Sys2Proof.Machine.State.evaluated (s : State) (arm : Arm) (t : ZoneTable) (f : HeldFrame) (u : State) : Prop :=
  u = { s with
        feeds := s.feeds.set arm { (s.feeds.get arm) with holding := none }
        reach := s.reach.set arm (s.reachAfter t arm f)
        waiting := (s.dropRequest (.evaluation arm)).waiting
        enf := u.enf, cells := u.cells, tallies := u.tallies, lanes := u.lanes, ports := u.ports, mem := u.mem } ∧
    u.enf.get arm.other = s.enf.get arm.other ∧ u.lanes.get arm.other = s.lanes.get arm.other ∧
    u.word 0x004 = u.statusWord

/-- R92: no countdown is due: the arm has no current traverse, or an OPEN one. -/
abbrev Sys2Proof.Machine.State.noCountdown (s : State) (arm : Arm) : Prop :=
  ∀ tr, s.current arm = some tr → tr.mode = .openEnded

/-- R129: a cell that seating may not take: closed, or of the refill set while refill is GRANTED, which the refill fence closes
as well (R130). -/
abbrev Sys2Proof.Machine.State.taboo (s : State) (i : Nat) : Prop :=
  s.fencedCell i = true ∨ (s.refill.state ≠ .idle ∧ s.refillCell i = true)

/-- R129, R65: seating would take the cell against the reach record r. -/
abbrev Sys2Proof.Machine.State.seatTakes (s : State) (r : Reach) (i : Nat) : Prop :=
  blockHas r.envelope i = true ∧ (s.cell i).owner = none ∧ ¬ s.taboo i

/-- R130: seating against the reach record r finds a conflict. -/
abbrev Sys2Proof.Machine.State.seatConflicts (s : State) (arm : Arm) (r : Reach) : Prop :=
  ∃ i < 1024, blockHas r.envelope i = true ∧ ((s.cell i).owner = some arm.other ∨ s.taboo i)

/-- R129, R64: a cell after stages 2 and 3 against the reach record r: seized if the arm was unseated, then swept. -/
def Sys2Proof.Machine.State.stagedCell (s : State) (arm : Arm) (r : Reach) (i : Nat) : Cell :=
  sweepCell arm r.sweep i
    (if (s.enf.get arm).seated = false ∧ s.seatTakes r i then ⟨some arm, 0, true⟩ else s.cell i)

/-- R132: the shortfall cause by the lane. -/
abbrev shortfallByLane (l : Lane) (p : PauseSet) : Prop :=
  (l.waitingList ≠ [] → p.shortfall = true ∧ p.starved = false) ∧ (l.waitingList = [] → p.shortfall = false ∧ p.starved = true)

/-- R126, R129–R133: the checks of a fully evaluated frame, of a seated arm or of one that the same evaluation seats, against the
records after seating and linger sweep: TRESPASS and STOPPED join when the envelope is not covered; a seating that finds a conflict
adds SEAT_CONFLICT and STOPPED as well, and takes UNSEATED out; the run counter counts covered sweep blocks up to 15; an uncovered
one gives SHORTFALL or STARVED by the lane; either leaves at PR covered frames, and until then follows the lane. Where no countdown
is due the lanes stay, PAUSE and STOP are flagged as lines and causes change, and the status word and the snapshot alone are written
(a countdown: EvaluationCountsTheCurrentTraverseDown). -/
def Obligations.SteadyEvaluationChecksCoverage : Prop :=
  ∀ (s : State) (arm : Arm) (t : ZoneTable) (f : HeldFrame) (k : Nat), s.fullFrame arm t f k →
    let r := s.reachAfter t arm f
    let e := s.enf.get arm
    let l := s.lanes.get arm
    let conflict := e.seated = false ∧ s.seatConflicts arm r
    ∃ u, exec (.frameEvaluation arm []) s = .next u ∧ u.reach = s.reach.set arm r ∧
      u.enf.get arm.other = s.enf.get arm.other ∧
      (s.noCountdown arm →
        u.lanes = s.lanes ∧ (∀ i < 1024, u.cell i = s.stagedCell arm r i) ∧ s.portsAfter u arm (s.lineFlags u arm) [] ∧
        (s.memoryOk → s.evaluated arm t f u ∧ s.wordsKept u (0x004 :: offsets (snapshotBase arm) 22))) ∧
      (let n := u.enf.get arm
       let free := coveredIn (s.stagedCell arm r) r.envelope arm
       let ahead := coveredIn (s.stagedCell arm r) r.sweep arm
       n.stop = { e.stop with trespass := n.stop.trespass, seatConflict := n.stop.seatConflict } ∧
       (n.stop.trespass = true ↔ e.stop.trespass = true ∨ ¬ free) ∧
       (n.stop.seatConflict = true ↔ e.stop.seatConflict = true ∨ conflict) ∧
       n.pause = { e.pause with
         unseated := e.pause.unseated && e.seated, shortfall := n.pause.shortfall, starved := n.pause.starved
         stopped := n.pause.stopped } ∧
       (n.pause.stopped = true ↔ e.pause.stopped = true ∨ ¬ free ∨ conflict) ∧
       n.seated = true ∧ n.snapshotOrdered = false ∧
       (¬ ahead → n.runCounter = 0 ∧ shortfallByLane l n.pause) ∧
       (ahead → n.runCounter = min 15 (e.runCounter + 1)) ∧
       (ahead → (t.arms.get arm).pr.toNat ≤ n.runCounter → n.pause.shortfall = false ∧ n.pause.starved = false) ∧
       (ahead → n.runCounter < (t.arms.get arm).pr.toNat →
         (e.pause.shortfall = true ∨ e.pause.starved = true → shortfallByLane l n.pause) ∧
         (e.pause.shortfall = false ∧ e.pause.starved = false → n.pause.shortfall = false ∧ n.pause.starved = false)))

/-- R91–R93, R61, R62, R64: the countdown of a fully evaluated frame, of a seated arm or of one that it seats. With no COUNTED
current traverse the lane stays as it is; else frames remaining falls by k, and at 0 the traverse is DONE, leaves the granted list,
LANE is set, and its cells are released against the sweep block just formed. Every piece of state but those of an evaluation stays
(`evaluated`; the causes: SteadyEvaluationChecksCoverage). -/
def Obligations.EvaluationCountsTheCurrentTraverseDown : Prop :=
  ∀ (s : State) (arm : Arm) (t : ZoneTable) (f : HeldFrame) (k : Nat), s.fullFrame arm t f k → s.memoryOk →
    s.claimTableOk →
    let r := s.reachAfter t arm f
    let l := s.lanes.get arm
    (s.noCountdown arm →
      ∃ u, exec (.frameEvaluation arm []) s = .next u ∧ s.evaluated arm t f u ∧ u.lanes = s.lanes ∧
        (∀ i < 1024, u.cell i = s.stagedCell arm r i) ∧
        s.portsAfter u arm (s.lineFlags u arm) [] ∧ s.wordsKept u (0x004 :: offsets (snapshotBase arm) 22)) ∧
    ∀ (slot : Slot) (tr : Traverse), s.currentSlot arm = some slot → (s.entry arm slot).traverse = some tr →
      tr.mode = .counted →
      (k < tr.remaining →
        ∃ u, exec (.frameEvaluation arm []) s = .next u ∧ s.evaluated arm t f u ∧
          u.lanes = s.lanes.set arm { l with
            slots := l.slots.set slot.val ⟨(s.entry arm slot).state, some { tr with remaining := tr.remaining - k }⟩ } ∧
          (∀ i < 1024, u.cell i = s.stagedCell arm r i) ∧ s.portsAfter u arm (s.lineFlags u arm) [] ∧
          u.word (slotBase arm slot + 12) = wordOf (tr.remaining - k) ∧
          s.wordsKept u (0x004 :: (slotBase arm slot + 12) :: offsets (snapshotBase arm) 22)) ∧
      (tr.remaining ≤ k → (s.entry arm slot).state = .granted →
        (∀ i < 1024, t.setHas tr.zones i = true → (s.cell i).owner = some arm ∧ 0 < (s.cell i).count) →
        ∃ u, exec (.frameEvaluation arm []) s = .next u ∧ s.evaluated arm t f u ∧
          u.lanes = s.lanes.set arm { l with
            slots := l.slots.set slot.val ⟨.done, some { tr with remaining := 0 }⟩
            grantedList := l.grantedList.filter (fun x => x != slot) } ∧
          (∀ i < 1024, u.cell i =
            if t.setHas tr.zones i = true then
              (if 1 < (s.cell i).count then { (s.cell i) with count := (s.cell i).count - 1 }
               else if blockHas r.sweep i = true then ⟨some arm, 0, true⟩ else ⟨none, 0, false⟩)
            else s.stagedCell arm r i) ∧
          s.portsAfter u arm ([.lane] ++ s.lineFlags u arm) [] ∧
          u.word (slotBase arm slot + 12) = 0 ∧ u.word (slotBase arm slot + 10) = (s.word (slotBase arm slot + 10) &&& 0xFFF8) ||| 3 ∧
          s.wordsKept u (0x004 :: (slotBase arm slot + 12) :: (slotBase arm slot + 10) :: offsets (snapshotBase arm) 22))

/-- R129, R130, R126: the first frame taken in STEADY seats the arm, whatever the seize finds, takes UNSEATED out, and adds
SEAT_CONFLICT with STOPPED when the envelope holds a cell of the other arm, a closed cell, or a refill-set cell while refill
is GRANTED. For a frame with the first-frame mark, which passes no later check, the cells taken and the sets are given whole. -/
def Obligations.SeatingTakesTheFreeEnvelope : Prop :=
  ∀ (s : State) (arm : Arm) (t : ZoneTable) (f : HeldFrame),
    s.readyFor (.evaluation arm) → s.cells.length = 1024 → s.active = some t → (s.feeds.get arm).holding = some f →
    (s.feeds.get arm).state = .steady → (s.enf.get arm).seated = false →
    let r := s.reachAfter t arm f
    let e := s.enf.get arm
    let conflict := s.seatConflicts arm r
    ∃ u, exec (.frameEvaluation arm []) s = .next u ∧
      (let n := u.enf.get arm
       n.seated = true ∧ n.pause.unseated = false ∧ (n.stop.seatConflict = true ↔ e.stop.seatConflict = true ∨ conflict) ∧
       (f.gap = none →
         (∀ i < 1024,
           (s.seatTakes r i → u.cell i = ⟨some arm, 0, true⟩) ∧ (¬ s.seatTakes r i → u.cell i = s.cell i)) ∧
         (s.memoryOk → s.evaluated arm t f u) ∧ u.lanes = s.lanes ∧ n.stop = { e.stop with seatConflict := n.stop.seatConflict } ∧
         n.pause = { e.pause with unseated := false, stopped := n.pause.stopped } ∧
         (n.pause.stopped = true ↔ e.pause.stopped = true ∨ conflict) ∧ n.runCounter = e.runCounter ∧
         u.enf.get arm.other = s.enf.get arm.other ∧ s.portsAfter u arm (s.lineFlags u arm) [] ∧
         (s.memoryOk → s.wordsKept u (0x004 :: offsets (snapshotBase arm) 22))))

/-- R127, R177: whatever arrives during it, an evaluation ends with a snapshot that shows the state as it stands: every word
of the layout, with the count raised twice. -/
def Obligations.EvaluationSnapshotShowsTheState : Prop :=
  ∀ (s : State) (arm : Arm) (during : List Arrival) (t : ZoneTable) (f : HeldFrame),
    s.readyFor (.evaluation arm) → s.memoryOk → s.active = some t → (s.feeds.get arm).holding = some f →
    ∃ u, exec (.frameEvaluation arm during) s = .next u ∧
      (let b := snapshotBase arm
       let e := u.enf.get arm
       let d := u.feeds.get arm
       let r := u.reach.get arm
       u.word b = s.word b + 2 ∧
       u.word (b + 1) = wordOf (d.state.code + markAt e.seated 4 + markAt r.enabled 8 + markAt r.brake 9) ∧
       u.word (b + 2) = wordOf (markAt e.pause.noTable 0 + markAt e.pause.feed 1 + markAt e.pause.unseated 2 +
         markAt e.pause.shortfall 3 + markAt e.pause.starved 4 + markAt e.pause.stopped 5) ∧
       u.word (b + 3) = wordOf (markAt e.stop.noTable 0 + markAt e.stop.trespass 1 + markAt e.stop.feedLoss 2 +
         markAt e.stop.seatConflict 3) ∧
       (∃ p, r.position = some p ∧ u.word (b + 4) = BitVec.ofInt 16 p.x ∧ u.word (b + 5) = BitVec.ofInt 16 p.y ∧
         u.word (b + 6) = BitVec.ofInt 16 p.z) ∧
       u.word (b + 7) = BitVec.ofInt 16 r.velocity.x ∧ u.word (b + 8) = BitVec.ofInt 16 r.velocity.y ∧
       u.word (b + 9) = BitVec.ofInt 16 r.velocity.z ∧
       u.word (b + 10) = wordOf r.stopReach.x ∧ u.word (b + 11) = wordOf r.stopReach.y ∧
       u.word (b + 12) = wordOf r.stopReach.z ∧
       (let sequence := match d.lastSeq with | none => 0 | some q => 2 + q.toNat * 256
        match u.current arm with
        | none => u.word (b + 13) = 0 ∧ u.word (b + 14) = 0 ∧ u.word (b + 15) = wordOf sequence
        | some tr => u.word (b + 13) = tr.number ∧ u.word (b + 14) = wordOf tr.remaining ∧
            u.word (b + 15) = wordOf (1 + sequence)) ∧
       u.word (b + 16) = wordOf (u.tallies.get arm).owned ∧ u.word (b + 17) = wordOf (u.tallies.get arm).lingering ∧
       u.word (b + 18) = d.good ∧ u.word (b + 19) = d.bad ∧ u.word (b + 20) = d.duplicate ∧ u.word (b + 21) = d.overrun)

/-! ## The survey tick and the mailboxes -/

/-- R69, R102: the requests that begin to wait together at a tick. -/
def tickGroup (service requested : Bool) : List Request :=
  (if service then [.configuration] else []) ++ (if requested then [.refillTest] else []) ++
    (if service then [] else [.grantPhase])

/-- The state with the record's post tag equal to its result tag, so that the record holds no new command (R80, R159). -/
def Sys2Proof.Machine.State.withoutCommand (s : State) (post result : Nat) : State := s.writeWord post (s.word result)

/-- R102, R100, R103, R69: a tick at which neither mailbox holds a new command: SIP rises, the survey timer starts again for a
full period, and the tick's services are requested together: the configuration service when an install is pending or commands
are still to be carried out, the refill test while REQUESTED, and the grant phase when there is no configuration service. A
tick that cannot come changes nothing (the model's choice, log 1).
R159, R160: a tick takes mailbox A's command and then mailbox B's (the order is the model's, log 32), each as a tick at which the
other mailbox holds no new command takes it; A's changes no outcome of the test of B's. A post tag rewritten between the two reads
of it leaves the mailbox for the next tick, with its result half as it was; another word of the request half rewritten meanwhile is
taken as it was or as it is (the points of the reads: log 7). -/
def Obligations.TickRaisesSipAndRequestsServices : Prop :=
  (∀ s : State, s.memoryOk → s.tickDue → ¬ s.mailNew .a → ¬ s.mailNew .b →
    ∃ u, exec (.surveyTick []) s = .next u ∧
      u = { s with
            survey := { s.survey with sip := true, timer := some (62500 * 2 ^ s.survey.period) }
            waiting := u.waiting, mem := u.mem } ∧
      u.waiting = s.waiting ++ [tickGroup (decide (s.accepted ≠ [] ∨ s.install.state = .pending))
        (decide (s.refill.state = .requested))] ∧
      s.statusShown u) ∧
  (∀ (s : State) (during : List Arrival), ¬ s.tickDue → exec (.surveyTick during) s = .next s) ∧
  (∀ s : State, s.memoryOk → s.tickDue →
    let a := mailboxBase .a
    let b := mailboxBase .b
    ∃ u v, exec (.surveyTick []) (s.withoutCommand b (b + 16)) = .next u ∧
      exec (.surveyTick []) ((({ u with survey := { u.survey with sip := false }, waiting := s.waiting } : State).writeWord b
        (s.word b)).withoutCommand a (a + 16)) = .next v ∧
      exec (.surveyTick []) s =
        .next (({ v with survey := { v.survey with timer := u.survey.timer } } : State).writeWord a (s.word a)) ∧
      ∀ c, u.mailRefusal .b c = s.mailRefusal .b c) ∧
  (∀ (s : State) (p : Port) (addr : BitVec 11) (v : Word) (j : Nat), s.memoryOk → s.tickDue →
    addr.toNat = mailboxBase p → tagOf v ≠ tagOf (s.word (mailboxBase p)) → 1 ≤ j → j ≤ 17 →
    ∃ u, exec (.surveyTick []) (s.withoutCommand (mailboxBase p) (mailboxBase p + 16)) = .next u ∧
      exec (.surveyTick [⟨mailPoint p + j, .portWrite p addr v⟩]) s = .next (u.writeWord (mailboxBase p) v)) ∧
  ∀ (s : State) (p : Port) (addr : BitVec 11) (v : Word) (i j : Nat), s.memoryOk → s.tickDue →
    addr.toNat = mailboxBase p + i → 1 ≤ i → i ≤ 15 → j ≤ 17 →
    exec (.surveyTick [⟨mailPoint p + j, .portWrite p addr v⟩]) s = exec (.surveyTick []) (s.writeWord addr.toNat v) ∨
      ∃ u, exec (.surveyTick []) s = .next u ∧
        exec (.surveyTick [⟨mailPoint p + j, .portWrite p addr v⟩]) s = .next (u.writeWord addr.toNat v)

/-- A tick whose one new command is in port p's mailbox (R159). -/
abbrev Sys2Proof.Machine.State.tickWith (s : State) (p : Port) : Prop :=
  s.memoryOk ∧ s.tickDue ∧ s.mailNew p ∧ ¬ s.mailNew p.other

/-- R102: the requests of a tick whose mailbox command leaves the configuration service's work as it was; the status word shows
the tick. -/
abbrev Sys2Proof.Machine.State.asIdleTick (s u : State) : Prop :=
  u.waiting = s.waiting ++ [tickGroup (decide (s.accepted ≠ [] ∨ s.install.state = .pending))
    (decide (s.refill.state = .requested))] ∧ u.word 0x004 = u.statusWord

/-- R161, R143, R178: an argument is out of range. -/
def badArgRule (s : State) : MailCommand → Prop
  | .install _ window => window = 0
  | .abandon => False
  | .fence count zones => 32 < count ∨ ∃ z ∈ zones, ∀ t, s.active = some t → t.nz.toNat ≤ z
  | .priority mode oneShot => 2 < mode ∨ 2 < oneShot
  | .hold value => 1 < value
  | .period code => 7 < code
  | .clearStop arm => 1 < arm
  | .restartLane lane => 1 < lane
  | .unknown => False

/-- R161: the command needs the lock when port p posts it. -/
def lockRule (p : Port) : MailCommand → Prop
  | .clearStop arm => arm ≠ (match p with | .a => 0 | .b => 1)
  | .restartLane _ => False
  | .unknown => False
  | .install _ _ => True
  | .abandon => True
  | .fence _ _ => True
  | .priority _ _ => True
  | .hold _ => True
  | .period _ => True

/-- R178, R180: the command that the sixteen words of a request half hold. -/
abbrev mailLayout (ws : List Word) : Prop :=
  let c := MailCommand.ofWords ws
  let code := (ws.getD 1 0).toNat
  let mask := ws.getD 2 0
  let x := (ws.getD 2 0).toNat
  let y := (ws.getD 3 0).toNat
  (code = 1 → c = .install ⟨mask.getLsbD 0, mask.getLsbD 1, mask.getLsbD 2, mask.getLsbD 3, mask.getLsbD 4⟩ y) ∧
    (code = 2 → c = .abandon) ∧
    (code = 3 → ∃ zs, c = .fence x zs ∧ zs.length = min x 33 ∧
      ∀ j < zs.length, zs.getD j 0 = (ws.getD (3 + j / 3) 0).toNat / 2 ^ (5 * (j % 3)) % 32) ∧
    (code = 4 → c = .priority x y) ∧ (code = 5 → c = .hold x) ∧ (code = 6 → c = .period x) ∧
    (code = 7 → c = .clearStop x) ∧ (code = 8 → c = .restartLane x) ∧ (code = 0 ∨ 8 < code → c = .unknown)

/-- R180: the codes of results, reasons, modes and states, and R179's word of a blocker zone. -/
abbrev codeTable : Prop :=
  ([SlotState.free, .waiting, .granted, .done, .withdrawn, .yielded].map SlotState.code = List.range 6) ∧
  ([SlotResult.none, .taken, .refused, .tableChanged, .restarted].map SlotResult.code = List.range 5) ∧
  ([SlotReason.slotBusy, .wrongArm, .noTable, .badMode, .badZone, .duplicate, .stale, .far, .notGranted, .noTraverse,
    .badCommand].map SlotReason.code = (List.range 12).tail) ∧
  ([Blocker.none, .early, .unseated, .window, .fence, .refill, .otherArm, .contest].map Blocker.code = List.range 8) ∧
  ([MailResult.none, .done, .accepted, .noLock, .notOwn, .badArg, .busy, .stopHeld, .badCommand].map MailResult.code =
    List.range 9) ∧
  ([HeldReason.feed, .otherArm, .fence, .refill].map HeldReason.code = (List.range 5).tail) ∧
  ([PriorityMode.fixedA, .fixedB, .alternate].map PriorityMode.code = List.range 3) ∧
  ([InstallState.none, .pending, .installed, .invalid, .expired, .abandoned].map InstallState.code = List.range 6) ∧
  ([Reason.pitch, .zoneCount, .zoneRange, .refillZone, .armDec, .armWindow, .feedPeriod, .feedCount, .timing].map Reason.code =
    (List.range 10).tail) ∧
  ([FeedState.absent, .acquiring, .steady, .lost].map FeedState.code = List.range 4) ∧
  ([RefillState.idle, .requested, .granted].map RefillState.code = List.range 3) ∧
  blockerZoneWord none = 0 ∧ ∀ z < 32, blockerZoneWord (some z) = wordOf (z + 32)

/-- R178: the layout of a request half. R180: the codes. R161, R143: which arguments are out of range, which commands need the lock,
and which
name the other port's lane. R160: the order of the acceptance tests; R162, R160: a command refused at a tick changes nothing but
its mailbox's result half, whose tag takes the post tag, and sets MAILBOX on its port; the tick goes on as without it. -/
def Obligations.RefusedMailCommandChangesOnlyItsResult : Prop :=
  (∀ ws : List Word, ws.length = 16 → mailLayout ws) ∧ codeTable ∧
  (∀ (s : State) (p : Port) (c : MailCommand),
    (s.badArgument c = true ↔ badArgRule s c) ∧ (c.needsLock p = true ↔ lockRule p c) ∧
    (c.notOwn p = true ↔ ∃ lane, c = .restartLane lane ∧ lane ≠ (match p with | .a => 0 | .b => 1)) ∧
    (c.isInstall = true ↔ ∃ mask window, c = .install mask window) ∧
    (c = .unknown → s.mailRefusal p c = some .badCommand) ∧
    (c ≠ .unknown → s.badArgument c = true → s.mailRefusal p c = some .badArg) ∧
    (c ≠ .unknown → s.badArgument c = false →
      (c.needsLock p = true → s.lock.holder ≠ some p → s.mailRefusal p c = some .noLock) ∧
      (¬ (c.needsLock p = true ∧ s.lock.holder ≠ some p) →
        (c.notOwn p = true → s.mailRefusal p c = some .notOwn) ∧
        (c.notOwn p = false → c.isInstall = true → s.install.state = .pending → s.mailRefusal p c = some .busy) ∧
        (c.notOwn p = false → ¬ (c.isInstall = true ∧ s.install.state = .pending) → s.mailRefusal p c = none)))) ∧
  ∀ (s : State) (p : Port) (r : MailResult), s.tickWith p → s.mailRefusal p (s.mailCommand p) = some r →
    ∃ u, exec (.surveyTick []) s = .next u ∧
      u = { s with survey := s.survey.ticked, waiting := u.waiting, mem := u.mem, ports := u.ports } ∧
      s.asIdleTick u ∧
      s.portsAfter u p [.mailbox] [] ∧ u.mailResult p (tagOf (s.word (mailboxBase p))) r 0 ∧
      s.wordsKept u (0x004 :: mailResultWords p)

/-- R160–R162, R101, R105, R115, R142, R143, R169: HOLD, PERIOD, PRIORITY, FENCE and ABANDON are carried out when taken, with
result DONE: each with the one effect of its rule. The tick's services are requested as without the command (R102), but after an
ABANDON no gate test is due, so that the grant phase is requested at once (R169). CLEAR_STOP and RESTART_LANE are accepted: each waits for this tick's
configuration service, which is requested, and no result is written yet (R102). -/
def Obligations.CommandsCarriedOutAtTheTick : Prop :=
  (∀ (s : State) (p : Port), s.tickWith p → s.mailRefusal p (s.mailCommand p) = none →
    let v := s.survey.ticked
    let tag := tagOf (s.word (mailboxBase p))
    (∀ n, s.mailCommand p = .hold n →
      ∃ u, exec (.surveyTick []) s = .next u ∧
        u = { s with survey := u.survey, waiting := u.waiting, mem := u.mem, ports := u.ports } ∧
        u.survey = { v with hold := decide (n = 1), restart := v.restart || (v.hold && decide (n = 0)) } ∧
        s.asIdleTick u ∧
        s.portsAfter u p [.mailbox] [] ∧ u.mailResult p tag .done 0 ∧ s.wordsKept u (0x004 :: mailResultWords p)) ∧
    (∀ code, s.mailCommand p = .period code →
      ∃ u, exec (.surveyTick []) s = .next u ∧
        u = { s with survey := u.survey, waiting := u.waiting, mem := u.mem, ports := u.ports } ∧
        u.survey = { v with period := code, restart := true } ∧ code ≤ 7 ∧
        s.asIdleTick u ∧
        s.portsAfter u p [.mailbox] [] ∧ u.mailResult p tag .done 0 ∧ s.wordsKept u (0x004 :: mailResultWords p)) ∧
    (∀ m o, s.mailCommand p = .priority m o →
      ∃ (u : State) (mode : PriorityMode) (one : Option Arm), PriorityMode.ofCode m = some mode ∧ oneShotOfCode o = some one ∧
        exec (.surveyTick []) s = .next u ∧
        u = { s with survey := u.survey, waiting := u.waiting, mem := u.mem, ports := u.ports } ∧
        u.survey = { v with
          mode := mode, oneShot := one
          favoured := match mode with | .fixedA => .a | .fixedB => .b | .alternate => v.favoured } ∧
        s.asIdleTick u ∧
        s.portsAfter u p [.mailbox] [] ∧ u.mailResult p tag .done 0 ∧ s.wordsKept u (0x004 :: mailResultWords p)) ∧
    (∀ n zs, s.mailCommand p = .fence n zs →
      ∃ u, exec (.surveyTick []) s = .next u ∧
        u = { s with survey := v, fence := u.fence, waiting := u.waiting, mem := u.mem, ports := u.ports } ∧
        u.fence.Nodup ∧ (∀ z, z ∈ u.fence ↔ z ∈ zs) ∧ (∀ z ∈ u.fence, ∃ t, s.active = some t ∧ z < t.nz.toNat) ∧
        s.asIdleTick u ∧
        s.portsAfter u p [.mailbox] [] ∧ u.mailResult p tag .done 0 ∧ s.wordsKept u (0x004 :: mailResultWords p)) ∧
    (s.mailCommand p = .abandon →
      ∃ u, exec (.surveyTick []) s = .next u ∧
        u = { s with survey := v, install := u.install, waiting := u.waiting, mem := u.mem, ports := u.ports } ∧
        u.mailResult p tag .done 0 ∧ u.word 0x004 = u.statusWord ∧
        u.waiting = s.waiting ++ [tickGroup (decide (s.accepted ≠ [])) (decide (s.refill.state = .requested))] ∧
        (s.install.state ≠ .pending → u.install = s.install ∧ s.portsAfter u p [.mailbox] [] ∧
          s.wordsKept u (0x004 :: mailResultWords p)) ∧
        (s.install.state = .pending →
          u.install = { s.install with state := .abandoned, reason := none, pendingTable := none, window := none } ∧
          s.portsAfter u p [.mailbox, .install] [.install] ∧ u.word 0x008 = 5 ∧
          s.wordsKept u ([0x004, 0x008, 0x009, 0x00A] ++ mailResultWords p)))) ∧
  ∀ (s : State) (p : Port) (arm : Arm) (n : Nat), s.tickWith p → s.mailRefusal p (s.mailCommand p) = none →
    armOfCode n = some arm →
    (s.mailCommand p = .clearStop n →
      ∃ u, exec (.surveyTick []) s = .next u ∧
        u = { s with
              survey := s.survey.ticked
              accepted := s.accepted ++ [⟨p, tagOf (s.word (mailboxBase p)), .clearStop arm⟩]
              waiting := s.waiting ++ [tickGroup true (decide (s.refill.state = .requested))], mem := u.mem } ∧
        s.statusShown u) ∧
    (s.mailCommand p = .restartLane n →
      ∃ u, exec (.surveyTick []) s = .next u ∧ arm = p ∧
        u = { s with
              survey := s.survey.ticked
              accepted := s.accepted ++ [⟨p, tagOf (s.word (mailboxBase p)), .restartLane arm⟩]
              waiting := s.waiting ++ [tickGroup true (decide (s.refill.state = .requested))], mem := u.mem } ∧
        s.statusShown u)

/-- R165, R158, R162, R166, R167: an INSTALL that is taken copies the 256 staging words into the pending table and validates
it: with a reason the state is INVALID and the result DONE; with none it is PENDING, the window timer is started, the result
is ACCEPTED, and this tick's configuration service is requested; a copy found INVALID requests none (R102). That INSTALL is set on both ports as well by a copy found INVALID
while the state was INVALID already is DEDUCED (log 12). -/
def Obligations.InstallCopiesTheStagingTable : Prop :=
  ∀ (s : State) (p : Port) (mask : GateMask) (window : Nat),
    s.tickWith p → s.mailCommand p = .install mask window → s.mailRefusal p (s.mailCommand p) = none →
    let tag := tagOf (s.word (mailboxBase p))
    let t := ZoneTable.ofWords ((List.range 256).map (fun k => s.word (0x300 + k)))
    ∃ u, exec (.surveyTick []) s = .next u ∧
      u = { s with survey := s.survey.ticked, install := u.install, waiting := u.waiting, mem := u.mem, ports := u.ports } ∧
      s.portsAfter u p [.install, .mailbox] [.install] ∧ u.word 0x009 = t.serial ∧ u.word 0x00A = s.install.activeSerial ∧
      u.word 0x004 = u.statusWord ∧ s.wordsKept u ([0x004, 0x008, 0x009, 0x00A] ++ mailResultWords p) ∧
      (∀ r, t.validate = some r →
        u.install = { s.install with state := .invalid, reason := some r, pendingSerial := t.serial } ∧
        u.word 0x008 = wordOf (3 + r.code * 256) ∧ u.mailResult p tag .done 0 ∧
        u.waiting = s.waiting ++ [tickGroup (decide (s.accepted ≠ [])) (decide (s.refill.state = .requested))]) ∧
      (t.validate = none →
        u.install = { s.install with
          state := .pending, reason := none, pendingSerial := t.serial, pendingTable := some ⟨t, mask⟩
          window := some (window * 1000000) } ∧
        u.word 0x008 = 1 ∧ u.mailResult p tag .accepted 0 ∧
        u.waiting = s.waiting ++ [tickGroup true (decide (s.refill.state = .requested))])

/-- R19: the condition of each validation reason, in the rule's own figures. -/
def reasonHolds (t : ZoneTable) : Reason → Prop
  | .pitch => ∃ p ∈ [t.px, t.py, t.pz], p.toNat = 0 ∨ 4095 < p.toNat
  | .zoneCount => t.nz.toNat = 0 ∨ 32 < t.nz.toNat
  | .zoneRange => ∃ z ∈ t.zones.take t.nz.toNat,
      (z.wildX = false ∧ z.colHi < z.colLo) ∨ (z.wildY = false ∧ z.rowHi < z.rowLo) ∨
        (z.wildZ = false ∧ (z.tierHi < z.tierLo ∨ 3 < z.tierHi))
  | .refillZone => 32 < t.refillCount.toNat ∨ ∃ w ∈ t.refillEntries.take t.refillCount.toNat, t.nz.toNat ≤ w.toNat
  | .armDec => ∃ arm : Arm, (t.arms.get arm).dec = 0
  | .armWindow => ∃ arm : Arm, (t.arms.get arm).w.toNat = 0 ∨ 8 < (t.arms.get arm).w.toNat
  | .feedPeriod => ∃ arm : Arm, (t.arms.get arm).fp.toNat < 62 ∨ 8000 < (t.arms.get arm).fp.toNat
  | .feedCount => ∃ arm : Arm, (t.arms.get arm).rc.toNat < 2 ∨ 15 < (t.arms.get arm).rc.toNat ∨
      (t.arms.get arm).fc.toNat = 0 ∨ 8 < (t.arms.get arm).fc.toNat
  | .timing => t.sc.toNat = 0 ∨ 15 < t.sc.toNat ∨ t.rdr.toNat = 0 ∨ 255 < t.rdr.toNat ∨ t.rdf.toNat = 0 ∨
      255 < t.rdf.toNat ∨ t.rsl.toNat = 0 ∨
      ∃ arm : Arm, (t.arms.get arm).pr.toNat = 0 ∨ 15 < (t.arms.get arm).pr.toNat

/-- R18, R19: validation reports the first reason, in the rule's order, whose condition holds anywhere in the table, and lets
the table pass exactly when none does. -/
def Obligations.ValidationReportsTheFirstReason : Prop :=
  (∀ t : ZoneTable, t.validate = none ↔ ∀ r, ¬ reasonHolds t r) ∧
  ∀ (t : ZoneTable) (r : Reason), t.validate = some r ↔ reasonHolds t r ∧ ∀ x, x.code < r.code → ¬ reasonHolds t x

/-- R181, R17: the bits that the copy reads of the staging word at an offset. -/
def readMask (k : Nat) : Word :=
  if k < 0x0A then 0xFFFF
  else if k < 0x20 then 0
  else if k < 0x40 then 0xFFFF
  else if k < 0x80 then (if k % 2 = 0 then 0xFFFF else 0x07FF)
  else if k < 0xA0 then
    (if k % 16 = 3 then 0x0003 else if 4 ≤ k % 16 ∧ k % 16 ≤ 6 then 0x0FFF else if k % 16 = 7 then 0x001F
     else if k % 16 = 13 then 0x00FF else if k % 16 = 15 then 0 else 0xFFFF)
  else 0

/-- R181: the fields of an arm block whose words are f. -/
abbrev armLayout (m : ArmFields) (f : Nat → Word) : Prop :=
  m.dx = f 0 ∧ m.dy = f 1 ∧ m.dz = f 2 ∧ m.mirrorX = (f 3).getLsbD 0 ∧ m.mirrorY = (f 3).getLsbD 1 ∧
    m.hx = (f 4).setWidth 12 ∧ m.hy = (f 5).setWidth 12 ∧ m.hz = (f 6).setWidth 12 ∧ m.rf = (f 7).setWidth 5 ∧
    m.dec = f 8 ∧ m.w = f 9 ∧ m.fp = f 10 ∧ m.rc = f 11 ∧ m.fc = f 12 ∧ m.lg = (f 13).setWidth 8 ∧ m.pr = f 14

/-- R181: the fields of a zone record whose words are w and v. -/
abbrev zoneLayout (z : Zone) (w v : Word) : Prop :=
  z.colLo.toNat = w.toNat % 16 ∧ z.colHi.toNat = w.toNat / 16 % 16 ∧ z.rowLo.toNat = w.toNat / 256 % 16 ∧
    z.rowHi.toNat = w.toNat / 4096 ∧ z.tierLo.toNat = v.toNat % 16 ∧ z.tierHi.toNat = v.toNat / 16 % 16 ∧
    z.wildX = v.getLsbD 8 ∧ z.wildY = v.getLsbD 9 ∧ z.wildZ = v.getLsbD 10

/-- R17, R181: every table with 32 zone records and 32 refill entries is read back from its image, field for field: the
copy and the image use the same places, and drop no field; the image is 256 words long. The copy takes each field from its
place, and the image of a copied table shows the copied words with every word and bit that the copy did not read zero. -/
def Obligations.TableImageCarriesTheTable : Prop :=
  (∀ t : ZoneTable, t.zones.length = 32 → t.refillEntries.length = 32 →
    ZoneTable.ofWords t.image = t ∧ t.image.length = 256) ∧
  ∀ ws : List Word, ws.length = 256 →
    let t := ZoneTable.ofWords ws
    let f := fun k => ws.getD k 0
    (∀ k < 256, t.image.getD k 0 = f k &&& readMask k) ∧
    t.serial = f 0 ∧ t.px = f 1 ∧ t.py = f 2 ∧ t.pz = f 3 ∧ t.nz = f 4 ∧ t.sc = f 5 ∧ t.rdr = f 6 ∧ t.rdf = f 7 ∧
    t.rsl = f 8 ∧ t.refillCount = f 9 ∧ t.refillEntries.length = 32 ∧ t.zones.length = 32 ∧
    (∀ k < 32, t.refillEntries.getD k 0 = f (0x20 + k) ∧ zoneLayout (t.zone k) (f (0x40 + 2 * k)) (f (0x41 + 2 * k))) ∧
    armLayout t.arms.a (fun k => f (0x80 + k)) ∧ armLayout t.arms.b (fun k => f (0x90 + k))

/-! ## The configuration service -/

/-- R179, R180: a slot's words 10 and 11 after an event: the slot state's code, if it is written, the blocker's, and the blocker
zone's word; the other bits of word 10 are as before. -/
abbrev Sys2Proof.Machine.State.reports (s u : State) (arm : Arm) (slot : Slot) (state : Option Nat) (b : Blocker) (zone : Word) :
    Prop :=
  let w := s.word (slotBase arm slot + 10)
  u.word (slotBase arm slot + 10) =
      (w &&& 0xF0F8) ||| (match state with | none => w &&& 0x0007 | some n => wordOf n) ||| wordOf (b.code * 256) ∧
    u.word (slotBase arm slot + 11) = zone

/-- R137: the first condition that refuses a CLEAR_STOP, in the rule's order, over the cells of the last envelope block. -/
abbrev heldRule (s : State) (arm : Arm) (x : Option HeldReason) : Prop :=
  let r := s.reach.get arm
  let feed := (s.feeds.get arm).state ≠ .steady ∨ r.firstMark = true
  let others := ∃ i < 1024, blockHas r.envelope i = true ∧ (s.cell i).owner = some arm.other
  let fenced := ∃ i < 1024, blockHas r.envelope i = true ∧ s.fencedCell i = true
  let refill := s.refill.state ≠ .idle ∧ ∃ i < 1024, blockHas r.envelope i = true ∧ s.refillCell i = true
  (feed → x = some .feed) ∧ (¬ feed → others → x = some .otherArm) ∧ (¬ feed → ¬ others → fenced → x = some .fence) ∧
    (¬ feed → ¬ others → ¬ fenced → refill → x = some .refill) ∧ (¬ feed → ¬ others → ¬ fenced → ¬ refill → x = none)

/-- A configuration service with one accepted command and no pending install. -/
abbrev Sys2Proof.Machine.State.serviceOf (s : State) (c : Accepted) : Prop :=
  s.readyFor .configuration ∧ s.memoryOk ∧ s.cells.length = 1024 ∧ s.install.pendingTable = none ∧ s.accepted = [c]

/-- R137, R138, R162, R164: a CLEAR_STOP in the service. Refused, it writes STOP_HELD with its reason and changes no cause, no
cell and no snapshot. Accepted, it seizes the unowned envelope cells, takes the three stop causes out with STOPPED, writes the
arm's snapshot and gives DONE: R128, R177: the snapshot shows the event, and keeps drive status, position, velocity, stop reach and
current traverse (last good sequence: log 11). The grant phase is requested after the service (R102).
R164: a service carries out its accepted commands one after the other, the front one first (mailbox A's, log 15), each as a service
of it alone carries it out, and tests the gate of a pending install after the last of them. -/
def Obligations.ClearStopInTheService : Prop :=
  (∀ (s : State) (c : Accepted) (rest : List Accepted), s.readyFor .configuration → s.memoryOk → s.accepted = c :: rest →
    ∃ u, exec (.configurationService []) { s with accepted := [c], install := { s.install with pendingTable := none } } = .next u ∧
      exec (.configurationService []) s =
        exec (.configurationService []) { u with accepted := rest, install := s.install, waiting := s.waiting }) ∧
  (∀ (s : State) (arm : Arm), s.cells.length = 1024 → heldRule s arm (s.stopHeld arm)) ∧
  ∀ (s : State) (arm : Arm) (p : Port) (tag : Byte), s.serviceOf ⟨p, tag, .clearStop arm⟩ →
    let wait := (s.dropRequest .configuration).waiting ++ [[.grantPhase]]
    (∀ r, s.stopHeld arm = some r →
      ∃ u, exec (.configurationService []) s = .next u ∧
        u = { s with accepted := [], waiting := wait, ports := u.ports, mem := u.mem } ∧
        s.portsAfter u p [.mailbox] [] ∧ u.mailResult p tag .stopHeld r.code ∧ s.wordsKept u (mailResultWords p)) ∧
    (s.stopHeld arm = none →
      ∃ u, exec (.configurationService []) s = .next u ∧
        u = { s with
              accepted := [], waiting := wait, ports := u.ports, mem := u.mem, cells := u.cells, tallies := u.tallies
              enf := u.enf } ∧
        (∀ i < 1024, u.cell i = if blockHas (s.reach.get arm).envelope i = true ∧ (s.cell i).owner = none
          then ⟨some arm, 0, true⟩ else s.cell i) ∧
        u.enf = s.enf.set arm { (s.enf.get arm) with
          pause := { (s.enf.get arm).pause with stopped := false }
          stop := { (s.enf.get arm).stop with trespass := false, feedLoss := false, seatConflict := false } } ∧
        s.portsAfter u arm (s.lineFlags u arm ++ (if p = arm then [.mailbox] else []))
          (if p = arm then [] else [.mailbox]) ∧
        u.mailResult p tag .done 0 ∧ s.eventShown u arm ∧ u.word 0x004 = u.statusWord ∧
        s.wordsKept u (0x004 :: mailResultWords p ++ offsets (snapshotBase arm) 22))

/-- R95, R63, R162: a RESTART_LANE in the service, of a state whose claims are sound: every WAITING traverse is WITHDRAWN and
every GRANTED one DONE, every cell the arm held loses its claims and is freed or left lingering by R62, the lane is UNSET, every
slot's result tag takes its post tag, a slot that ended a traverse or had an untaken command shows RESTARTED, an ended one its new
state, every other word of the slots stays, and the other lane and its cells are untouched. -/
def Obligations.RestartLaneInTheService : Prop :=
  ∀ (s : State) (arm : Arm) (p : Port) (tag : Byte), s.serviceOf ⟨p, tag, .restartLane arm⟩ → s.claimsOk →
    let l := s.lanes.get arm
    let r := s.reach.get arm
    ∃ u, exec (.configurationService []) s = .next u ∧
      u = { s with
            accepted := [], waiting := (s.dropRequest .configuration).waiting ++ [[.grantPhase]]
            ports := u.ports, mem := u.mem, cells := u.cells, tallies := u.tallies, lanes := u.lanes } ∧
      u.lanes.get arm.other = s.lanes.get arm.other ∧
      (let n := u.lanes.get arm
       n.next = none ∧ n.waitingList = [] ∧ n.grantedList = [] ∧
       ∀ k : Slot, n.slots.get k = { (l.slots.get k) with
         state := match (l.slots.get k).state with
           | .waiting => .withdrawn | .granted => .done | .free => .free | .done => .done
           | .withdrawn => .withdrawn | .yielded => .yielded }) ∧
      (∀ i < 1024, u.cell i =
        if (s.cell i).owner = some arm ∧ 0 < (s.cell i).count then
          (if (s.feeds.get arm).state = .steady ∧ r.firstMark = false ∧ blockHas r.sweep i = false then ⟨none, 0, false⟩
           else ⟨some arm, 0, true⟩)
        else s.cell i) ∧
      (∀ k : Slot,
        let b := slotBase arm k
        let st := (l.slots.get k).state
        tagOf (u.word (b + 8)) = tagOf (s.word b) ∧ (¬ s.slotNew arm k → u.word (b + 8) = s.word (b + 8)) ∧
        (s.slotNew arm k → u.word (b + 8) = wordOf (tagOf (s.word b)).toNat) ∧
        u.word (b + 9) = (if st = .waiting ∨ st = .granted ∨ s.slotNew arm k then 4 else s.word (b + 9)) ∧
        (st = .waiting → s.reports u arm k (some 4) .none 0) ∧
        (st = .granted → u.word (b + 10) = (s.word (b + 10) &&& 0xFFF8) ||| 3 ∧ u.word (b + 11) = s.word (b + 11)) ∧
        (st ≠ .waiting → st ≠ .granted → u.word (b + 10) = s.word (b + 10) ∧ u.word (b + 11) = s.word (b + 11)) ∧
        ∀ j < 16, j < 8 ∨ 12 ≤ j → u.word (b + j) = s.word (b + j)) ∧
      s.portsAfter u arm (.lane :: (if p = arm then [.mailbox] else [])) (if p = arm then [] else [.mailbox]) ∧
      u.mailResult p tag .done 0 ∧
      ∀ a, ¬ (laneBase arm ≤ a ∧ a < laneBase arm + 256) → a ∉ mailResultWords p → u.word a = s.word a

/-- R167: the quiet gate, condition by condition. -/
abbrev gateRule (s : State) (k : GateMask) : Prop :=
  s.tallies.a.owned = 0 ∧ s.tallies.b.owned = 0 ∧ s.refill.state ≠ .granted ∧
    (k.lanesEmpty = true ∨ (s.lanes.a.waitingList = [] ∧ s.lanes.b.waitingList = [])) ∧
    (k.feedsSteady = true ∨ (s.feeds.a.state = .steady ∧ s.feeds.b.state = .steady)) ∧
    (k.armsStill = true ∨ (s.reach.a.velocity = ⟨0, 0, 0⟩ ∧ s.reach.b.velocity = ⟨0, 0, 0⟩)) ∧
    (k.refillIdle = true ∨ s.refill.state = .idle) ∧ (k.noStandoff = true ∨ s.survey.standoff = 0)

/-- R41: a feed receiver after a swap. -/
def swappedFeed (f : Feed) : Feed :=
  { f with state := .absent, goodRun := 0, faultRun := 0, missTimer := none, graceTimer := none, holding := none }

/-- R39, R41, R97, R125, R152, R166: the flags that a swap sets on an arm's own port. -/
def Sys2Proof.Machine.State.swapFlags (s u : State) (arm : Arm) : List Flag :=
  (if ∀ k : Slot, (s.entry arm k).state ≠ .waiting then [] else [.lane]) ++
  (if (s.feeds.get arm).state = .absent then [] else [.feed]) ++ s.lineFlags u arm ++
  (if u.refill.state = s.refill.state then [] else [.refill]) ++ [.install]

/-- R164, R167, R168, with R39, R41, R55, R97, R117, R140, R142, R152, R166, R181: with no accepted command, a pending install whose
gate is closed is left as it was; when the gate is open the pending table becomes active, its image is written, every block takes
it by its own rule, and each port is flagged LANE, FEED, PAUSE, REFILL and INSTALL as these changes ask (PAUSE: log 30). R97: a withdrawn slot shows
WITHDRAWN, TABLE_CHANGED and no blocker, and keeps its result tag; every other slot keeps its result half. R128, R177: each snapshot
shows the swap, and keeps drive status, position, velocity and stop reach (last good sequence: log 11). Every other word is as
before. The install record is one of R166's, with a pending table as an INSTALL copies it. -/
def Obligations.QuietGateOpensTheSwap : Prop :=
  ∀ (s : State) (p : PendingTable), s.readyFor .configuration → s.memoryOk → s.accepted = [] →
    Install.Ok s.install → s.install.pendingTable = some p →
    (¬ gateRule s p.mask → exec (.configurationService []) s = .next { s with
      waiting := (s.dropRequest .configuration).waiting ++ [[.grantPhase]] }) ∧
    (gateRule s p.mask → ∃ u, exec (.configurationService []) s = .next u ∧
      u = { s with
            active := some p.table, fence := [], waiting := u.waiting, ports := u.ports, mem := u.mem, lanes := u.lanes
            reach := ⟨Reach.cleared, Reach.cleared⟩, survey := { s.survey with standoff := 0 }
            feeds := ⟨swappedFeed s.feeds.a, swappedFeed s.feeds.b⟩, enf := u.enf, refill := u.refill
            install := { s.install with
              state := .installed, reason := none, activeSerial := p.table.serial, pendingTable := none, window := none } } ∧
      (∀ q, q ∈ u.waiting.flatten ↔ q = .grantPhase ∨ (q ∈ s.waiting.flatten ∧ q = .refillTest)) ∧
      (∀ arm : Arm,
        let l := s.lanes.get arm
        let n := u.lanes.get arm
        let e := s.enf.get arm
        n.next = none ∧ n.waitingList = [] ∧ n.grantedList = [] ∧
        (∀ k : Slot, n.slots.get k =
          if (l.slots.get k).state = .waiting then { (l.slots.get k) with state := .withdrawn } else l.slots.get k) ∧
        (∀ k : Slot, (l.slots.get k).state = .waiting →
          u.word (slotBase arm k + 9) = 3 ∧ s.reports u arm k (some 4) .none 0) ∧
        u.enf.get arm = { e with
          seated := false, runCounter := 0, stop := { e.stop with noTable := false }
          pause := ⟨false, true, true, false, false, e.pause.stopped⟩ } ∧
        (let b := snapshotBase arm
         let f := u.feeds.get arm
         u.word b = s.word b + 2 ∧ u.word (b + 1) = s.word (b + 1) &&& 0xFFEC ∧
         u.word (b + 2) = wordOf (u.enf.get arm).pause.bits ∧ u.word (b + 3) = wordOf (u.enf.get arm).stop.bits ∧
         u.word (b + 13) = 0 ∧ u.word (b + 14) = 0 ∧
         u.word (b + 15) = (match f.lastSeq with | none => 0 | some q => wordOf (2 + q.toNat * 256)) ∧
         u.word (b + 16) = wordOf (u.tallies.get arm).owned ∧ u.word (b + 17) = wordOf (u.tallies.get arm).lingering ∧
         u.word (b + 18) = f.good ∧ u.word (b + 19) = f.bad ∧ u.word (b + 20) = f.duplicate ∧ u.word (b + 21) = f.overrun)) ∧
      u.refill.debounced = (s.active.isSome && s.refill.debounced) ∧
      (u.refill.debounceTimer = none ↔ s.rfreq = u.refill.debounced) ∧
      (∀ d, u.refill.debounceTimer = some d →
        d = (if u.refill.debounced then p.table.rdf.toNat else p.table.rdr.toNat) * 1000000) ∧
      (s.refill.state = .idle → p.table.refillCount = 0 ∨ u.refill.debounced = false →
        u.refill.state = .idle ∧ u.refill.stalled = s.refill.stalled ∧ u.refill.stallTimer = s.refill.stallTimer) ∧
      (s.refill.state = .idle → p.table.refillCount ≠ 0 → u.refill.debounced = true →
        u.refill.state = .requested ∧ u.refill.stalled = false ∧
          u.refill.stallTimer = some (p.table.rsl.toNat * 1000000)) ∧
      (s.refill.state = .requested → p.table.refillCount = 0 →
        u.refill.state = .idle ∧ u.refill.stalled = false ∧ u.refill.stallTimer = none) ∧
      (s.refill.state = .requested → p.table.refillCount ≠ 0 →
        u.refill.state = .requested ∧ u.refill.stalled = s.refill.stalled ∧
          u.refill.stallTimer = s.refill.stallTimer.map (fun _ => p.table.rsl.toNat * 1000000)) ∧
      (∀ k < 256, u.word (0x400 + k) = p.table.image.getD k 0) ∧ u.word 0x008 = 2 ∧ u.word 0x00A = p.table.serial ∧
      u.word 0x009 = s.install.pendingSerial ∧ u.word 0x00B = u.refillWord ∧ u.word 0x004 = u.statusWord ∧
      (∀ a, a ∉ [0x004, 0x008, 0x009, 0x00A, 0x00B] → ¬ (0x400 ≤ a ∧ a < 0x500) →
        (∀ arm : Arm, a ∉ offsets (snapshotBase arm) 4 ∧ a ∉ offsets (snapshotBase arm + 13) 9) →
        (∀ (arm : Arm) (k : Slot), (s.entry arm k).state = .waiting → a ∉ offsets (slotBase arm k + 9) 3) →
        u.word a = s.word a) ∧
      (∀ arm : Arm,
        u.ports.get arm = { s.portAfter u arm (s.swapFlags u arm) with history := (u.ports.get arm).history } ∧
        (s.guardConditions &&& ~~~(s.ports.get arm).history = 0 →
          u.ports.get arm = s.portAfter u arm (s.swapFlags u arm))))

/-! ## The refill interlock -/

/-- R149, R146, R67: a refill test served in REQUESTED grants refill when no cell of the refill set has an owner: GRANTED, the
stall timer stopped and the mark cleared, REFILL on both ports, record and status word written. With an owned cell, or out of
REQUESTED, it changes nothing but that its request is served. -/
def Obligations.RefillTestGrantsTheUnownedSet : Prop :=
  ∀ s : State, s.readyFor .refillTest → s.memoryOk → s.cells.length = 1024 →
    let free := ∀ i < 1024, s.refillCell i = true → (s.cell i).owner = none
    let wait := (s.dropRequest .refillTest).waiting
    (s.refill.state = .requested ∧ free → ∃ u, exec .refillTest s = .next u ∧
      u = { s with
            refill := { s.refill with state := .granted, stallTimer := none, stalled := false }
            waiting := wait, ports := u.ports, mem := u.mem } ∧
      u.rfgnt = true ∧ s.portsAfter u .a [.refill] [.refill] ∧ u.word 0x00B = u.refillWord ∧ u.word 0x004 = u.statusWord ∧
      s.wordsKept u [0x00B, 0x004]) ∧
    (¬ (s.refill.state = .requested ∧ free) → exec .refillTest s = .next { s with waiting := wait })

/-- R147: a change of the sampled RFREQ starts the debounce timer for RDR or RDF, or stops it when the level returns; while no
table is active the timer stays stopped. R151: a stall expiry in REQUESTED sets the stall mark and REFILL on both ports, and the
timer is not started again. The other expiries change nothing (the model's choice, log 1). -/
def Obligations.RefillLineAndStallTimerAct : Prop :=
  (∀ (s : State) (high : Bool), s.active = none → exec (.rfreqChange high) s = .next { s with rfreq := high }) ∧
  (∀ (s : State) (high : Bool) (t : ZoneTable), s.active = some t → high ≠ s.rfreq →
    exec (.rfreqChange high) s = .next { s with
      rfreq := high
      refill := { s.refill with
        debounceTimer := if high = s.refill.debounced then none
          else some ((if s.refill.debounced then t.rdf.toNat else t.rdr.toNat) * 1000000) } }) ∧
  (∀ s : State, exec (.rfreqChange s.rfreq) s = .next s) ∧
  (∀ s : State, s.memoryOk → s.refill.stallTimer ≠ none → s.refill.state = .requested →
    ∃ u, exec .stallTimerExpiry s = .next u ∧
      u = { s with refill := { s.refill with stallTimer := none, stalled := true }, ports := u.ports, mem := u.mem } ∧
      s.portsAfter u .a [.refill] [.refill] ∧ u.word 0x00B = u.refillWord ∧ u.word 0x004 = u.statusWord ∧
      s.wordsKept u [0x00B, 0x004]) ∧
  ∀ s : State, s.refill.stallTimer = none ∨ s.refill.state ≠ .requested → exec .stallTimerExpiry s = .next s

/-- R147, R148, R150, R146: the debounce timer expires: the debounced RFREQ takes the sampled level. A rise moves IDLE to
REQUESTED when the active table has a refill set; a fall brings REQUESTED and GRANTED back to IDLE; REFILL is flagged on both
ports exactly when the state has changed, and the record is written. -/
def Obligations.DebounceExpiryMovesTheRefillState : Prop :=
  (∀ (s : State) (t : ZoneTable), s.memoryOk → s.active = some t → s.refill.debounceTimer ≠ none →
    ∃ u, exec .debounceExpiry s = .next u ∧
      u = { s with refill := u.refill, ports := u.ports, mem := u.mem } ∧
      u.refill.debounced = s.rfreq ∧ u.refill.debounceTimer = none ∧
      (s.rfreq = true → s.refill.state = .idle → t.refillCount ≠ 0 →
        u.refill.state = .requested ∧ u.refill.stalled = false ∧ u.refill.stallTimer = some (t.rsl.toNat * 1000000)) ∧
      (s.rfreq = true → ¬ (s.refill.state = .idle ∧ t.refillCount ≠ 0) →
        u.refill.state = s.refill.state ∧ u.refill.stalled = s.refill.stalled ∧
          u.refill.stallTimer = s.refill.stallTimer) ∧
      (s.rfreq = false → s.refill.state ≠ .idle →
        u.refill.state = .idle ∧ u.refill.stalled = false ∧ u.refill.stallTimer = none) ∧
      (s.rfreq = false → s.refill.state = .idle →
        u.refill.state = .idle ∧ u.refill.stalled = s.refill.stalled ∧ u.refill.stallTimer = s.refill.stallTimer) ∧
      (u.refill.state ≠ s.refill.state → s.portsAfter u .a [.refill] [.refill]) ∧
      (u.refill.state = s.refill.state → u.ports = s.ports) ∧
      u.word 0x00B = u.refillWord ∧ u.word 0x004 = u.statusWord ∧ s.wordsKept u [0x00B, 0x004]) ∧
  ∀ s : State, s.refill.debounceTimer = none → exec .debounceExpiry s = .next s

/-! ## The survey grant phase -/

/-- R73, R176: the zone view word of zone z, mark by mark, in the state u. -/
abbrev viewRule (u : State) (z : Nat) : Prop :=
  let w := u.word (0x060 + z)
  (∀ t, u.active = some t → z < t.nz.toNat →
    w.toNat < 16 ∧
    (w.getLsbD 0 = true ↔ ∃ i < 1024, t.zoneHas z i = true ∧ (u.cell i).owner = some .a) ∧
    (w.getLsbD 1 = true ↔ ∃ i < 1024, t.zoneHas z i = true ∧ (u.cell i).owner = some .b) ∧
    (w.getLsbD 2 = true ↔ z ∈ u.fence) ∧ (w.getLsbD 3 = true ↔ z ∈ t.refillList)) ∧
  (∀ t, u.active = some t → t.nz.toNat ≤ z → w = 0) ∧ (u.active = none → w = 0)

/-- R120, R176: the survey record. -/
abbrev surveyRecordRule (u : State) : Prop :=
  let v := u.survey
  u.word 0x002 = wordOf v.count.toNat ∧ u.word 0x003 = wordOf (v.count.toNat / 2 ^ 16) ∧
    u.word 0x005 = wordOf (v.period + markAt v.hold 4) ∧
    u.word 0x006 = wordOf (v.mode.code + (if v.favoured = .b then 16 else 0) +
      (match v.oneShot with | none => 0 | some .a => 256 | some .b => 512)) ∧
    u.word 0x007 = wordOf v.standoff

/-- The words of the zone view and of the survey record. -/
def surveyWords : List Nat := [0x002, 0x003, 0x005, 0x006, 0x007] ++ offsets 0x060 32

/-- R105, R74, R104, R120: under HOLD the grant phase reads no lane and grants nothing: it captures the zone view, advances the
survey count by 1 and writes the survey record, and every other piece of state, the standoff counter among them, is as before. -/
def Obligations.GrantPhaseUnderHoldOnlyReports : Prop :=
  ∀ s : State, s.readyFor .grantPhase → s.memoryOk → s.cells.length = 1024 → s.survey.hold = true →
    ∃ u, exec (.surveyGrantPhase []) s = .next u ∧
      u = { s with
            survey := { s.survey with count := s.survey.count + 1 }
            waiting := (s.dropRequest .grantPhase).waiting, mem := u.mem } ∧
      (∀ z < 32, viewRule u z) ∧ surveyRecordRule u ∧ s.wordsKept u surveyWords

/-- A grant phase that reads lanes in which no command is new, under the table t (R80, R106). -/
abbrev Sys2Proof.Machine.State.decisionDue (s : State) (t : ZoneTable) : Prop :=
  s.readyFor .grantPhase ∧ s.memoryOk ∧ s.cells.length = 1024 ∧ s.survey.hold = false ∧ s.active = some t ∧
    (∀ arm, ∀ k : Slot, ¬ s.slotNew arm k) ∧ s.lanesOk

/-- The lane's head and its traverse (R79). -/
abbrev Sys2Proof.Machine.State.headIs (s : State) (arm : Arm) (slot : Slot) (tr : Traverse) : Prop :=
  (s.lanes.get arm).head = some slot ∧ (s.entry arm slot).traverse = some tr

/-- z is the first of the list to meet the condition (R109). -/
abbrev firstZone (zs : List Nat) (P : Nat → Prop) (z : Nat) : Prop :=
  ∃ before after, zs = before ++ z :: after ∧ P z ∧ ∀ y ∈ before, ¬ P y

/-- R112: every waiting slot but the head's is written EARLY, with blocker zone none. -/
abbrev earlyElsewhere (s u : State) : Prop :=
  ∀ arm, ∀ k ∈ (s.lanes.get arm).waitingList, (s.lanes.get arm).head ≠ some k → s.reports u arm k none .early 0

/-- R2, R5–R7: the cells of the grid, of a zone, of a list of zones and of the refill set: each place (column, row, tier) of the
grid is one cell; a zone numbered below NZ has the cells whose index on each axis lies in its bound, or any index where the
axis is wildcarded; a list of zones has their union; the refill set is that of the first entries, up to the refill count. -/
abbrev cellSetRule (t : ZoneTable) : Prop :=
  (∀ i < 1024, columnOf i < 16 ∧ rowOf i < 16 ∧ tierOf i < 4) ∧
  (∀ c < 16, ∀ r < 16, ∀ h < 4, ∃ i < 1024, columnOf i = c ∧ rowOf i = r ∧ tierOf i = h ∧
    ∀ j < 1024, columnOf j = c → rowOf j = r → tierOf j = h → j = i) ∧
  (∀ z i : Nat, t.zoneHas z i = true ↔ z < t.nz.toNat ∧
    ((t.zone z).wildX = true ∨ ((t.zone z).colLo.toNat ≤ columnOf i ∧ columnOf i ≤ (t.zone z).colHi.toNat)) ∧
    ((t.zone z).wildY = true ∨ ((t.zone z).rowLo.toNat ≤ rowOf i ∧ rowOf i ≤ (t.zone z).rowHi.toNat)) ∧
    ((t.zone z).wildZ = true ∨ ((t.zone z).tierLo.toNat ≤ tierOf i ∧ tierOf i ≤ (t.zone z).tierHi.toNat))) ∧
  (∀ (zs : List Nat) (i : Nat), t.setHas zs i = true ↔ ∃ z ∈ zs, t.zoneHas z i = true) ∧
  (∀ i : Nat, t.refillHas i = true ↔ ∃ w ∈ t.refillEntries.take t.refillCount.toNat, t.zoneHas w.toNat i = true) ∧
  (t.hasRefillSet = true ↔ t.refillCount ≠ 0)

/-- R2, R5–R7: which cells a zone, a list of zones and the refill set have. R106, R108, R109: the five blockers in their order,
each over the cells of the head's zones, with the first offending zone in posted order; a head that none of them holds back is
grantable. -/
def Obligations.BlockersAreTestedInOrder : Prop :=
  (∀ t : ZoneTable, cellSetRule t) ∧
  ∀ (s : State) (t : ZoneTable) (arm : Arm) (tr : Traverse), s.cells.length = 1024 →
    let x := s.blockerOf t s.refillFence arm tr
    let full := (t.arms.get arm).w.toNat ≤ (s.lanes.get arm).grantedList.length
    let fenced : Nat → Prop := fun z => ∃ i < 1024, t.zoneHas z i = true ∧ t.setHas s.fence i = true
    let refill : Nat → Prop := fun z => s.refill.state ≠ .idle ∧ ∃ i < 1024, t.zoneHas z i = true ∧ t.refillHas i = true
    let others : Nat → Prop := fun z => ∃ i < 1024, t.zoneHas z i = true ∧ (s.cell i).owner = some arm.other
    ((s.enf.get arm).seated = false → x = some (.unseated, none)) ∧
    ((s.enf.get arm).seated = true →
      (full → x = some (.window, none)) ∧
      (¬ full →
        (∀ z, firstZone tr.zones fenced z → x = some (.fence, some z)) ∧
        ((∀ z ∈ tr.zones, ¬ fenced z) →
          (∀ z, firstZone tr.zones refill z → x = some (.refill, some z)) ∧
          ((∀ z ∈ tr.zones, ¬ refill z) →
            (∀ z, firstZone tr.zones others z → x = some (.otherArm, some z)) ∧
            ((∀ z ∈ tr.zones, ¬ others z) → x = none)))))

/-- What a decision finds for a lane whose head it does not grant: no head, or the head's slot with its blocker (R106). -/
abbrev Sys2Proof.Machine.State.heldBack (s : State) (t : ZoneTable) (arm : Arm) : Option (Slot × Blocker × Option Nat) → Prop
  | none => (s.lanes.get arm).head = none
  | some (k, b, z) => ∃ tr, (s.entry arm k).traverse = some tr ∧ (s.lanes.get arm).head = some k ∧
      s.blockerOf t s.refillFence arm tr = some (b, z)

/-- R112: a head that is not granted shows its blocker and blocker zone. -/
abbrev Sys2Proof.Machine.State.shows (s u : State) (arm : Arm) : Option (Slot × Blocker × Option Nat) → Prop
  | none => True
  | some (k, b, z) => s.reports u arm k none b (blockerZoneWord z)

/-- R88, R111: a granted slot shows GRANTED, no blocker, and the survey count as it stood before the advance. -/
abbrev grantShown (s u : State) (arm : Arm) (k : Slot) : Prop :=
  s.reports u arm k (some 2) .none 0 ∧ u.word (slotBase arm k + 13) = wordOf s.survey.count.toNat

/-- R74, R104, R112, R120: the zone view and the survey record show `u`; and but for them a decision writes the slot state and
blocker of the waiting slots, and the grant survey of the slots it grants. -/
abbrev decisionShown (s u : State) (granted : List (Arm × Slot)) : Prop :=
  (∀ z < 32, viewRule u z) ∧ surveyRecordRule u ∧
    ∀ a, a ∉ surveyWords → (∀ arm, ∀ k ∈ (s.lanes.get arm).waitingList, a ∉ offsets (slotBase arm k + 10) 2) →
      (∀ g ∈ granted, a ≠ slotBase g.1 g.2 + 13) → u.word a = s.word a

/-- R106, R110–R112, R88, R59, R104, R117: when exactly one lane has a grantable head, the other having no head or a blocked one,
it is granted: its cells are claimed, it joins the end of the granted list, next expected advances, its slot shows GRANTED with no
blocker and the survey count as it stood; the other lane's head shows its blocker. When neither lane has a grantable head, nothing
is granted, and each head shows its blocker. In both the standoff counter is 0, unless both heads are blocked by OTHER_ARM (R116).
While no table is active, when no lane holds a waiting traverse (R112), the phase only reports. -/
def Obligations.LoneHeadIsGrantedOrWaits : Prop :=
  (∀ (s : State) (t : ZoneTable) (arm : Arm) (slot : Slot) (tr : Traverse) (other : Option (Slot × Blocker × Option Nat)),
    s.decisionDue t → s.headIs arm slot tr → s.blockerOf t s.refillFence arm tr = none → s.heldBack t arm.other other →
    let l := s.lanes.get arm
    ∃ u, exec (.surveyGrantPhase []) s = .next u ∧
      u = { s with
            survey := { s.survey with count := s.survey.count + 1, standoff := 0 }
            waiting := (s.dropRequest .grantPhase).waiting, mem := u.mem, ports := u.ports, cells := u.cells
            tallies := u.tallies, lanes := u.lanes } ∧
      u.lanes = s.lanes.set arm { l with
        next := l.next.map (fun n => n + 1), waitingList := l.waitingList.filter (fun k => k != slot)
        grantedList := l.grantedList ++ [slot], slots := l.slots.set slot.val ⟨.granted, some tr⟩ } ∧
      (∀ i < 1024, u.cell i = if t.setHas tr.zones i then ⟨some arm, (s.cell i).count + 1, false⟩ else s.cell i) ∧
      s.portsAfter u arm [.lane] [] ∧ grantShown s u arm slot ∧ s.shows u arm.other other ∧ earlyElsewhere s u ∧
      decisionShown s u [(arm, slot)]) ∧
  (∀ (s : State) (t : ZoneTable) (xs : Pair (Option (Slot × Blocker × Option Nat))), s.decisionDue t →
    (∀ arm, s.heldBack t arm (xs.get arm)) → (∃ arm, (xs.get arm).map (fun x => x.2.1) ≠ some .otherArm) →
    ∃ u, exec (.surveyGrantPhase []) s = .next u ∧
      u = { s with
            survey := { s.survey with count := s.survey.count + 1, standoff := 0 }
            waiting := (s.dropRequest .grantPhase).waiting, mem := u.mem } ∧
      (∀ arm, s.shows u arm (xs.get arm)) ∧ earlyElsewhere s u ∧ decisionShown s u []) ∧
  ∀ s : State, s.readyFor .grantPhase → s.memoryOk → s.cells.length = 1024 → s.survey.hold = false → s.active = none →
    (∀ arm, ∀ k : Slot, ¬ s.slotNew arm k) → (∀ arm, (s.lanes.get arm).waitingList = []) →
    ∃ u, exec (.surveyGrantPhase []) s = .next u ∧
      u = { s with
            survey := { s.survey with count := s.survey.count + 1, standoff := 0 }
            waiting := (s.dropRequest .grantPhase).waiting, mem := u.mem } ∧ decisionShown s u []

/-- R113, R114: the priority state after a decision that the arm `loser` lost. -/
def decidedPriority (v : Survey) (loser : Arm) : Survey :=
  { v with
    oneShot := none
    favoured := match v.mode with | .fixedA => .a | .fixedB => .b | .alternate => loser }

/-- R110, R113, R114: two grantable heads. When some unowned cell lies in both sets, the favoured arm, which the one-shot names
if there is one, is granted and the other head waits with CONTEST; the one-shot is used up and the favoured arm item is set by
the mode. When none does, both are granted and no decision is made. Every other waiting slot shows EARLY (R112). -/
def Obligations.ContestIsSettledByPriority : Prop :=
  ∀ (s : State) (t : ZoneTable) (slots : Pair Slot) (trs : Pair Traverse), s.decisionDue t →
    (∀ arm, s.headIs arm (slots.get arm) (trs.get arm) ∧ s.blockerOf t s.refillFence arm (trs.get arm) = none) →
    let meets := ∃ i < 1024, t.setHas trs.a.zones i = true ∧ t.setHas trs.b.zones i = true ∧ (s.cell i).owner = none
    let after : Lane → Arm → Lane := fun l arm => { l with
      next := l.next.map (fun n => n + 1), waitingList := l.waitingList.filter (fun k => k != slots.get arm)
      grantedList := l.grantedList ++ [slots.get arm], slots := l.slots.set (slots.get arm).val ⟨.granted, some (trs.get arm)⟩ }
    ∃ u, exec (.surveyGrantPhase []) s = .next u ∧
      u = { s with
            survey := u.survey, waiting := (s.dropRequest .grantPhase).waiting, mem := u.mem, ports := u.ports, cells := u.cells
            tallies := u.tallies, lanes := u.lanes } ∧
      earlyElsewhere s u ∧
      (meets →
        let win := s.survey.oneShot.getD s.survey.favoured
        u.lanes = s.lanes.set win (after (s.lanes.get win) win) ∧ grantShown s u win (slots.get win) ∧
        s.reports u win.other (slots.get win.other) none .contest 0 ∧ decisionShown s u [(win, slots.get win)] ∧
        (∀ i < 1024, u.cell i =
          if t.setHas (trs.get win).zones i then ⟨some win, (s.cell i).count + 1, false⟩ else s.cell i) ∧
        u.survey = { decidedPriority s.survey win.other with count := s.survey.count + 1, standoff := 0 } ∧
        s.portsAfter u win [.lane] []) ∧
      (¬ meets →
        (∀ arm, u.lanes.get arm = after (s.lanes.get arm) arm ∧ grantShown s u arm (slots.get arm)) ∧
        decisionShown s u [(.a, slots.a), (.b, slots.b)] ∧
        (∀ i < 1024, u.cell i =
          if t.setHas trs.a.zones i then ⟨some .a, (s.cell i).count + 1, false⟩
          else if t.setHas trs.b.zones i then ⟨some .b, (s.cell i).count + 1, false⟩ else s.cell i) ∧
        u.survey = { s.survey with count := s.survey.count + 1, standoff := 0 } ∧ s.portsAfter u .a [.lane] [.lane])

/-- R116–R118, R89: two heads that both report OTHER_ARM are a standoff. Below SC the counter rises by 1 and nothing else comes
of it; at SC the unfavoured arm's lane yields: each of its waiting traverses is YIELDED with no blocker, next expected becomes one
past the number of the last of them, STANDOFF is set on both ports, a priority decision is made, and the counter is 0. No cell
changes owner. -/
def Obligations.StandoffEndsInAYield : Prop :=
  ∀ (s : State) (t : ZoneTable) (slots : Pair Slot) (trs : Pair Traverse) (zs : Pair Nat), s.decisionDue t →
    (∀ arm, s.headIs arm (slots.get arm) (trs.get arm) ∧
      s.blockerOf t s.refillFence arm (trs.get arm) = some (.otherArm, some (zs.get arm))) →
    ∃ u, exec (.surveyGrantPhase []) s = .next u ∧
      u = { s with
            survey := u.survey, waiting := (s.dropRequest .grantPhase).waiting, mem := u.mem, ports := u.ports
            lanes := u.lanes } ∧
      decisionShown s u [] ∧
      (s.survey.standoff + 1 < t.sc.toNat →
        u.lanes = s.lanes ∧ u.ports = s.ports ∧ earlyElsewhere s u ∧
        u.survey = { s.survey with count := s.survey.count + 1, standoff := s.survey.standoff + 1 } ∧
        ∀ arm, s.reports u arm (slots.get arm) none .otherArm (blockerZoneWord (some (zs.get arm)))) ∧
      (t.sc.toNat ≤ s.survey.standoff + 1 →
        let loser := (s.survey.oneShot.getD s.survey.favoured).other
        let l := s.lanes.get loser
        let keeper := s.lanes.get loser.other
        s.reports u loser.other (slots.get loser.other) none .otherArm (blockerZoneWord (some (zs.get loser.other))) ∧
        (∀ k ∈ keeper.waitingList, keeper.head ≠ some k → s.reports u loser.other k none .early 0) ∧
        u.survey = { decidedPriority s.survey loser with count := s.survey.count + 1, standoff := 0 } ∧
        s.portsAfter u loser [.lane, .standoff] [.standoff] ∧ u.lanes.get loser.other = s.lanes.get loser.other ∧
        (u.lanes.get loser).waitingList = [] ∧ (u.lanes.get loser).grantedList = l.grantedList ∧
        (∀ k, l.waitingList.getLast? = some k → ∀ n, l.numberOf k = some n → (u.lanes.get loser).next = some (n + 1)) ∧
        (∀ k : Slot, (u.lanes.get loser).slots.get k =
          if k ∈ l.waitingList then ⟨.yielded, (l.slots.get k).traverse⟩ else l.slots.get k) ∧
        ∀ k ∈ l.waitingList, s.reports u loser k (some 5) .none 0)

/-! ## Slot commands -/

/-- The words of a slot's result half that a refused command writes. -/
def refusalWords (arm : Arm) (k : Slot) : List Nat := [slotBase arm k + 8, slotBase arm k + 9]

/-- R80: the state after the visits to the slots of lane A, 0 to 15, and then to those of lane B. -/
def Sys2Proof.Machine.State.takenIn (s : State) : State :=
  [Side.a, Side.b].foldl (fun s arm => (List.finRange 16).foldl (fun s k => s.visitSlot [] arm k) s) s

/-- R80, R87, R106: a grant phase without HOLD takes the new commands of lane A and then those of lane B, in slot order, before it
decides: its outcome is that of the grant phase on the state which these visits leave, in which no command is new.
R80, R81: a slot's visit, with no event between its reads, takes the command of a slot whose post tag differs from its
result tag, as the request half holds it, and passes over any other slot. R82, R80, R85, R86: the POST conditions in their order;
a refused command, for whatever reason, writes REFUSED with the reason and the result tag, sets LANE on the lane's port, and
changes nothing else.
R81: a post tag rewritten between the two reads of it leaves the slot, with its result half, for the next survey that reads lanes:
all else is as if the slot held no new command. Another word of the request half rewritten during the visit is taken as it was or as
it is (the points of the reads: log 7). -/
def Obligations.RefusedSlotCommandsChangeOnlyTheResult : Prop :=
  (∀ (s : State) (arm : Arm) (k : Slot) (addr : BitVec 11) (v : Word) (j : Nat), s.readyFor .grantPhase → s.memoryOk →
    s.ready = true → s.survey.hold = false → addr.toNat = slotBase arm k → tagOf v ≠ tagOf (s.word (slotBase arm k)) →
    1 ≤ j → j ≤ 9 →
    ∃ u, exec (.surveyGrantPhase []) (s.withoutCommand (slotBase arm k) (slotBase arm k + 8)) = .next u ∧
      exec (.surveyGrantPhase [⟨visitPoint arm k + j, .portWrite arm addr v⟩]) s = .next (u.writeWord (slotBase arm k) v)) ∧
  (∀ (s : State) (arm : Arm) (k : Slot) (addr : BitVec 11) (v : Word) (i j : Nat), s.readyFor .grantPhase → s.memoryOk →
    s.ready = true → s.survey.hold = false → addr.toNat = slotBase arm k + i → 1 ≤ i → i ≤ 7 → j ≤ 9 →
    let x : Instr := .surveyGrantPhase [⟨visitPoint arm k + j, .portWrite arm addr v⟩]
    exec x s = exec (.surveyGrantPhase []) (s.writeWord addr.toNat v) ∨
      ∃ u, exec (.surveyGrantPhase []) s = .next u ∧ exec x s = .next (u.writeWord addr.toNat v)) ∧
  (∀ s : State, s.readyFor .grantPhase → s.memoryOk → s.survey.hold = false →
    exec (.surveyGrantPhase []) s = exec (.surveyGrantPhase []) s.takenIn ∧ ∀ (arm : Arm) (k : Slot), ¬ s.takenIn.slotNew arm k) ∧
  (∀ (s : State) (arm : Arm) (k : Slot),
    (s.slotNew arm k → s.visitSlot [] arm k =
      s.takeCommand arm k (SlotRequest.ofWords ((List.range 8).map (fun j => s.word (slotBase arm k + j))))
        (tagOf (s.word (slotBase arm k)))) ∧
    (¬ s.slotNew arm k → s.visitSlot [] arm k = s)) ∧
  (∀ (s : State) (arm : Arm) (k : Slot) (q : SlotRequest),
    let l := s.lanes.get arm
    let x := s.postRefusal arm k q
    let busy := (s.entry arm k).state = .waiting ∨ (s.entry arm k).state = .granted
    let wrong := q.armTag ≠ (match arm with | .a => 1 | .b => 2)
    (busy → x = some .slotBusy) ∧ (¬ busy → wrong → x = some .wrongArm) ∧
    (¬ busy → ¬ wrong → s.active = none → x = some .noTable) ∧
    ∀ t, s.active = some t → ¬ busy → ¬ wrong →
      let badZone := q.zoneCount = 0 ∨ 6 < q.zoneCount ∨ ∃ z ∈ q.zones, t.nz.toNat ≤ z
      let live := ∃ j ∈ l.waitingList ++ l.grantedList, l.numberOf j = some q.number
      (q.mode = none → x = some .badMode) ∧
      (q.mode ≠ none → badZone → x = some .badZone) ∧
      (q.mode ≠ none → ¬ badZone → live → x = some .duplicate) ∧
      (q.mode ≠ none → ¬ badZone → ¬ live →
        (l.next = none → x = none) ∧
        ∀ n, l.next = some n →
          (32768 ≤ (q.number - n).toNat → x = some .stale) ∧
          (16 ≤ (q.number - n).toNat → (q.number - n).toNat < 32768 → x = some .far) ∧
          ((q.number - n).toNat < 16 → x = none))) ∧
  ∀ (s : State) (arm : Arm) (k : Slot) (q : SlotRequest) (tag : Byte) (r : SlotReason), s.memoryOk →
    (q.command = .post ∧ s.postRefusal arm k q = some r) ∨
      (q.command = .finish ∧ (s.entry arm k).state = .waiting ∧ r = .notGranted) ∨
      ((q.command = .finish ∨ q.command = .withdraw) ∧ (s.entry arm k).state ≠ .waiting ∧
        (s.entry arm k).state ≠ .granted ∧ r = .noTraverse) ∨
      (q.command = .other ∧ r = .badCommand) →
    let u := s.takeCommand arm k q tag
    u = { s with mem := u.mem, ports := u.ports } ∧ s.portsAfter u arm [.lane] [] ∧
      u.word (slotBase arm k + 9) = wordOf (2 + r.code * 256) ∧ u.word (slotBase arm k + 8) = wordOf tag.toNat ∧
      s.wordsKept u (refusalWords arm k)

/-- R75, R179, R84: what the eight words of a slot's request half hold. -/
abbrev slotLayout (ws : List Word) : Prop :=
  let q := SlotRequest.ofWords ws
  let w := (ws.getD 1 0).toNat
  let budget := (ws.getD 3 0).toNat
  (q.command = .post ↔ w % 256 = 1) ∧ (q.command = .finish ↔ w % 256 = 2) ∧ (q.command = .withdraw ↔ w % 256 = 3) ∧
    q.armTag = w / 256 % 16 ∧ (q.mode = some .counted ↔ w / 4096 = 1) ∧ (q.mode = some .openEnded ↔ w / 4096 = 2) ∧
    q.number = ws.getD 2 0 ∧ q.budget = (if budget = 0 then 65536 else budget) ∧ q.zoneCount = (ws.getD 4 0).toNat % 16 ∧
    q.zones.length = min 6 q.zoneCount ∧
    ∀ j < q.zones.length, q.zones.getD j 0 = (ws.getD (5 + j / 2) 0).toNat / 256 ^ (j % 2) % 256

/-- R75, R179, R84: the layout of a slot's request half, a budget of 0 standing for 65536. R83, R84, R79: a POST that is taken: the
entry is made from the request; the slot is WAITING and stands in the waiting list in its place by distance ahead; an UNSET lane
takes the number as next expected; and the result half is written whole. -/
def Obligations.TakenPostWaitsInOrder : Prop :=
  (∀ ws : List Word, ws.length = 8 → slotLayout ws) ∧
  ∀ (s : State) (arm : Arm) (k : Slot) (q : SlotRequest) (tag : Byte) (m : Mode), s.memoryOk → q.command = .post →
    s.postRefusal arm k q = none → q.mode = some m → k ∉ (s.lanes.get arm).waitingList →
    let u := s.takeCommand arm k q tag
    let l := s.lanes.get arm
    let n := u.lanes.get arm
    let next := l.next.getD q.number
    let remaining := if m = .counted then q.budget else 0
    let b := slotBase arm k
    u = { s with mem := u.mem, ports := u.ports, lanes := u.lanes } ∧ u.lanes.get arm.other = s.lanes.get arm.other ∧
      n.slots = l.slots.set k.val ⟨.waiting, some ⟨q.number, m, q.budget, remaining, q.zones⟩⟩ ∧
      n.next = some next ∧ n.grantedList = l.grantedList ∧ n.waitingList.Perm (k :: l.waitingList) ∧
      (l.waitingList.Pairwise (fun i j => l.aheadOf next i ≤ l.aheadOf next j) →
        n.waitingList.Pairwise (fun i j => n.aheadOf next i ≤ n.aheadOf next j)) ∧
      s.portsAfter u arm [.lane] [] ∧ u.word (b + 9) = 1 ∧
      s.reports u arm k (some 1) (if q.number = next then .none else .early) 0 ∧ u.word (b + 12) = wordOf remaining ∧
      u.word (b + 13) = 0 ∧ u.word (b + 14) = q.number ∧ u.word (b + 8) = wordOf tag.toNat ∧ s.wordsKept u (offsets (b + 8) 7)

/-- R85, R86, R61, R62: a FINISH or WITHDRAW of a GRANTED traverse makes it DONE and releases its cells; a WITHDRAW of a WAITING
one makes it WITHDRAWN with its blocker written NONE and leaves next expected and every cell alone. Both are TAKEN. -/
def Obligations.FinishAndWithdrawEndTheTraverse : Prop :=
  ∀ (s : State) (arm : Arm) (k : Slot) (q : SlotRequest) (tag : Byte) (t : ZoneTable) (tr : Traverse), s.memoryOk →
    s.active = some t → (s.entry arm k).traverse = some tr →
    let u := s.takeCommand arm k q tag
    let l := s.lanes.get arm
    let b := slotBase arm k
    (q.command = .finish ∨ q.command = .withdraw → (s.entry arm k).state = .granted →
      u = { s with mem := u.mem, ports := u.ports, lanes := u.lanes, cells := u.cells, tallies := u.tallies } ∧
      u.lanes = s.lanes.set arm { l with
        slots := l.slots.set k.val ⟨.done, some tr⟩, grantedList := l.grantedList.filter (fun j => j != k) } ∧
      u.cells = (s.release arm (t.setHas tr.zones)).cells ∧ s.portsAfter u arm [.lane] [] ∧
      u.word (b + 9) = 1 ∧ u.word (b + 10) = (s.word (b + 10) &&& 0xFFF8) ||| 3 ∧ u.word (b + 8) = wordOf tag.toNat ∧
      s.wordsKept u (offsets (b + 8) 3)) ∧
    (q.command = .withdraw → (s.entry arm k).state = .waiting →
      u = { s with mem := u.mem, ports := u.ports, lanes := u.lanes } ∧
      u.lanes = s.lanes.set arm { l with
        slots := l.slots.set k.val ⟨.withdrawn, some tr⟩, waitingList := l.waitingList.filter (fun j => j != k) } ∧
      s.portsAfter u arm [.lane] [] ∧ u.word (b + 9) = 1 ∧ s.reports u arm k (some 4) .none 0 ∧
      u.word (b + 8) = wordOf tag.toNat ∧ s.wordsKept u (offsets (b + 8) 4))

/-! ## The end of a survey, the install window -/

/-- R103, R104, R101: when every service of the tick has ended, SIP falls and SURVEY is set on both ports; a PERIOD or a lifted
HOLD restarts the survey timer for half a period then. While a service waits SIP stays 1. A SURVEY_END that cannot come, SIP
being 0 or a service of the tick still waiting, changes nothing (the model's choice, log 1). -/
def Obligations.SurveyEndsWhenItsServicesHave : Prop :=
  (∀ s : State, s.memoryOk → s.survey.sip = true →
    (∀ q ∈ s.waiting.flatten, ∃ arm, q = .evaluation arm) →
    ∃ u, exec .surveyEnd s = .next u ∧
      u = { s with
            survey := { s.survey with
              sip := false, restart := false
              timer := if s.survey.restart then some (31250 * 2 ^ s.survey.period) else s.survey.timer }
            ports := u.ports, mem := u.mem } ∧
      s.portsAfter u .a [.survey] [.survey] ∧ s.statusShown u) ∧
  ∀ s : State, s.survey.sip = false ∨ (∃ q ∈ s.waiting.flatten, ∀ arm, q ≠ .evaluation arm) → exec .surveyEnd s = .next s

/-- R169, R166: the install window expires while the state is PENDING: the pending table is dropped, the state becomes EXPIRED,
the record is written and INSTALL set on both ports. With no window running nothing happens (the model's choice, log 1). -/
def Obligations.InstallWindowEndsAPendingInstall : Prop :=
  (∀ s : State, s.memoryOk → s.install.state = .pending → s.install.window ≠ none →
    ∃ u, exec .installWindowExpiry s = .next u ∧
      u = { s with
            install := { s.install with state := .expired, reason := none, pendingTable := none, window := none }
            ports := u.ports, mem := u.mem } ∧
      s.portsAfter u .a [.install] [.install] ∧ u.word 0x008 = 4 ∧ u.word 0x009 = s.install.pendingSerial ∧
      u.word 0x00A = s.install.activeSerial ∧ s.wordsKept u [0x008, 0x009, 0x00A]) ∧
  ∀ s : State, s.install.window = none ∨ s.install.state ≠ .pending → exec .installWindowExpiry s = .next s

/-! ## Port registers -/

/-- R155 for REQUEST. -/
def requestedLock (l : Lock) (p : Port) : Lock :=
  match l.holder with
  | none => { l with holder := some p, lastHolder := p }
  | some _ => if l.holder = some p ∨ l.pendingPort ≠ none then l else { l with pendingPort := some p }

/-- R155 for RELEASE. -/
def releasedLock (l : Lock) (p : Port) : Lock :=
  if l.holder = some p then
    match l.pendingPort with
    | none => { l with holder := none }
    | some q => { holder := some q, pendingPort := none, lastHolder := q }
  else if l.holder ≠ none ∧ l.pendingPort = some p then { l with pendingPort := none } else l

/-- R155, R156, R154, R172: the rows of the PLOCK table for REQUEST and for RELEASE, which prevails over REQUEST; LOCK is set on a
port to which the lock is handed over; two REQUESTs that meet a free lock leave the port that is not the last holder with the lock
and the other pending; the mirror is written; while READY is 0 a write is discarded. -/
def Obligations.PlockWritesFollowTheTable : Prop :=
  (∀ (s : State) (p : Port) (v : Word), s.memoryOk → s.ready = true →
    (v.getLsbD 0 = true → v.getLsbD 1 = false →
      ∃ u, exec (.lockRequest p v false) s = .next u ∧ u = { s with lock := requestedLock s.lock p, mem := u.mem } ∧
        u.word 0x00C = u.lockWord ∧ s.wordsKept u [0x00C]) ∧
    (v.getLsbD 0 = true → v.getLsbD 1 = false → s.lock.holder = none → s.lock.pendingPort = none →
      ∃ u, exec (.lockRequest p v true) s = .next u ∧
        u = { s with
              lock := ⟨some s.lock.lastHolder.other, some s.lock.lastHolder, s.lock.lastHolder.other⟩, mem := u.mem } ∧
        u.word 0x00C = u.lockWord ∧ s.wordsKept u [0x00C]) ∧
    (v.getLsbD 0 = true → v.getLsbD 1 = false → s.lock.holder ≠ none →
      ∃ u, exec (.lockRequest p v true) s = .next u ∧
        u = { s with lock := requestedLock (requestedLock s.lock p) p.other, mem := u.mem } ∧
        u.word 0x00C = u.lockWord ∧ s.wordsKept u [0x00C]) ∧
    (v.getLsbD 1 = true →
      ∃ u, exec (.lockRelease p v) s = .next u ∧
        u = { s with lock := releasedLock s.lock p, mem := u.mem, ports := u.ports } ∧
        (∀ q : Port, s.lock.holder = some p ∧ s.lock.pendingPort = some q → u.ports.get q = s.portAfter u q [.lock] ∧
          u.ports.get q.other = s.ports.get q.other) ∧
        (¬ (s.lock.holder = some p ∧ s.lock.pendingPort ≠ none) → u.ports = s.ports) ∧
        u.word 0x00C = u.lockWord ∧ s.wordsKept u [0x00C])) ∧
  ∀ (s : State) (p : Port) (v : Word) (both : Bool), s.ready = false →
    exec (.lockRequest p v both) s = .next s ∧ exec (.lockRelease p v) s = .next s

/-- R183, R184: a PSTAT read returns every flag with SIP in bit 14 and READY in bit 15, and clears all the flags, releasing the
attention line; a PMASK write sets all eleven enables, bits 11–15 ignored, and the line follows; the other port's registers are its
own. The register that keeps what a read returned is the model's own (log 14). R182, R185: a register read by its select code: PID,
PSTAT, PMASK, PLOCK and PGUARD, and zero for the codes 5–7. -/
def Obligations.PstatAndPmaskFollowTheFlags : Prop :=
  (∀ (s : State) (p : Port), ∃ u, exec (.pstatRead p) s = .next u ∧
    (let r := s.ports.get p
     let n := u.ports.get p
     u = { s with ports := s.ports.set p n } ∧ n = { r with flags := 0, readData := n.readData } ∧
     (∀ f : Flag, n.readData.getLsbD f.bit = s.flagSet f p) ∧ n.readData.getLsbD 14 = s.survey.sip ∧
     n.readData.getLsbD 15 = s.ready ∧ (∀ j, 11 ≤ j → j ≤ 13 → n.readData.getLsbD j = false) ∧ u.attention p = false)) ∧
  (∀ (s : State) (p : Port) (v : Word), s.ready = true → ∃ u, exec (.pmaskWrite p v) s = .next u ∧
    (let n := u.ports.get p
     u = { s with ports := s.ports.set p n } ∧ n = { (s.ports.get p) with mask := n.mask } ∧
     (∀ j < 11, n.mask.getLsbD j = v.getLsbD j) ∧
     (u.attention p = true ↔ ∃ f : Flag, s.flagSet f p = true ∧ v.getLsbD f.bit = true) ∧
     u.attention p.other = s.attention p.other)) ∧
  (∀ (s : State) (p : Port) (v : Word), s.ready = false → exec (.pmaskWrite p v) s = .next s) ∧
  ∀ (s : State) (p : Port),
    let side : Option Port → Nat := fun x => match x with | none => 0 | some .a => 1 | some .b => 2
    (s.readRegister p 0).toNat = 1 + 0x41 * 16 + 2 * 4096 + (if p = .b then 16384 else 0) + (if s.ready then 32768 else 0) ∧
    (∃ u, exec (.pstatRead p) s = .next u ∧ (u.ports.get p).readData = s.readRegister p 1) ∧
    (∀ j < 16, (s.readRegister p 2).getLsbD j = (s.ports.get p).mask.getLsbD j) ∧
    (s.readRegister p 3).toNat = side s.lock.holder + (if s.lock.pendingPort = some p then 16 else 0) ∧
    (∃ u, exec (.pguardRead p) s = .next u ∧ (u.ports.get p).readData = s.readRegister p 4) ∧
    ∀ select : BitVec 3, 5 ≤ select.toNat → s.readRegister p select = 0

/-- R186: a PGUARD read in the history stage returns the history marks with bit 15 set, sets each mark to the condition's present
value and moves to present; a read in the present stage returns the present conditions with bit 15 clear and leaves the stage. Two
reads in a row therefore give first what held and then what holds; the other port's stage and history are its own. -/
def Obligations.PguardReportsInTwoStages : Prop :=
  ∀ (s : State) (p : Port),
    let now := s.guardConditions
    (∀ arm : Arm, let b := match arm with | .a => 0 | .b => 4
      (now.getLsbD b = s.stopLine arm) ∧ (now.getLsbD (b + 1) = s.pauseLine arm) ∧
      (now.getLsbD (b + 2) = (s.enf.get arm).stop.trespass)) ∧ now.getLsbD 15 = false ∧
    ((s.ports.get p).stage = .history →
      exec (.pguardRead p) s = .next { s with
        ports := s.ports.set p { (s.ports.get p) with
          readData := (s.ports.get p).history ||| 0x8000, stage := .present, history := now } }) ∧
    ((s.ports.get p).stage = .present →
      exec (.pguardRead p) s = .next { s with ports := s.ports.set p { (s.ports.get p) with readData := now } }) ∧
    ∃ u v, exec (.pguardRead p) s = .next u ∧ exec (.pguardRead p) u = .next v ∧ (v.ports.get p).readData = now

/-- R171, R172: the words that a port may write at this moment, row by row of the map. -/
abbrev mapAllows (s : State) (p : Port) (a : Nat) : Prop :=
  (match p with
    | .a => (0x0C0 ≤ a ∧ a ≤ 0x0CF) ∨ (0x100 ≤ a ∧ a ≤ 0x1FF ∧ a % 16 ≤ 7)
    | .b => (0x0E0 ≤ a ∧ a ≤ 0x0EF) ∨ (0x200 ≤ a ∧ a ≤ 0x2FF ∧ a % 16 ≤ 7)) ∨
  (0x300 ≤ a ∧ a ≤ 0x3FF ∧ s.lock.holder = some p)

/-- R171, R172, R158, R182: a port's write that the map allows is made, and changes that word alone; one that it does not allow is
discarded with MISUSE, as is a write to PID, PSTAT, PGUARD or a select code 5–7; while READY is 0 every write is discarded without a
flag. R171, R174: a read of 0x500–0x7FF gives zero, and any other the word; but while READY is 0 a word that no port may write is
found with its old contents or with its reset contents, whichever (log 13). -/
def Obligations.PortWritesFollowTheMap : Prop :=
  (∀ (s : State) (p : Port) (addr : BitVec 11) (v : Word), s.memoryOk → s.ready = true →
    (mapAllows s p addr.toNat → ∃ u, exec (.memoryWrite p addr v) s = .next u ∧ u = { s with mem := u.mem } ∧
      u.word addr.toNat = v ∧ s.wordsKept u [addr.toNat]) ∧
    (¬ mapAllows s p addr.toNat → exec (.memoryWrite p addr v) s = .next { s with
      ports := s.ports.set p (s.portAfter s p [.misuse]) })) ∧
  (∀ (s : State) (p : Port) (k : Byte) (v : Word), s.memoryOk → s.ready = true →
    (s.lock.holder = some p → ∃ u, exec (.stagingWrite p k v) s = .next u ∧ u = { s with mem := u.mem } ∧
      u.word (0x300 + k.toNat) = v ∧ s.wordsKept u [0x300 + k.toNat]) ∧
    (s.lock.holder ≠ some p → exec (.stagingWrite p k v) s = .next { s with
      ports := s.ports.set p (s.portAfter s p [.misuse]) })) ∧
  (∀ (s : State) (p : Port) (select : BitVec 3) (v : Word), s.ready = true → select ≠ 2 → select ≠ 3 →
    exec (.registerWrite p select v) s = .next { s with ports := s.ports.set p (s.portAfter s p [.misuse]) }) ∧
  (∀ (s : State) (p : Port) (addr : BitVec 11) (k : Byte) (select : BitVec 3) (v : Word), s.ready = false →
    exec (.memoryWrite p addr v) s = .next s ∧ exec (.stagingWrite p k v) s = .next s ∧
      exec (.registerWrite p select v) s = .next s) ∧
  (∀ a, portWritten a = true ↔ (0x0C0 ≤ a ∧ a ≤ 0x0CF) ∨ (0x0E0 ≤ a ∧ a ≤ 0x0EF) ∨ (0x100 ≤ a ∧ a ≤ 0x2FF ∧ a % 16 ≤ 7) ∨
    (0x300 ≤ a ∧ a ≤ 0x3FF)) ∧
  ∀ (s : State) (addr : BitVec 11) (nth : Nat), s.memBefore.wf = true →
    let a := addr.toNat
    let w := s.readMemory addr nth
    let old := fun a => s.memBefore.read a
    (0x500 ≤ a → w = 0) ∧ (a < 0x500 → s.ready = true ∨ portWritten a = true → w = s.word a) ∧
    (a < 0x500 → s.ready = false → portWritten a = false → w ≠ old a →
      (∀ p : Port, a = mailboxBase p + 16 → w = old (mailboxBase p) &&& 0x00FF) ∧
      (∀ (arm : Arm) (k : Slot), a = slotBase arm k + 8 → w = old (slotBase arm k) &&& 0x00FF) ∧
      ((∀ p : Port, a ≠ mailboxBase p + 16) → (∀ (arm : Arm) (k : Slot), a ≠ slotBase arm k + 8) → w = powerOnWord a))

/-! ## Invariants of every command -/

/-- The exchange memory tells the truth: canonical form (R171, log 5), the words that are written at each change (R176, R146,
R154, R166), and even snapshot counts (R127); and the lock state is one of R154's. -/
abbrev Sys2Proof.Machine.State.memoryTrue (s : State) : Prop := s.memoryOk ∧ s.headerOk ∧ s.snapshotsOk ∧ Lock.Ok s.lock

/-- Every step keeps the exchange memory true: from any state, run or not, in which it is. -/
def Obligations.EveryStepKeepsTheHeaderTrue : Prop :=
  ∀ s t : State, s.memoryTrue → step s = .next t → t.memoryTrue

/-- R56, R57, R60, R69, R78, R79, R153, R166: every step keeps the claim table, the lanes, who holds which cell with what count, the
install record, and the unowned refill set while refill is GRANTED. -/
def Obligations.EveryStepKeepsTheClaims : Prop :=
  ∀ s t : State, s.claimsOk → s.refillOk → step s = .next t → t.claimsOk ∧ t.refillOk

/-- R123, R124, R134, R135, R186: every step keeps the cause sets in agreement with the feeds, the seated marks, the stop causes and
the active table, and the guard report's history in agreement with the conditions that hold. -/
def Obligations.EveryStepKeepsTheCauses : Prop :=
  ∀ s t : State, bothSides s.causesOk → bothSides s.guardReportOk → step s = .next t →
    bothSides t.causesOk ∧ bothSides t.guardReportOk

/-- R29, R30, R69, R25, R32–R37: every step keeps one evaluation request for each held frame and none without, and the timers and
records of each feed as its state requires. -/
def Obligations.EveryStepKeepsTheFeeds : Prop :=
  ∀ s t : State, bothSides s.requestsOk → bothSides s.feedOk → step s = .next t →
    bothSides t.requestsOk ∧ bothSides t.feedOk

/-- The reset state meets every invariant that the statements above carry on. -/
def Obligations.ResetStateMeetsTheInvariants : Prop :=
  let s := State.reset
  s.memoryTrue ∧ s.claimsOk ∧ s.refillOk ∧ bothSides s.causesOk ∧ bothSides s.guardReportOk ∧ bothSides s.requestsOk ∧
    bothSides s.feedOk

/-- R171: "The guard never writes a request half or the staging table": when a command changes one of these words, the command is
power-on, or it is a port's write to that word, or a port's write arrived while it was carried out. -/
def Obligations.GuardNeverWritesAPortsWords : Prop :=
  ∀ (c : Instr) (s t : State) (a : Nat), exec c s = .next t → portWritten a = true → t.word a ≠ s.word a →
    c = .powerOn ∨ (∃ p addr v, c = .memoryWrite p addr v ∧ addr.toNat = a) ∨
      (∃ p k v, c = .stagingWrite p k v ∧ 0x300 + k.toNat = a) ∨
      ∃ during, (c = .surveyTick during ∨ c = .configurationService during ∨ c = .surveyGrantPhase during ∨
          ∃ arm, c = .frameEvaluation arm during) ∧
        ∃ x ∈ during, ∃ p addr v, x.event = .portWrite p addr v ∧ addr.toNat = a

/-- R8, R168: "The active table is replaced only at an install swap or by a reset, and at that instant no cell has an owner": from a
state whose tallies are those of its records, a command that changes the active table is a reset, which leaves none, or a
configuration service that puts the pending table in force with the install INSTALLED; and afterwards no cell has an owner. -/
def Obligations.ActiveTableChangesOnlyOverUnownedCells : Prop :=
  ∀ (c : Instr) (s t : State), s.claimTableOk → exec c s = .next t → t.active ≠ s.active →
    (∀ i < 1024, (t.cell i).owner = none) ∧
      (((c = .powerOn ∨ c = .resetNAssert ∨ c = .resetNRelease) ∧ t.active = none) ∨
        ∃ during p, c = .configurationService during ∧ s.install.pendingTable = some p ∧ t.active = some p.table ∧
          t.install.state = .installed)
end

