-- ==== Sys2Proof/Laws/State.lean ====
section
/-! SUPPORT. One lemma per field per update of State, each true by rfl. -/

namespace Sys2Proof.Machine

@[simp] theorem Pair_get_set_same {α : Type} (p : Pair α) (x : Side) (v : α) : (p.set x v).get x = v := by
  cases x <;> rfl

@[simp] theorem Pair_get_set_other {α : Type} (p : Pair α) (x : Side) (v : α) :
    (p.set x v).get x.other = p.get x.other := by
  cases x <;> rfl

@[simp] theorem Pair_get_set_other' {α : Type} (p : Pair α) (x : Side) (v : α) :
    (p.set x.other v).get x = p.get x := by
  cases x <;> rfl

theorem Pair_get_set_of_ne {α : Type} (p : Pair α) (x y : Side) (v : α) (h : y ≠ x) :
    (p.set x v).get y = p.get y := by
  cases x <;> cases y <;> first | rfl | exact absurd rfl h

@[simp] theorem Pair_get_modify_same {α : Type} (p : Pair α) (x : Side) (f : α → α) :
    (p.modify x f).get x = f (p.get x) := by
  cases x <;> rfl

@[simp] theorem Pair_get_modify_other {α : Type} (p : Pair α) (x : Side) (f : α → α) :
    (p.modify x f).get x.other = p.get x.other := by
  cases x <;> rfl

theorem Pair_get_modify_of_ne {α : Type} (p : Pair α) (x y : Side) (f : α → α) (h : y ≠ x) :
    (p.modify x f).get y = p.get y := by
  cases x <;> cases y <;> first | rfl | exact absurd rfl h

@[simp] theorem Side_other_other (x : Side) : x.other.other = x := by cases x <;> rfl

@[simp] theorem Side_other_ne (x : Side) : x.other ≠ x := by cases x <;> decide

@[simp] theorem Side_ne_other (x : Side) : x ≠ x.other := by cases x <;> decide

section
variable (s : State) (v : List Instr)
@[simp] theorem State.setPending_pending : (s.setPending v).pending = v := rfl
@[simp] theorem State.setPending_resetAsserted : (s.setPending v).resetAsserted = s.resetAsserted := rfl
@[simp] theorem State.setPending_ready : (s.setPending v).ready = s.ready := rfl
@[simp] theorem State.setPending_rfreq : (s.setPending v).rfreq = s.rfreq := rfl
@[simp] theorem State.setPending_mem : (s.setPending v).mem = s.mem := rfl
@[simp] theorem State.setPending_memBefore : (s.setPending v).memBefore = s.memBefore := rfl
@[simp] theorem State.setPending_ports : (s.setPending v).ports = s.ports := rfl
@[simp] theorem State.setPending_feeds : (s.setPending v).feeds = s.feeds := rfl
@[simp] theorem State.setPending_reach : (s.setPending v).reach = s.reach := rfl
@[simp] theorem State.setPending_cells : (s.setPending v).cells = s.cells := rfl
@[simp] theorem State.setPending_tallies : (s.setPending v).tallies = s.tallies := rfl
@[simp] theorem State.setPending_waiting : (s.setPending v).waiting = s.waiting := rfl
@[simp] theorem State.setPending_lanes : (s.setPending v).lanes = s.lanes := rfl
@[simp] theorem State.setPending_survey : (s.setPending v).survey = s.survey := rfl
@[simp] theorem State.setPending_enf : (s.setPending v).enf = s.enf := rfl
@[simp] theorem State.setPending_refill : (s.setPending v).refill = s.refill := rfl
@[simp] theorem State.setPending_lock : (s.setPending v).lock = s.lock := rfl
@[simp] theorem State.setPending_fence : (s.setPending v).fence = s.fence := rfl
@[simp] theorem State.setPending_install : (s.setPending v).install = s.install := rfl
@[simp] theorem State.setPending_active : (s.setPending v).active = s.active := rfl
@[simp] theorem State.setPending_accepted : (s.setPending v).accepted = s.accepted := rfl
end

section
variable (s : State) (v : Bool)
@[simp] theorem State.setResetAsserted_pending : (s.setResetAsserted v).pending = s.pending := rfl
@[simp] theorem State.setResetAsserted_resetAsserted : (s.setResetAsserted v).resetAsserted = v := rfl
@[simp] theorem State.setResetAsserted_ready : (s.setResetAsserted v).ready = s.ready := rfl
@[simp] theorem State.setResetAsserted_rfreq : (s.setResetAsserted v).rfreq = s.rfreq := rfl
@[simp] theorem State.setResetAsserted_mem : (s.setResetAsserted v).mem = s.mem := rfl
@[simp] theorem State.setResetAsserted_memBefore : (s.setResetAsserted v).memBefore = s.memBefore := rfl
@[simp] theorem State.setResetAsserted_ports : (s.setResetAsserted v).ports = s.ports := rfl
@[simp] theorem State.setResetAsserted_feeds : (s.setResetAsserted v).feeds = s.feeds := rfl
@[simp] theorem State.setResetAsserted_reach : (s.setResetAsserted v).reach = s.reach := rfl
@[simp] theorem State.setResetAsserted_cells : (s.setResetAsserted v).cells = s.cells := rfl
@[simp] theorem State.setResetAsserted_tallies : (s.setResetAsserted v).tallies = s.tallies := rfl
@[simp] theorem State.setResetAsserted_waiting : (s.setResetAsserted v).waiting = s.waiting := rfl
@[simp] theorem State.setResetAsserted_lanes : (s.setResetAsserted v).lanes = s.lanes := rfl
@[simp] theorem State.setResetAsserted_survey : (s.setResetAsserted v).survey = s.survey := rfl
@[simp] theorem State.setResetAsserted_enf : (s.setResetAsserted v).enf = s.enf := rfl
@[simp] theorem State.setResetAsserted_refill : (s.setResetAsserted v).refill = s.refill := rfl
@[simp] theorem State.setResetAsserted_lock : (s.setResetAsserted v).lock = s.lock := rfl
@[simp] theorem State.setResetAsserted_fence : (s.setResetAsserted v).fence = s.fence := rfl
@[simp] theorem State.setResetAsserted_install : (s.setResetAsserted v).install = s.install := rfl
@[simp] theorem State.setResetAsserted_active : (s.setResetAsserted v).active = s.active := rfl
@[simp] theorem State.setResetAsserted_accepted : (s.setResetAsserted v).accepted = s.accepted := rfl
end

section
variable (s : State) (v : Bool)
@[simp] theorem State.setReady_pending : (s.setReady v).pending = s.pending := rfl
@[simp] theorem State.setReady_resetAsserted : (s.setReady v).resetAsserted = s.resetAsserted := rfl
@[simp] theorem State.setReady_ready : (s.setReady v).ready = v := rfl
@[simp] theorem State.setReady_rfreq : (s.setReady v).rfreq = s.rfreq := rfl
@[simp] theorem State.setReady_mem : (s.setReady v).mem = s.mem := rfl
@[simp] theorem State.setReady_memBefore : (s.setReady v).memBefore = s.memBefore := rfl
@[simp] theorem State.setReady_ports : (s.setReady v).ports = s.ports := rfl
@[simp] theorem State.setReady_feeds : (s.setReady v).feeds = s.feeds := rfl
@[simp] theorem State.setReady_reach : (s.setReady v).reach = s.reach := rfl
@[simp] theorem State.setReady_cells : (s.setReady v).cells = s.cells := rfl
@[simp] theorem State.setReady_tallies : (s.setReady v).tallies = s.tallies := rfl
@[simp] theorem State.setReady_waiting : (s.setReady v).waiting = s.waiting := rfl
@[simp] theorem State.setReady_lanes : (s.setReady v).lanes = s.lanes := rfl
@[simp] theorem State.setReady_survey : (s.setReady v).survey = s.survey := rfl
@[simp] theorem State.setReady_enf : (s.setReady v).enf = s.enf := rfl
@[simp] theorem State.setReady_refill : (s.setReady v).refill = s.refill := rfl
@[simp] theorem State.setReady_lock : (s.setReady v).lock = s.lock := rfl
@[simp] theorem State.setReady_fence : (s.setReady v).fence = s.fence := rfl
@[simp] theorem State.setReady_install : (s.setReady v).install = s.install := rfl
@[simp] theorem State.setReady_active : (s.setReady v).active = s.active := rfl
@[simp] theorem State.setReady_accepted : (s.setReady v).accepted = s.accepted := rfl
end

section
variable (s : State) (v : Bool)
@[simp] theorem State.setRfreq_pending : (s.setRfreq v).pending = s.pending := rfl
@[simp] theorem State.setRfreq_resetAsserted : (s.setRfreq v).resetAsserted = s.resetAsserted := rfl
@[simp] theorem State.setRfreq_ready : (s.setRfreq v).ready = s.ready := rfl
@[simp] theorem State.setRfreq_rfreq : (s.setRfreq v).rfreq = v := rfl
@[simp] theorem State.setRfreq_mem : (s.setRfreq v).mem = s.mem := rfl
@[simp] theorem State.setRfreq_memBefore : (s.setRfreq v).memBefore = s.memBefore := rfl
@[simp] theorem State.setRfreq_ports : (s.setRfreq v).ports = s.ports := rfl
@[simp] theorem State.setRfreq_feeds : (s.setRfreq v).feeds = s.feeds := rfl
@[simp] theorem State.setRfreq_reach : (s.setRfreq v).reach = s.reach := rfl
@[simp] theorem State.setRfreq_cells : (s.setRfreq v).cells = s.cells := rfl
@[simp] theorem State.setRfreq_tallies : (s.setRfreq v).tallies = s.tallies := rfl
@[simp] theorem State.setRfreq_waiting : (s.setRfreq v).waiting = s.waiting := rfl
@[simp] theorem State.setRfreq_lanes : (s.setRfreq v).lanes = s.lanes := rfl
@[simp] theorem State.setRfreq_survey : (s.setRfreq v).survey = s.survey := rfl
@[simp] theorem State.setRfreq_enf : (s.setRfreq v).enf = s.enf := rfl
@[simp] theorem State.setRfreq_refill : (s.setRfreq v).refill = s.refill := rfl
@[simp] theorem State.setRfreq_lock : (s.setRfreq v).lock = s.lock := rfl
@[simp] theorem State.setRfreq_fence : (s.setRfreq v).fence = s.fence := rfl
@[simp] theorem State.setRfreq_install : (s.setRfreq v).install = s.install := rfl
@[simp] theorem State.setRfreq_active : (s.setRfreq v).active = s.active := rfl
@[simp] theorem State.setRfreq_accepted : (s.setRfreq v).accepted = s.accepted := rfl
end

section
variable (s : State) (v : Memory)
@[simp] theorem State.setMem_pending : (s.setMem v).pending = s.pending := rfl
@[simp] theorem State.setMem_resetAsserted : (s.setMem v).resetAsserted = s.resetAsserted := rfl
@[simp] theorem State.setMem_ready : (s.setMem v).ready = s.ready := rfl
@[simp] theorem State.setMem_rfreq : (s.setMem v).rfreq = s.rfreq := rfl
@[simp] theorem State.setMem_mem : (s.setMem v).mem = v := rfl
@[simp] theorem State.setMem_memBefore : (s.setMem v).memBefore = s.memBefore := rfl
@[simp] theorem State.setMem_ports : (s.setMem v).ports = s.ports := rfl
@[simp] theorem State.setMem_feeds : (s.setMem v).feeds = s.feeds := rfl
@[simp] theorem State.setMem_reach : (s.setMem v).reach = s.reach := rfl
@[simp] theorem State.setMem_cells : (s.setMem v).cells = s.cells := rfl
@[simp] theorem State.setMem_tallies : (s.setMem v).tallies = s.tallies := rfl
@[simp] theorem State.setMem_waiting : (s.setMem v).waiting = s.waiting := rfl
@[simp] theorem State.setMem_lanes : (s.setMem v).lanes = s.lanes := rfl
@[simp] theorem State.setMem_survey : (s.setMem v).survey = s.survey := rfl
@[simp] theorem State.setMem_enf : (s.setMem v).enf = s.enf := rfl
@[simp] theorem State.setMem_refill : (s.setMem v).refill = s.refill := rfl
@[simp] theorem State.setMem_lock : (s.setMem v).lock = s.lock := rfl
@[simp] theorem State.setMem_fence : (s.setMem v).fence = s.fence := rfl
@[simp] theorem State.setMem_install : (s.setMem v).install = s.install := rfl
@[simp] theorem State.setMem_active : (s.setMem v).active = s.active := rfl
@[simp] theorem State.setMem_accepted : (s.setMem v).accepted = s.accepted := rfl
end

section
variable (s : State) (v : Memory)
@[simp] theorem State.setMemBefore_pending : (s.setMemBefore v).pending = s.pending := rfl
@[simp] theorem State.setMemBefore_resetAsserted : (s.setMemBefore v).resetAsserted = s.resetAsserted := rfl
@[simp] theorem State.setMemBefore_ready : (s.setMemBefore v).ready = s.ready := rfl
@[simp] theorem State.setMemBefore_rfreq : (s.setMemBefore v).rfreq = s.rfreq := rfl
@[simp] theorem State.setMemBefore_mem : (s.setMemBefore v).mem = s.mem := rfl
@[simp] theorem State.setMemBefore_memBefore : (s.setMemBefore v).memBefore = v := rfl
@[simp] theorem State.setMemBefore_ports : (s.setMemBefore v).ports = s.ports := rfl
@[simp] theorem State.setMemBefore_feeds : (s.setMemBefore v).feeds = s.feeds := rfl
@[simp] theorem State.setMemBefore_reach : (s.setMemBefore v).reach = s.reach := rfl
@[simp] theorem State.setMemBefore_cells : (s.setMemBefore v).cells = s.cells := rfl
@[simp] theorem State.setMemBefore_tallies : (s.setMemBefore v).tallies = s.tallies := rfl
@[simp] theorem State.setMemBefore_waiting : (s.setMemBefore v).waiting = s.waiting := rfl
@[simp] theorem State.setMemBefore_lanes : (s.setMemBefore v).lanes = s.lanes := rfl
@[simp] theorem State.setMemBefore_survey : (s.setMemBefore v).survey = s.survey := rfl
@[simp] theorem State.setMemBefore_enf : (s.setMemBefore v).enf = s.enf := rfl
@[simp] theorem State.setMemBefore_refill : (s.setMemBefore v).refill = s.refill := rfl
@[simp] theorem State.setMemBefore_lock : (s.setMemBefore v).lock = s.lock := rfl
@[simp] theorem State.setMemBefore_fence : (s.setMemBefore v).fence = s.fence := rfl
@[simp] theorem State.setMemBefore_install : (s.setMemBefore v).install = s.install := rfl
@[simp] theorem State.setMemBefore_active : (s.setMemBefore v).active = s.active := rfl
@[simp] theorem State.setMemBefore_accepted : (s.setMemBefore v).accepted = s.accepted := rfl
end

section
variable (s : State) (v : Pair PortRegs)
@[simp] theorem State.setPorts_pending : (s.setPorts v).pending = s.pending := rfl
@[simp] theorem State.setPorts_resetAsserted : (s.setPorts v).resetAsserted = s.resetAsserted := rfl
@[simp] theorem State.setPorts_ready : (s.setPorts v).ready = s.ready := rfl
@[simp] theorem State.setPorts_rfreq : (s.setPorts v).rfreq = s.rfreq := rfl
@[simp] theorem State.setPorts_mem : (s.setPorts v).mem = s.mem := rfl
@[simp] theorem State.setPorts_memBefore : (s.setPorts v).memBefore = s.memBefore := rfl
@[simp] theorem State.setPorts_ports : (s.setPorts v).ports = v := rfl
@[simp] theorem State.setPorts_feeds : (s.setPorts v).feeds = s.feeds := rfl
@[simp] theorem State.setPorts_reach : (s.setPorts v).reach = s.reach := rfl
@[simp] theorem State.setPorts_cells : (s.setPorts v).cells = s.cells := rfl
@[simp] theorem State.setPorts_tallies : (s.setPorts v).tallies = s.tallies := rfl
@[simp] theorem State.setPorts_waiting : (s.setPorts v).waiting = s.waiting := rfl
@[simp] theorem State.setPorts_lanes : (s.setPorts v).lanes = s.lanes := rfl
@[simp] theorem State.setPorts_survey : (s.setPorts v).survey = s.survey := rfl
@[simp] theorem State.setPorts_enf : (s.setPorts v).enf = s.enf := rfl
@[simp] theorem State.setPorts_refill : (s.setPorts v).refill = s.refill := rfl
@[simp] theorem State.setPorts_lock : (s.setPorts v).lock = s.lock := rfl
@[simp] theorem State.setPorts_fence : (s.setPorts v).fence = s.fence := rfl
@[simp] theorem State.setPorts_install : (s.setPorts v).install = s.install := rfl
@[simp] theorem State.setPorts_active : (s.setPorts v).active = s.active := rfl
@[simp] theorem State.setPorts_accepted : (s.setPorts v).accepted = s.accepted := rfl
end

section
variable (s : State) (v : Pair Feed)
@[simp] theorem State.setFeeds_pending : (s.setFeeds v).pending = s.pending := rfl
@[simp] theorem State.setFeeds_resetAsserted : (s.setFeeds v).resetAsserted = s.resetAsserted := rfl
@[simp] theorem State.setFeeds_ready : (s.setFeeds v).ready = s.ready := rfl
@[simp] theorem State.setFeeds_rfreq : (s.setFeeds v).rfreq = s.rfreq := rfl
@[simp] theorem State.setFeeds_mem : (s.setFeeds v).mem = s.mem := rfl
@[simp] theorem State.setFeeds_memBefore : (s.setFeeds v).memBefore = s.memBefore := rfl
@[simp] theorem State.setFeeds_ports : (s.setFeeds v).ports = s.ports := rfl
@[simp] theorem State.setFeeds_feeds : (s.setFeeds v).feeds = v := rfl
@[simp] theorem State.setFeeds_reach : (s.setFeeds v).reach = s.reach := rfl
@[simp] theorem State.setFeeds_cells : (s.setFeeds v).cells = s.cells := rfl
@[simp] theorem State.setFeeds_tallies : (s.setFeeds v).tallies = s.tallies := rfl
@[simp] theorem State.setFeeds_waiting : (s.setFeeds v).waiting = s.waiting := rfl
@[simp] theorem State.setFeeds_lanes : (s.setFeeds v).lanes = s.lanes := rfl
@[simp] theorem State.setFeeds_survey : (s.setFeeds v).survey = s.survey := rfl
@[simp] theorem State.setFeeds_enf : (s.setFeeds v).enf = s.enf := rfl
@[simp] theorem State.setFeeds_refill : (s.setFeeds v).refill = s.refill := rfl
@[simp] theorem State.setFeeds_lock : (s.setFeeds v).lock = s.lock := rfl
@[simp] theorem State.setFeeds_fence : (s.setFeeds v).fence = s.fence := rfl
@[simp] theorem State.setFeeds_install : (s.setFeeds v).install = s.install := rfl
@[simp] theorem State.setFeeds_active : (s.setFeeds v).active = s.active := rfl
@[simp] theorem State.setFeeds_accepted : (s.setFeeds v).accepted = s.accepted := rfl
end

section
variable (s : State) (v : Pair Reach)
@[simp] theorem State.setReach_pending : (s.setReach v).pending = s.pending := rfl
@[simp] theorem State.setReach_resetAsserted : (s.setReach v).resetAsserted = s.resetAsserted := rfl
@[simp] theorem State.setReach_ready : (s.setReach v).ready = s.ready := rfl
@[simp] theorem State.setReach_rfreq : (s.setReach v).rfreq = s.rfreq := rfl
@[simp] theorem State.setReach_mem : (s.setReach v).mem = s.mem := rfl
@[simp] theorem State.setReach_memBefore : (s.setReach v).memBefore = s.memBefore := rfl
@[simp] theorem State.setReach_ports : (s.setReach v).ports = s.ports := rfl
@[simp] theorem State.setReach_feeds : (s.setReach v).feeds = s.feeds := rfl
@[simp] theorem State.setReach_reach : (s.setReach v).reach = v := rfl
@[simp] theorem State.setReach_cells : (s.setReach v).cells = s.cells := rfl
@[simp] theorem State.setReach_tallies : (s.setReach v).tallies = s.tallies := rfl
@[simp] theorem State.setReach_waiting : (s.setReach v).waiting = s.waiting := rfl
@[simp] theorem State.setReach_lanes : (s.setReach v).lanes = s.lanes := rfl
@[simp] theorem State.setReach_survey : (s.setReach v).survey = s.survey := rfl
@[simp] theorem State.setReach_enf : (s.setReach v).enf = s.enf := rfl
@[simp] theorem State.setReach_refill : (s.setReach v).refill = s.refill := rfl
@[simp] theorem State.setReach_lock : (s.setReach v).lock = s.lock := rfl
@[simp] theorem State.setReach_fence : (s.setReach v).fence = s.fence := rfl
@[simp] theorem State.setReach_install : (s.setReach v).install = s.install := rfl
@[simp] theorem State.setReach_active : (s.setReach v).active = s.active := rfl
@[simp] theorem State.setReach_accepted : (s.setReach v).accepted = s.accepted := rfl
end

section
variable (s : State) (v : List Cell)
@[simp] theorem State.setCells_pending : (s.setCells v).pending = s.pending := rfl
@[simp] theorem State.setCells_resetAsserted : (s.setCells v).resetAsserted = s.resetAsserted := rfl
@[simp] theorem State.setCells_ready : (s.setCells v).ready = s.ready := rfl
@[simp] theorem State.setCells_rfreq : (s.setCells v).rfreq = s.rfreq := rfl
@[simp] theorem State.setCells_mem : (s.setCells v).mem = s.mem := rfl
@[simp] theorem State.setCells_memBefore : (s.setCells v).memBefore = s.memBefore := rfl
@[simp] theorem State.setCells_ports : (s.setCells v).ports = s.ports := rfl
@[simp] theorem State.setCells_feeds : (s.setCells v).feeds = s.feeds := rfl
@[simp] theorem State.setCells_reach : (s.setCells v).reach = s.reach := rfl
@[simp] theorem State.setCells_cells : (s.setCells v).cells = v := rfl
@[simp] theorem State.setCells_tallies : (s.setCells v).tallies = s.tallies := rfl
@[simp] theorem State.setCells_waiting : (s.setCells v).waiting = s.waiting := rfl
@[simp] theorem State.setCells_lanes : (s.setCells v).lanes = s.lanes := rfl
@[simp] theorem State.setCells_survey : (s.setCells v).survey = s.survey := rfl
@[simp] theorem State.setCells_enf : (s.setCells v).enf = s.enf := rfl
@[simp] theorem State.setCells_refill : (s.setCells v).refill = s.refill := rfl
@[simp] theorem State.setCells_lock : (s.setCells v).lock = s.lock := rfl
@[simp] theorem State.setCells_fence : (s.setCells v).fence = s.fence := rfl
@[simp] theorem State.setCells_install : (s.setCells v).install = s.install := rfl
@[simp] theorem State.setCells_active : (s.setCells v).active = s.active := rfl
@[simp] theorem State.setCells_accepted : (s.setCells v).accepted = s.accepted := rfl
end

section
variable (s : State) (v : Pair Tally)
@[simp] theorem State.setTallies_pending : (s.setTallies v).pending = s.pending := rfl
@[simp] theorem State.setTallies_resetAsserted : (s.setTallies v).resetAsserted = s.resetAsserted := rfl
@[simp] theorem State.setTallies_ready : (s.setTallies v).ready = s.ready := rfl
@[simp] theorem State.setTallies_rfreq : (s.setTallies v).rfreq = s.rfreq := rfl
@[simp] theorem State.setTallies_mem : (s.setTallies v).mem = s.mem := rfl
@[simp] theorem State.setTallies_memBefore : (s.setTallies v).memBefore = s.memBefore := rfl
@[simp] theorem State.setTallies_ports : (s.setTallies v).ports = s.ports := rfl
@[simp] theorem State.setTallies_feeds : (s.setTallies v).feeds = s.feeds := rfl
@[simp] theorem State.setTallies_reach : (s.setTallies v).reach = s.reach := rfl
@[simp] theorem State.setTallies_cells : (s.setTallies v).cells = s.cells := rfl
@[simp] theorem State.setTallies_tallies : (s.setTallies v).tallies = v := rfl
@[simp] theorem State.setTallies_waiting : (s.setTallies v).waiting = s.waiting := rfl
@[simp] theorem State.setTallies_lanes : (s.setTallies v).lanes = s.lanes := rfl
@[simp] theorem State.setTallies_survey : (s.setTallies v).survey = s.survey := rfl
@[simp] theorem State.setTallies_enf : (s.setTallies v).enf = s.enf := rfl
@[simp] theorem State.setTallies_refill : (s.setTallies v).refill = s.refill := rfl
@[simp] theorem State.setTallies_lock : (s.setTallies v).lock = s.lock := rfl
@[simp] theorem State.setTallies_fence : (s.setTallies v).fence = s.fence := rfl
@[simp] theorem State.setTallies_install : (s.setTallies v).install = s.install := rfl
@[simp] theorem State.setTallies_active : (s.setTallies v).active = s.active := rfl
@[simp] theorem State.setTallies_accepted : (s.setTallies v).accepted = s.accepted := rfl
end

section
variable (s : State) (v : List (List Request))
@[simp] theorem State.setWaiting_pending : (s.setWaiting v).pending = s.pending := rfl
@[simp] theorem State.setWaiting_resetAsserted : (s.setWaiting v).resetAsserted = s.resetAsserted := rfl
@[simp] theorem State.setWaiting_ready : (s.setWaiting v).ready = s.ready := rfl
@[simp] theorem State.setWaiting_rfreq : (s.setWaiting v).rfreq = s.rfreq := rfl
@[simp] theorem State.setWaiting_mem : (s.setWaiting v).mem = s.mem := rfl
@[simp] theorem State.setWaiting_memBefore : (s.setWaiting v).memBefore = s.memBefore := rfl
@[simp] theorem State.setWaiting_ports : (s.setWaiting v).ports = s.ports := rfl
@[simp] theorem State.setWaiting_feeds : (s.setWaiting v).feeds = s.feeds := rfl
@[simp] theorem State.setWaiting_reach : (s.setWaiting v).reach = s.reach := rfl
@[simp] theorem State.setWaiting_cells : (s.setWaiting v).cells = s.cells := rfl
@[simp] theorem State.setWaiting_tallies : (s.setWaiting v).tallies = s.tallies := rfl
@[simp] theorem State.setWaiting_waiting : (s.setWaiting v).waiting = v := rfl
@[simp] theorem State.setWaiting_lanes : (s.setWaiting v).lanes = s.lanes := rfl
@[simp] theorem State.setWaiting_survey : (s.setWaiting v).survey = s.survey := rfl
@[simp] theorem State.setWaiting_enf : (s.setWaiting v).enf = s.enf := rfl
@[simp] theorem State.setWaiting_refill : (s.setWaiting v).refill = s.refill := rfl
@[simp] theorem State.setWaiting_lock : (s.setWaiting v).lock = s.lock := rfl
@[simp] theorem State.setWaiting_fence : (s.setWaiting v).fence = s.fence := rfl
@[simp] theorem State.setWaiting_install : (s.setWaiting v).install = s.install := rfl
@[simp] theorem State.setWaiting_active : (s.setWaiting v).active = s.active := rfl
@[simp] theorem State.setWaiting_accepted : (s.setWaiting v).accepted = s.accepted := rfl
end

section
variable (s : State) (v : Pair Lane)
@[simp] theorem State.setLanes_pending : (s.setLanes v).pending = s.pending := rfl
@[simp] theorem State.setLanes_resetAsserted : (s.setLanes v).resetAsserted = s.resetAsserted := rfl
@[simp] theorem State.setLanes_ready : (s.setLanes v).ready = s.ready := rfl
@[simp] theorem State.setLanes_rfreq : (s.setLanes v).rfreq = s.rfreq := rfl
@[simp] theorem State.setLanes_mem : (s.setLanes v).mem = s.mem := rfl
@[simp] theorem State.setLanes_memBefore : (s.setLanes v).memBefore = s.memBefore := rfl
@[simp] theorem State.setLanes_ports : (s.setLanes v).ports = s.ports := rfl
@[simp] theorem State.setLanes_feeds : (s.setLanes v).feeds = s.feeds := rfl
@[simp] theorem State.setLanes_reach : (s.setLanes v).reach = s.reach := rfl
@[simp] theorem State.setLanes_cells : (s.setLanes v).cells = s.cells := rfl
@[simp] theorem State.setLanes_tallies : (s.setLanes v).tallies = s.tallies := rfl
@[simp] theorem State.setLanes_waiting : (s.setLanes v).waiting = s.waiting := rfl
@[simp] theorem State.setLanes_lanes : (s.setLanes v).lanes = v := rfl
@[simp] theorem State.setLanes_survey : (s.setLanes v).survey = s.survey := rfl
@[simp] theorem State.setLanes_enf : (s.setLanes v).enf = s.enf := rfl
@[simp] theorem State.setLanes_refill : (s.setLanes v).refill = s.refill := rfl
@[simp] theorem State.setLanes_lock : (s.setLanes v).lock = s.lock := rfl
@[simp] theorem State.setLanes_fence : (s.setLanes v).fence = s.fence := rfl
@[simp] theorem State.setLanes_install : (s.setLanes v).install = s.install := rfl
@[simp] theorem State.setLanes_active : (s.setLanes v).active = s.active := rfl
@[simp] theorem State.setLanes_accepted : (s.setLanes v).accepted = s.accepted := rfl
end

section
variable (s : State) (v : Survey)
@[simp] theorem State.setSurvey_pending : (s.setSurvey v).pending = s.pending := rfl
@[simp] theorem State.setSurvey_resetAsserted : (s.setSurvey v).resetAsserted = s.resetAsserted := rfl
@[simp] theorem State.setSurvey_ready : (s.setSurvey v).ready = s.ready := rfl
@[simp] theorem State.setSurvey_rfreq : (s.setSurvey v).rfreq = s.rfreq := rfl
@[simp] theorem State.setSurvey_mem : (s.setSurvey v).mem = s.mem := rfl
@[simp] theorem State.setSurvey_memBefore : (s.setSurvey v).memBefore = s.memBefore := rfl
@[simp] theorem State.setSurvey_ports : (s.setSurvey v).ports = s.ports := rfl
@[simp] theorem State.setSurvey_feeds : (s.setSurvey v).feeds = s.feeds := rfl
@[simp] theorem State.setSurvey_reach : (s.setSurvey v).reach = s.reach := rfl
@[simp] theorem State.setSurvey_cells : (s.setSurvey v).cells = s.cells := rfl
@[simp] theorem State.setSurvey_tallies : (s.setSurvey v).tallies = s.tallies := rfl
@[simp] theorem State.setSurvey_waiting : (s.setSurvey v).waiting = s.waiting := rfl
@[simp] theorem State.setSurvey_lanes : (s.setSurvey v).lanes = s.lanes := rfl
@[simp] theorem State.setSurvey_survey : (s.setSurvey v).survey = v := rfl
@[simp] theorem State.setSurvey_enf : (s.setSurvey v).enf = s.enf := rfl
@[simp] theorem State.setSurvey_refill : (s.setSurvey v).refill = s.refill := rfl
@[simp] theorem State.setSurvey_lock : (s.setSurvey v).lock = s.lock := rfl
@[simp] theorem State.setSurvey_fence : (s.setSurvey v).fence = s.fence := rfl
@[simp] theorem State.setSurvey_install : (s.setSurvey v).install = s.install := rfl
@[simp] theorem State.setSurvey_active : (s.setSurvey v).active = s.active := rfl
@[simp] theorem State.setSurvey_accepted : (s.setSurvey v).accepted = s.accepted := rfl
end

section
variable (s : State) (v : Pair Enforcement)
@[simp] theorem State.setEnf_pending : (s.setEnf v).pending = s.pending := rfl
@[simp] theorem State.setEnf_resetAsserted : (s.setEnf v).resetAsserted = s.resetAsserted := rfl
@[simp] theorem State.setEnf_ready : (s.setEnf v).ready = s.ready := rfl
@[simp] theorem State.setEnf_rfreq : (s.setEnf v).rfreq = s.rfreq := rfl
@[simp] theorem State.setEnf_mem : (s.setEnf v).mem = s.mem := rfl
@[simp] theorem State.setEnf_memBefore : (s.setEnf v).memBefore = s.memBefore := rfl
@[simp] theorem State.setEnf_ports : (s.setEnf v).ports = s.ports := rfl
@[simp] theorem State.setEnf_feeds : (s.setEnf v).feeds = s.feeds := rfl
@[simp] theorem State.setEnf_reach : (s.setEnf v).reach = s.reach := rfl
@[simp] theorem State.setEnf_cells : (s.setEnf v).cells = s.cells := rfl
@[simp] theorem State.setEnf_tallies : (s.setEnf v).tallies = s.tallies := rfl
@[simp] theorem State.setEnf_waiting : (s.setEnf v).waiting = s.waiting := rfl
@[simp] theorem State.setEnf_lanes : (s.setEnf v).lanes = s.lanes := rfl
@[simp] theorem State.setEnf_survey : (s.setEnf v).survey = s.survey := rfl
@[simp] theorem State.setEnf_enf : (s.setEnf v).enf = v := rfl
@[simp] theorem State.setEnf_refill : (s.setEnf v).refill = s.refill := rfl
@[simp] theorem State.setEnf_lock : (s.setEnf v).lock = s.lock := rfl
@[simp] theorem State.setEnf_fence : (s.setEnf v).fence = s.fence := rfl
@[simp] theorem State.setEnf_install : (s.setEnf v).install = s.install := rfl
@[simp] theorem State.setEnf_active : (s.setEnf v).active = s.active := rfl
@[simp] theorem State.setEnf_accepted : (s.setEnf v).accepted = s.accepted := rfl
end

section
variable (s : State) (v : Refill)
@[simp] theorem State.setRefill_pending : (s.setRefill v).pending = s.pending := rfl
@[simp] theorem State.setRefill_resetAsserted : (s.setRefill v).resetAsserted = s.resetAsserted := rfl
@[simp] theorem State.setRefill_ready : (s.setRefill v).ready = s.ready := rfl
@[simp] theorem State.setRefill_rfreq : (s.setRefill v).rfreq = s.rfreq := rfl
@[simp] theorem State.setRefill_mem : (s.setRefill v).mem = s.mem := rfl
@[simp] theorem State.setRefill_memBefore : (s.setRefill v).memBefore = s.memBefore := rfl
@[simp] theorem State.setRefill_ports : (s.setRefill v).ports = s.ports := rfl
@[simp] theorem State.setRefill_feeds : (s.setRefill v).feeds = s.feeds := rfl
@[simp] theorem State.setRefill_reach : (s.setRefill v).reach = s.reach := rfl
@[simp] theorem State.setRefill_cells : (s.setRefill v).cells = s.cells := rfl
@[simp] theorem State.setRefill_tallies : (s.setRefill v).tallies = s.tallies := rfl
@[simp] theorem State.setRefill_waiting : (s.setRefill v).waiting = s.waiting := rfl
@[simp] theorem State.setRefill_lanes : (s.setRefill v).lanes = s.lanes := rfl
@[simp] theorem State.setRefill_survey : (s.setRefill v).survey = s.survey := rfl
@[simp] theorem State.setRefill_enf : (s.setRefill v).enf = s.enf := rfl
@[simp] theorem State.setRefill_refill : (s.setRefill v).refill = v := rfl
@[simp] theorem State.setRefill_lock : (s.setRefill v).lock = s.lock := rfl
@[simp] theorem State.setRefill_fence : (s.setRefill v).fence = s.fence := rfl
@[simp] theorem State.setRefill_install : (s.setRefill v).install = s.install := rfl
@[simp] theorem State.setRefill_active : (s.setRefill v).active = s.active := rfl
@[simp] theorem State.setRefill_accepted : (s.setRefill v).accepted = s.accepted := rfl
end

section
variable (s : State) (v : Lock)
@[simp] theorem State.setLock_pending : (s.setLock v).pending = s.pending := rfl
@[simp] theorem State.setLock_resetAsserted : (s.setLock v).resetAsserted = s.resetAsserted := rfl
@[simp] theorem State.setLock_ready : (s.setLock v).ready = s.ready := rfl
@[simp] theorem State.setLock_rfreq : (s.setLock v).rfreq = s.rfreq := rfl
@[simp] theorem State.setLock_mem : (s.setLock v).mem = s.mem := rfl
@[simp] theorem State.setLock_memBefore : (s.setLock v).memBefore = s.memBefore := rfl
@[simp] theorem State.setLock_ports : (s.setLock v).ports = s.ports := rfl
@[simp] theorem State.setLock_feeds : (s.setLock v).feeds = s.feeds := rfl
@[simp] theorem State.setLock_reach : (s.setLock v).reach = s.reach := rfl
@[simp] theorem State.setLock_cells : (s.setLock v).cells = s.cells := rfl
@[simp] theorem State.setLock_tallies : (s.setLock v).tallies = s.tallies := rfl
@[simp] theorem State.setLock_waiting : (s.setLock v).waiting = s.waiting := rfl
@[simp] theorem State.setLock_lanes : (s.setLock v).lanes = s.lanes := rfl
@[simp] theorem State.setLock_survey : (s.setLock v).survey = s.survey := rfl
@[simp] theorem State.setLock_enf : (s.setLock v).enf = s.enf := rfl
@[simp] theorem State.setLock_refill : (s.setLock v).refill = s.refill := rfl
@[simp] theorem State.setLock_lock : (s.setLock v).lock = v := rfl
@[simp] theorem State.setLock_fence : (s.setLock v).fence = s.fence := rfl
@[simp] theorem State.setLock_install : (s.setLock v).install = s.install := rfl
@[simp] theorem State.setLock_active : (s.setLock v).active = s.active := rfl
@[simp] theorem State.setLock_accepted : (s.setLock v).accepted = s.accepted := rfl
end

section
variable (s : State) (v : List Nat)
@[simp] theorem State.setFence_pending : (s.setFence v).pending = s.pending := rfl
@[simp] theorem State.setFence_resetAsserted : (s.setFence v).resetAsserted = s.resetAsserted := rfl
@[simp] theorem State.setFence_ready : (s.setFence v).ready = s.ready := rfl
@[simp] theorem State.setFence_rfreq : (s.setFence v).rfreq = s.rfreq := rfl
@[simp] theorem State.setFence_mem : (s.setFence v).mem = s.mem := rfl
@[simp] theorem State.setFence_memBefore : (s.setFence v).memBefore = s.memBefore := rfl
@[simp] theorem State.setFence_ports : (s.setFence v).ports = s.ports := rfl
@[simp] theorem State.setFence_feeds : (s.setFence v).feeds = s.feeds := rfl
@[simp] theorem State.setFence_reach : (s.setFence v).reach = s.reach := rfl
@[simp] theorem State.setFence_cells : (s.setFence v).cells = s.cells := rfl
@[simp] theorem State.setFence_tallies : (s.setFence v).tallies = s.tallies := rfl
@[simp] theorem State.setFence_waiting : (s.setFence v).waiting = s.waiting := rfl
@[simp] theorem State.setFence_lanes : (s.setFence v).lanes = s.lanes := rfl
@[simp] theorem State.setFence_survey : (s.setFence v).survey = s.survey := rfl
@[simp] theorem State.setFence_enf : (s.setFence v).enf = s.enf := rfl
@[simp] theorem State.setFence_refill : (s.setFence v).refill = s.refill := rfl
@[simp] theorem State.setFence_lock : (s.setFence v).lock = s.lock := rfl
@[simp] theorem State.setFence_fence : (s.setFence v).fence = v := rfl
@[simp] theorem State.setFence_install : (s.setFence v).install = s.install := rfl
@[simp] theorem State.setFence_active : (s.setFence v).active = s.active := rfl
@[simp] theorem State.setFence_accepted : (s.setFence v).accepted = s.accepted := rfl
end

section
variable (s : State) (v : Install)
@[simp] theorem State.setInstall_pending : (s.setInstall v).pending = s.pending := rfl
@[simp] theorem State.setInstall_resetAsserted : (s.setInstall v).resetAsserted = s.resetAsserted := rfl
@[simp] theorem State.setInstall_ready : (s.setInstall v).ready = s.ready := rfl
@[simp] theorem State.setInstall_rfreq : (s.setInstall v).rfreq = s.rfreq := rfl
@[simp] theorem State.setInstall_mem : (s.setInstall v).mem = s.mem := rfl
@[simp] theorem State.setInstall_memBefore : (s.setInstall v).memBefore = s.memBefore := rfl
@[simp] theorem State.setInstall_ports : (s.setInstall v).ports = s.ports := rfl
@[simp] theorem State.setInstall_feeds : (s.setInstall v).feeds = s.feeds := rfl
@[simp] theorem State.setInstall_reach : (s.setInstall v).reach = s.reach := rfl
@[simp] theorem State.setInstall_cells : (s.setInstall v).cells = s.cells := rfl
@[simp] theorem State.setInstall_tallies : (s.setInstall v).tallies = s.tallies := rfl
@[simp] theorem State.setInstall_waiting : (s.setInstall v).waiting = s.waiting := rfl
@[simp] theorem State.setInstall_lanes : (s.setInstall v).lanes = s.lanes := rfl
@[simp] theorem State.setInstall_survey : (s.setInstall v).survey = s.survey := rfl
@[simp] theorem State.setInstall_enf : (s.setInstall v).enf = s.enf := rfl
@[simp] theorem State.setInstall_refill : (s.setInstall v).refill = s.refill := rfl
@[simp] theorem State.setInstall_lock : (s.setInstall v).lock = s.lock := rfl
@[simp] theorem State.setInstall_fence : (s.setInstall v).fence = s.fence := rfl
@[simp] theorem State.setInstall_install : (s.setInstall v).install = v := rfl
@[simp] theorem State.setInstall_active : (s.setInstall v).active = s.active := rfl
@[simp] theorem State.setInstall_accepted : (s.setInstall v).accepted = s.accepted := rfl
end

section
variable (s : State) (v : Option ZoneTable)
@[simp] theorem State.setActive_pending : (s.setActive v).pending = s.pending := rfl
@[simp] theorem State.setActive_resetAsserted : (s.setActive v).resetAsserted = s.resetAsserted := rfl
@[simp] theorem State.setActive_ready : (s.setActive v).ready = s.ready := rfl
@[simp] theorem State.setActive_rfreq : (s.setActive v).rfreq = s.rfreq := rfl
@[simp] theorem State.setActive_mem : (s.setActive v).mem = s.mem := rfl
@[simp] theorem State.setActive_memBefore : (s.setActive v).memBefore = s.memBefore := rfl
@[simp] theorem State.setActive_ports : (s.setActive v).ports = s.ports := rfl
@[simp] theorem State.setActive_feeds : (s.setActive v).feeds = s.feeds := rfl
@[simp] theorem State.setActive_reach : (s.setActive v).reach = s.reach := rfl
@[simp] theorem State.setActive_cells : (s.setActive v).cells = s.cells := rfl
@[simp] theorem State.setActive_tallies : (s.setActive v).tallies = s.tallies := rfl
@[simp] theorem State.setActive_waiting : (s.setActive v).waiting = s.waiting := rfl
@[simp] theorem State.setActive_lanes : (s.setActive v).lanes = s.lanes := rfl
@[simp] theorem State.setActive_survey : (s.setActive v).survey = s.survey := rfl
@[simp] theorem State.setActive_enf : (s.setActive v).enf = s.enf := rfl
@[simp] theorem State.setActive_refill : (s.setActive v).refill = s.refill := rfl
@[simp] theorem State.setActive_lock : (s.setActive v).lock = s.lock := rfl
@[simp] theorem State.setActive_fence : (s.setActive v).fence = s.fence := rfl
@[simp] theorem State.setActive_install : (s.setActive v).install = s.install := rfl
@[simp] theorem State.setActive_active : (s.setActive v).active = v := rfl
@[simp] theorem State.setActive_accepted : (s.setActive v).accepted = s.accepted := rfl
end

section
variable (s : State) (v : List Accepted)
@[simp] theorem State.setAccepted_pending : (s.setAccepted v).pending = s.pending := rfl
@[simp] theorem State.setAccepted_resetAsserted : (s.setAccepted v).resetAsserted = s.resetAsserted := rfl
@[simp] theorem State.setAccepted_ready : (s.setAccepted v).ready = s.ready := rfl
@[simp] theorem State.setAccepted_rfreq : (s.setAccepted v).rfreq = s.rfreq := rfl
@[simp] theorem State.setAccepted_mem : (s.setAccepted v).mem = s.mem := rfl
@[simp] theorem State.setAccepted_memBefore : (s.setAccepted v).memBefore = s.memBefore := rfl
@[simp] theorem State.setAccepted_ports : (s.setAccepted v).ports = s.ports := rfl
@[simp] theorem State.setAccepted_feeds : (s.setAccepted v).feeds = s.feeds := rfl
@[simp] theorem State.setAccepted_reach : (s.setAccepted v).reach = s.reach := rfl
@[simp] theorem State.setAccepted_cells : (s.setAccepted v).cells = s.cells := rfl
@[simp] theorem State.setAccepted_tallies : (s.setAccepted v).tallies = s.tallies := rfl
@[simp] theorem State.setAccepted_waiting : (s.setAccepted v).waiting = s.waiting := rfl
@[simp] theorem State.setAccepted_lanes : (s.setAccepted v).lanes = s.lanes := rfl
@[simp] theorem State.setAccepted_survey : (s.setAccepted v).survey = s.survey := rfl
@[simp] theorem State.setAccepted_enf : (s.setAccepted v).enf = s.enf := rfl
@[simp] theorem State.setAccepted_refill : (s.setAccepted v).refill = s.refill := rfl
@[simp] theorem State.setAccepted_lock : (s.setAccepted v).lock = s.lock := rfl
@[simp] theorem State.setAccepted_fence : (s.setAccepted v).fence = s.fence := rfl
@[simp] theorem State.setAccepted_install : (s.setAccepted v).install = s.install := rfl
@[simp] theorem State.setAccepted_active : (s.setAccepted v).active = s.active := rfl
@[simp] theorem State.setAccepted_accepted : (s.setAccepted v).accepted = v := rfl
end

section
variable (s : State) (x : Side) (k : PortRegs → PortRegs)
@[simp] theorem State.modPort_pending : (s.modPort x k).pending = s.pending := rfl
@[simp] theorem State.modPort_resetAsserted : (s.modPort x k).resetAsserted = s.resetAsserted := rfl
@[simp] theorem State.modPort_ready : (s.modPort x k).ready = s.ready := rfl
@[simp] theorem State.modPort_rfreq : (s.modPort x k).rfreq = s.rfreq := rfl
@[simp] theorem State.modPort_mem : (s.modPort x k).mem = s.mem := rfl
@[simp] theorem State.modPort_memBefore : (s.modPort x k).memBefore = s.memBefore := rfl
@[simp] theorem State.modPort_ports : (s.modPort x k).ports = s.ports.modify x k := rfl
@[simp] theorem State.modPort_feeds : (s.modPort x k).feeds = s.feeds := rfl
@[simp] theorem State.modPort_reach : (s.modPort x k).reach = s.reach := rfl
@[simp] theorem State.modPort_cells : (s.modPort x k).cells = s.cells := rfl
@[simp] theorem State.modPort_tallies : (s.modPort x k).tallies = s.tallies := rfl
@[simp] theorem State.modPort_waiting : (s.modPort x k).waiting = s.waiting := rfl
@[simp] theorem State.modPort_lanes : (s.modPort x k).lanes = s.lanes := rfl
@[simp] theorem State.modPort_survey : (s.modPort x k).survey = s.survey := rfl
@[simp] theorem State.modPort_enf : (s.modPort x k).enf = s.enf := rfl
@[simp] theorem State.modPort_refill : (s.modPort x k).refill = s.refill := rfl
@[simp] theorem State.modPort_lock : (s.modPort x k).lock = s.lock := rfl
@[simp] theorem State.modPort_fence : (s.modPort x k).fence = s.fence := rfl
@[simp] theorem State.modPort_install : (s.modPort x k).install = s.install := rfl
@[simp] theorem State.modPort_active : (s.modPort x k).active = s.active := rfl
@[simp] theorem State.modPort_accepted : (s.modPort x k).accepted = s.accepted := rfl
end

section
variable (s : State) (x : Side) (k : Feed → Feed)
@[simp] theorem State.modFeed_pending : (s.modFeed x k).pending = s.pending := rfl
@[simp] theorem State.modFeed_resetAsserted : (s.modFeed x k).resetAsserted = s.resetAsserted := rfl
@[simp] theorem State.modFeed_ready : (s.modFeed x k).ready = s.ready := rfl
@[simp] theorem State.modFeed_rfreq : (s.modFeed x k).rfreq = s.rfreq := rfl
@[simp] theorem State.modFeed_mem : (s.modFeed x k).mem = s.mem := rfl
@[simp] theorem State.modFeed_memBefore : (s.modFeed x k).memBefore = s.memBefore := rfl
@[simp] theorem State.modFeed_ports : (s.modFeed x k).ports = s.ports := rfl
@[simp] theorem State.modFeed_feeds : (s.modFeed x k).feeds = s.feeds.modify x k := rfl
@[simp] theorem State.modFeed_reach : (s.modFeed x k).reach = s.reach := rfl
@[simp] theorem State.modFeed_cells : (s.modFeed x k).cells = s.cells := rfl
@[simp] theorem State.modFeed_tallies : (s.modFeed x k).tallies = s.tallies := rfl
@[simp] theorem State.modFeed_waiting : (s.modFeed x k).waiting = s.waiting := rfl
@[simp] theorem State.modFeed_lanes : (s.modFeed x k).lanes = s.lanes := rfl
@[simp] theorem State.modFeed_survey : (s.modFeed x k).survey = s.survey := rfl
@[simp] theorem State.modFeed_enf : (s.modFeed x k).enf = s.enf := rfl
@[simp] theorem State.modFeed_refill : (s.modFeed x k).refill = s.refill := rfl
@[simp] theorem State.modFeed_lock : (s.modFeed x k).lock = s.lock := rfl
@[simp] theorem State.modFeed_fence : (s.modFeed x k).fence = s.fence := rfl
@[simp] theorem State.modFeed_install : (s.modFeed x k).install = s.install := rfl
@[simp] theorem State.modFeed_active : (s.modFeed x k).active = s.active := rfl
@[simp] theorem State.modFeed_accepted : (s.modFeed x k).accepted = s.accepted := rfl
end

section
variable (s : State) (x : Side) (k : Reach → Reach)
@[simp] theorem State.modReach_pending : (s.modReach x k).pending = s.pending := rfl
@[simp] theorem State.modReach_resetAsserted : (s.modReach x k).resetAsserted = s.resetAsserted := rfl
@[simp] theorem State.modReach_ready : (s.modReach x k).ready = s.ready := rfl
@[simp] theorem State.modReach_rfreq : (s.modReach x k).rfreq = s.rfreq := rfl
@[simp] theorem State.modReach_mem : (s.modReach x k).mem = s.mem := rfl
@[simp] theorem State.modReach_memBefore : (s.modReach x k).memBefore = s.memBefore := rfl
@[simp] theorem State.modReach_ports : (s.modReach x k).ports = s.ports := rfl
@[simp] theorem State.modReach_feeds : (s.modReach x k).feeds = s.feeds := rfl
@[simp] theorem State.modReach_reach : (s.modReach x k).reach = s.reach.modify x k := rfl
@[simp] theorem State.modReach_cells : (s.modReach x k).cells = s.cells := rfl
@[simp] theorem State.modReach_tallies : (s.modReach x k).tallies = s.tallies := rfl
@[simp] theorem State.modReach_waiting : (s.modReach x k).waiting = s.waiting := rfl
@[simp] theorem State.modReach_lanes : (s.modReach x k).lanes = s.lanes := rfl
@[simp] theorem State.modReach_survey : (s.modReach x k).survey = s.survey := rfl
@[simp] theorem State.modReach_enf : (s.modReach x k).enf = s.enf := rfl
@[simp] theorem State.modReach_refill : (s.modReach x k).refill = s.refill := rfl
@[simp] theorem State.modReach_lock : (s.modReach x k).lock = s.lock := rfl
@[simp] theorem State.modReach_fence : (s.modReach x k).fence = s.fence := rfl
@[simp] theorem State.modReach_install : (s.modReach x k).install = s.install := rfl
@[simp] theorem State.modReach_active : (s.modReach x k).active = s.active := rfl
@[simp] theorem State.modReach_accepted : (s.modReach x k).accepted = s.accepted := rfl
end

section
variable (s : State) (x : Side) (k : Lane → Lane)
@[simp] theorem State.modLane_pending : (s.modLane x k).pending = s.pending := rfl
@[simp] theorem State.modLane_resetAsserted : (s.modLane x k).resetAsserted = s.resetAsserted := rfl
@[simp] theorem State.modLane_ready : (s.modLane x k).ready = s.ready := rfl
@[simp] theorem State.modLane_rfreq : (s.modLane x k).rfreq = s.rfreq := rfl
@[simp] theorem State.modLane_mem : (s.modLane x k).mem = s.mem := rfl
@[simp] theorem State.modLane_memBefore : (s.modLane x k).memBefore = s.memBefore := rfl
@[simp] theorem State.modLane_ports : (s.modLane x k).ports = s.ports := rfl
@[simp] theorem State.modLane_feeds : (s.modLane x k).feeds = s.feeds := rfl
@[simp] theorem State.modLane_reach : (s.modLane x k).reach = s.reach := rfl
@[simp] theorem State.modLane_cells : (s.modLane x k).cells = s.cells := rfl
@[simp] theorem State.modLane_tallies : (s.modLane x k).tallies = s.tallies := rfl
@[simp] theorem State.modLane_waiting : (s.modLane x k).waiting = s.waiting := rfl
@[simp] theorem State.modLane_lanes : (s.modLane x k).lanes = s.lanes.modify x k := rfl
@[simp] theorem State.modLane_survey : (s.modLane x k).survey = s.survey := rfl
@[simp] theorem State.modLane_enf : (s.modLane x k).enf = s.enf := rfl
@[simp] theorem State.modLane_refill : (s.modLane x k).refill = s.refill := rfl
@[simp] theorem State.modLane_lock : (s.modLane x k).lock = s.lock := rfl
@[simp] theorem State.modLane_fence : (s.modLane x k).fence = s.fence := rfl
@[simp] theorem State.modLane_install : (s.modLane x k).install = s.install := rfl
@[simp] theorem State.modLane_active : (s.modLane x k).active = s.active := rfl
@[simp] theorem State.modLane_accepted : (s.modLane x k).accepted = s.accepted := rfl
end

section
variable (s : State) (x : Side) (k : Enforcement → Enforcement)
@[simp] theorem State.modEnf_pending : (s.modEnf x k).pending = s.pending := rfl
@[simp] theorem State.modEnf_resetAsserted : (s.modEnf x k).resetAsserted = s.resetAsserted := rfl
@[simp] theorem State.modEnf_ready : (s.modEnf x k).ready = s.ready := rfl
@[simp] theorem State.modEnf_rfreq : (s.modEnf x k).rfreq = s.rfreq := rfl
@[simp] theorem State.modEnf_mem : (s.modEnf x k).mem = s.mem := rfl
@[simp] theorem State.modEnf_memBefore : (s.modEnf x k).memBefore = s.memBefore := rfl
@[simp] theorem State.modEnf_ports : (s.modEnf x k).ports = s.ports := rfl
@[simp] theorem State.modEnf_feeds : (s.modEnf x k).feeds = s.feeds := rfl
@[simp] theorem State.modEnf_reach : (s.modEnf x k).reach = s.reach := rfl
@[simp] theorem State.modEnf_cells : (s.modEnf x k).cells = s.cells := rfl
@[simp] theorem State.modEnf_tallies : (s.modEnf x k).tallies = s.tallies := rfl
@[simp] theorem State.modEnf_waiting : (s.modEnf x k).waiting = s.waiting := rfl
@[simp] theorem State.modEnf_lanes : (s.modEnf x k).lanes = s.lanes := rfl
@[simp] theorem State.modEnf_survey : (s.modEnf x k).survey = s.survey := rfl
@[simp] theorem State.modEnf_enf : (s.modEnf x k).enf = s.enf.modify x k := rfl
@[simp] theorem State.modEnf_refill : (s.modEnf x k).refill = s.refill := rfl
@[simp] theorem State.modEnf_lock : (s.modEnf x k).lock = s.lock := rfl
@[simp] theorem State.modEnf_fence : (s.modEnf x k).fence = s.fence := rfl
@[simp] theorem State.modEnf_install : (s.modEnf x k).install = s.install := rfl
@[simp] theorem State.modEnf_active : (s.modEnf x k).active = s.active := rfl
@[simp] theorem State.modEnf_accepted : (s.modEnf x k).accepted = s.accepted := rfl
end

section
variable (s : State) (a : Nat) (v : Word) (vs : List Word)
@[simp] theorem State.writeWord_pending : (s.writeWord a v).pending = s.pending := rfl
@[simp] theorem State.writeWord_resetAsserted : (s.writeWord a v).resetAsserted = s.resetAsserted := rfl
@[simp] theorem State.writeWord_ready : (s.writeWord a v).ready = s.ready := rfl
@[simp] theorem State.writeWord_rfreq : (s.writeWord a v).rfreq = s.rfreq := rfl
@[simp] theorem State.writeWord_mem : (s.writeWord a v).mem = s.mem.write a v := rfl
@[simp] theorem State.writeWord_memBefore : (s.writeWord a v).memBefore = s.memBefore := rfl
@[simp] theorem State.writeWord_ports : (s.writeWord a v).ports = s.ports := rfl
@[simp] theorem State.writeWord_feeds : (s.writeWord a v).feeds = s.feeds := rfl
@[simp] theorem State.writeWord_reach : (s.writeWord a v).reach = s.reach := rfl
@[simp] theorem State.writeWord_cells : (s.writeWord a v).cells = s.cells := rfl
@[simp] theorem State.writeWord_tallies : (s.writeWord a v).tallies = s.tallies := rfl
@[simp] theorem State.writeWord_waiting : (s.writeWord a v).waiting = s.waiting := rfl
@[simp] theorem State.writeWord_lanes : (s.writeWord a v).lanes = s.lanes := rfl
@[simp] theorem State.writeWord_survey : (s.writeWord a v).survey = s.survey := rfl
@[simp] theorem State.writeWord_enf : (s.writeWord a v).enf = s.enf := rfl
@[simp] theorem State.writeWord_refill : (s.writeWord a v).refill = s.refill := rfl
@[simp] theorem State.writeWord_lock : (s.writeWord a v).lock = s.lock := rfl
@[simp] theorem State.writeWord_fence : (s.writeWord a v).fence = s.fence := rfl
@[simp] theorem State.writeWord_install : (s.writeWord a v).install = s.install := rfl
@[simp] theorem State.writeWord_active : (s.writeWord a v).active = s.active := rfl
@[simp] theorem State.writeWord_accepted : (s.writeWord a v).accepted = s.accepted := rfl
@[simp] theorem State.writeWords_pending : (s.writeWords a vs).pending = s.pending := rfl
@[simp] theorem State.writeWords_resetAsserted : (s.writeWords a vs).resetAsserted = s.resetAsserted := rfl
@[simp] theorem State.writeWords_ready : (s.writeWords a vs).ready = s.ready := rfl
@[simp] theorem State.writeWords_rfreq : (s.writeWords a vs).rfreq = s.rfreq := rfl
@[simp] theorem State.writeWords_mem : (s.writeWords a vs).mem = s.mem.writeFrom a vs := rfl
@[simp] theorem State.writeWords_memBefore : (s.writeWords a vs).memBefore = s.memBefore := rfl
@[simp] theorem State.writeWords_ports : (s.writeWords a vs).ports = s.ports := rfl
@[simp] theorem State.writeWords_feeds : (s.writeWords a vs).feeds = s.feeds := rfl
@[simp] theorem State.writeWords_reach : (s.writeWords a vs).reach = s.reach := rfl
@[simp] theorem State.writeWords_cells : (s.writeWords a vs).cells = s.cells := rfl
@[simp] theorem State.writeWords_tallies : (s.writeWords a vs).tallies = s.tallies := rfl
@[simp] theorem State.writeWords_waiting : (s.writeWords a vs).waiting = s.waiting := rfl
@[simp] theorem State.writeWords_lanes : (s.writeWords a vs).lanes = s.lanes := rfl
@[simp] theorem State.writeWords_survey : (s.writeWords a vs).survey = s.survey := rfl
@[simp] theorem State.writeWords_enf : (s.writeWords a vs).enf = s.enf := rfl
@[simp] theorem State.writeWords_refill : (s.writeWords a vs).refill = s.refill := rfl
@[simp] theorem State.writeWords_lock : (s.writeWords a vs).lock = s.lock := rfl
@[simp] theorem State.writeWords_fence : (s.writeWords a vs).fence = s.fence := rfl
@[simp] theorem State.writeWords_install : (s.writeWords a vs).install = s.install := rfl
@[simp] theorem State.writeWords_active : (s.writeWords a vs).active = s.active := rfl
@[simp] theorem State.writeWords_accepted : (s.writeWords a vs).accepted = s.accepted := rfl
end

end Sys2Proof.Machine
end

