-- ==== Sys2Proof/Laws/Frames.lean ====
section
/-! SUPPORT. What each shared operation leaves alone: one lemma per operation and field that it does not touch. -/

namespace Sys2Proof.Machine

section
variable (s : State) (f : Flag) (p : Port)
@[simp] theorem State.raise_pending : (s.raise f p).pending = s.pending := rfl
@[simp] theorem State.raise_resetAsserted : (s.raise f p).resetAsserted = s.resetAsserted := rfl
@[simp] theorem State.raise_ready : (s.raise f p).ready = s.ready := rfl
@[simp] theorem State.raise_rfreq : (s.raise f p).rfreq = s.rfreq := rfl
@[simp] theorem State.raise_mem : (s.raise f p).mem = s.mem := rfl
@[simp] theorem State.raise_memBefore : (s.raise f p).memBefore = s.memBefore := rfl
@[simp] theorem State.raise_feeds : (s.raise f p).feeds = s.feeds := rfl
@[simp] theorem State.raise_reach : (s.raise f p).reach = s.reach := rfl
@[simp] theorem State.raise_cells : (s.raise f p).cells = s.cells := rfl
@[simp] theorem State.raise_tallies : (s.raise f p).tallies = s.tallies := rfl
@[simp] theorem State.raise_waiting : (s.raise f p).waiting = s.waiting := rfl
@[simp] theorem State.raise_lanes : (s.raise f p).lanes = s.lanes := rfl
@[simp] theorem State.raise_survey : (s.raise f p).survey = s.survey := rfl
@[simp] theorem State.raise_enf : (s.raise f p).enf = s.enf := rfl
@[simp] theorem State.raise_refill : (s.raise f p).refill = s.refill := rfl
@[simp] theorem State.raise_lock : (s.raise f p).lock = s.lock := rfl
@[simp] theorem State.raise_fence : (s.raise f p).fence = s.fence := rfl
@[simp] theorem State.raise_install : (s.raise f p).install = s.install := rfl
@[simp] theorem State.raise_active : (s.raise f p).active = s.active := rfl
@[simp] theorem State.raise_accepted : (s.raise f p).accepted = s.accepted := rfl
end

section
variable (s : State) (f : Flag)
@[simp] theorem State.raiseBoth_pending : (s.raiseBoth f).pending = s.pending := rfl
@[simp] theorem State.raiseBoth_resetAsserted : (s.raiseBoth f).resetAsserted = s.resetAsserted := rfl
@[simp] theorem State.raiseBoth_ready : (s.raiseBoth f).ready = s.ready := rfl
@[simp] theorem State.raiseBoth_rfreq : (s.raiseBoth f).rfreq = s.rfreq := rfl
@[simp] theorem State.raiseBoth_mem : (s.raiseBoth f).mem = s.mem := rfl
@[simp] theorem State.raiseBoth_memBefore : (s.raiseBoth f).memBefore = s.memBefore := rfl
@[simp] theorem State.raiseBoth_feeds : (s.raiseBoth f).feeds = s.feeds := rfl
@[simp] theorem State.raiseBoth_reach : (s.raiseBoth f).reach = s.reach := rfl
@[simp] theorem State.raiseBoth_cells : (s.raiseBoth f).cells = s.cells := rfl
@[simp] theorem State.raiseBoth_tallies : (s.raiseBoth f).tallies = s.tallies := rfl
@[simp] theorem State.raiseBoth_waiting : (s.raiseBoth f).waiting = s.waiting := rfl
@[simp] theorem State.raiseBoth_lanes : (s.raiseBoth f).lanes = s.lanes := rfl
@[simp] theorem State.raiseBoth_survey : (s.raiseBoth f).survey = s.survey := rfl
@[simp] theorem State.raiseBoth_enf : (s.raiseBoth f).enf = s.enf := rfl
@[simp] theorem State.raiseBoth_refill : (s.raiseBoth f).refill = s.refill := rfl
@[simp] theorem State.raiseBoth_lock : (s.raiseBoth f).lock = s.lock := rfl
@[simp] theorem State.raiseBoth_fence : (s.raiseBoth f).fence = s.fence := rfl
@[simp] theorem State.raiseBoth_install : (s.raiseBoth f).install = s.install := rfl
@[simp] theorem State.raiseBoth_active : (s.raiseBoth f).active = s.active := rfl
@[simp] theorem State.raiseBoth_accepted : (s.raiseBoth f).accepted = s.accepted := rfl
end

section
variable (s : State) (b : Bool) (f : Flag) (p : Port)
@[simp] theorem State.raiseIf_pending : (s.raiseIf b f p).pending = s.pending := by unfold State.raiseIf; split <;> rfl
@[simp] theorem State.raiseIf_resetAsserted : (s.raiseIf b f p).resetAsserted = s.resetAsserted := by unfold State.raiseIf; split <;> rfl
@[simp] theorem State.raiseIf_ready : (s.raiseIf b f p).ready = s.ready := by unfold State.raiseIf; split <;> rfl
@[simp] theorem State.raiseIf_rfreq : (s.raiseIf b f p).rfreq = s.rfreq := by unfold State.raiseIf; split <;> rfl
@[simp] theorem State.raiseIf_mem : (s.raiseIf b f p).mem = s.mem := by unfold State.raiseIf; split <;> rfl
@[simp] theorem State.raiseIf_memBefore : (s.raiseIf b f p).memBefore = s.memBefore := by unfold State.raiseIf; split <;> rfl
@[simp] theorem State.raiseIf_feeds : (s.raiseIf b f p).feeds = s.feeds := by unfold State.raiseIf; split <;> rfl
@[simp] theorem State.raiseIf_reach : (s.raiseIf b f p).reach = s.reach := by unfold State.raiseIf; split <;> rfl
@[simp] theorem State.raiseIf_cells : (s.raiseIf b f p).cells = s.cells := by unfold State.raiseIf; split <;> rfl
@[simp] theorem State.raiseIf_tallies : (s.raiseIf b f p).tallies = s.tallies := by unfold State.raiseIf; split <;> rfl
@[simp] theorem State.raiseIf_waiting : (s.raiseIf b f p).waiting = s.waiting := by unfold State.raiseIf; split <;> rfl
@[simp] theorem State.raiseIf_lanes : (s.raiseIf b f p).lanes = s.lanes := by unfold State.raiseIf; split <;> rfl
@[simp] theorem State.raiseIf_survey : (s.raiseIf b f p).survey = s.survey := by unfold State.raiseIf; split <;> rfl
@[simp] theorem State.raiseIf_enf : (s.raiseIf b f p).enf = s.enf := by unfold State.raiseIf; split <;> rfl
@[simp] theorem State.raiseIf_refill : (s.raiseIf b f p).refill = s.refill := by unfold State.raiseIf; split <;> rfl
@[simp] theorem State.raiseIf_lock : (s.raiseIf b f p).lock = s.lock := by unfold State.raiseIf; split <;> rfl
@[simp] theorem State.raiseIf_fence : (s.raiseIf b f p).fence = s.fence := by unfold State.raiseIf; split <;> rfl
@[simp] theorem State.raiseIf_install : (s.raiseIf b f p).install = s.install := by unfold State.raiseIf; split <;> rfl
@[simp] theorem State.raiseIf_active : (s.raiseIf b f p).active = s.active := by unfold State.raiseIf; split <;> rfl
@[simp] theorem State.raiseIf_accepted : (s.raiseIf b f p).accepted = s.accepted := by unfold State.raiseIf; split <;> rfl
end

section
variable (s : State) (w : Word)
@[simp] theorem State.noteConditions_pending : (s.noteConditions w).pending = s.pending := by unfold State.noteConditions; split <;> rfl
@[simp] theorem State.noteConditions_resetAsserted : (s.noteConditions w).resetAsserted = s.resetAsserted := by unfold State.noteConditions; split <;> rfl
@[simp] theorem State.noteConditions_ready : (s.noteConditions w).ready = s.ready := by unfold State.noteConditions; split <;> rfl
@[simp] theorem State.noteConditions_rfreq : (s.noteConditions w).rfreq = s.rfreq := by unfold State.noteConditions; split <;> rfl
@[simp] theorem State.noteConditions_mem : (s.noteConditions w).mem = s.mem := by unfold State.noteConditions; split <;> rfl
@[simp] theorem State.noteConditions_memBefore : (s.noteConditions w).memBefore = s.memBefore := by unfold State.noteConditions; split <;> rfl
@[simp] theorem State.noteConditions_feeds : (s.noteConditions w).feeds = s.feeds := by unfold State.noteConditions; split <;> rfl
@[simp] theorem State.noteConditions_reach : (s.noteConditions w).reach = s.reach := by unfold State.noteConditions; split <;> rfl
@[simp] theorem State.noteConditions_cells : (s.noteConditions w).cells = s.cells := by unfold State.noteConditions; split <;> rfl
@[simp] theorem State.noteConditions_tallies : (s.noteConditions w).tallies = s.tallies := by unfold State.noteConditions; split <;> rfl
@[simp] theorem State.noteConditions_waiting : (s.noteConditions w).waiting = s.waiting := by unfold State.noteConditions; split <;> rfl
@[simp] theorem State.noteConditions_lanes : (s.noteConditions w).lanes = s.lanes := by unfold State.noteConditions; split <;> rfl
@[simp] theorem State.noteConditions_survey : (s.noteConditions w).survey = s.survey := by unfold State.noteConditions; split <;> rfl
@[simp] theorem State.noteConditions_enf : (s.noteConditions w).enf = s.enf := by unfold State.noteConditions; split <;> rfl
@[simp] theorem State.noteConditions_refill : (s.noteConditions w).refill = s.refill := by unfold State.noteConditions; split <;> rfl
@[simp] theorem State.noteConditions_lock : (s.noteConditions w).lock = s.lock := by unfold State.noteConditions; split <;> rfl
@[simp] theorem State.noteConditions_fence : (s.noteConditions w).fence = s.fence := by unfold State.noteConditions; split <;> rfl
@[simp] theorem State.noteConditions_install : (s.noteConditions w).install = s.install := by unfold State.noteConditions; split <;> rfl
@[simp] theorem State.noteConditions_active : (s.noteConditions w).active = s.active := by unfold State.noteConditions; split <;> rfl
@[simp] theorem State.noteConditions_accepted : (s.noteConditions w).accepted = s.accepted := by unfold State.noteConditions; split <;> rfl
end

section
variable (s : State)
@[simp] theorem State.writeStatus_pending : s.writeStatus.pending = s.pending := rfl
@[simp] theorem State.writeStatus_resetAsserted : s.writeStatus.resetAsserted = s.resetAsserted := rfl
@[simp] theorem State.writeStatus_ready : s.writeStatus.ready = s.ready := rfl
@[simp] theorem State.writeStatus_rfreq : s.writeStatus.rfreq = s.rfreq := rfl
@[simp] theorem State.writeStatus_memBefore : s.writeStatus.memBefore = s.memBefore := rfl
@[simp] theorem State.writeStatus_ports : s.writeStatus.ports = s.ports := rfl
@[simp] theorem State.writeStatus_feeds : s.writeStatus.feeds = s.feeds := rfl
@[simp] theorem State.writeStatus_reach : s.writeStatus.reach = s.reach := rfl
@[simp] theorem State.writeStatus_cells : s.writeStatus.cells = s.cells := rfl
@[simp] theorem State.writeStatus_tallies : s.writeStatus.tallies = s.tallies := rfl
@[simp] theorem State.writeStatus_waiting : s.writeStatus.waiting = s.waiting := rfl
@[simp] theorem State.writeStatus_lanes : s.writeStatus.lanes = s.lanes := rfl
@[simp] theorem State.writeStatus_survey : s.writeStatus.survey = s.survey := rfl
@[simp] theorem State.writeStatus_enf : s.writeStatus.enf = s.enf := rfl
@[simp] theorem State.writeStatus_refill : s.writeStatus.refill = s.refill := rfl
@[simp] theorem State.writeStatus_lock : s.writeStatus.lock = s.lock := rfl
@[simp] theorem State.writeStatus_fence : s.writeStatus.fence = s.fence := rfl
@[simp] theorem State.writeStatus_install : s.writeStatus.install = s.install := rfl
@[simp] theorem State.writeStatus_active : s.writeStatus.active = s.active := rfl
@[simp] theorem State.writeStatus_accepted : s.writeStatus.accepted = s.accepted := rfl
end

section
variable (s : State)
@[simp] theorem State.writeRefillRecord_pending : s.writeRefillRecord.pending = s.pending := rfl
@[simp] theorem State.writeRefillRecord_resetAsserted : s.writeRefillRecord.resetAsserted = s.resetAsserted := rfl
@[simp] theorem State.writeRefillRecord_ready : s.writeRefillRecord.ready = s.ready := rfl
@[simp] theorem State.writeRefillRecord_rfreq : s.writeRefillRecord.rfreq = s.rfreq := rfl
@[simp] theorem State.writeRefillRecord_memBefore : s.writeRefillRecord.memBefore = s.memBefore := rfl
@[simp] theorem State.writeRefillRecord_ports : s.writeRefillRecord.ports = s.ports := rfl
@[simp] theorem State.writeRefillRecord_feeds : s.writeRefillRecord.feeds = s.feeds := rfl
@[simp] theorem State.writeRefillRecord_reach : s.writeRefillRecord.reach = s.reach := rfl
@[simp] theorem State.writeRefillRecord_cells : s.writeRefillRecord.cells = s.cells := rfl
@[simp] theorem State.writeRefillRecord_tallies : s.writeRefillRecord.tallies = s.tallies := rfl
@[simp] theorem State.writeRefillRecord_waiting : s.writeRefillRecord.waiting = s.waiting := rfl
@[simp] theorem State.writeRefillRecord_lanes : s.writeRefillRecord.lanes = s.lanes := rfl
@[simp] theorem State.writeRefillRecord_survey : s.writeRefillRecord.survey = s.survey := rfl
@[simp] theorem State.writeRefillRecord_enf : s.writeRefillRecord.enf = s.enf := rfl
@[simp] theorem State.writeRefillRecord_refill : s.writeRefillRecord.refill = s.refill := rfl
@[simp] theorem State.writeRefillRecord_lock : s.writeRefillRecord.lock = s.lock := rfl
@[simp] theorem State.writeRefillRecord_fence : s.writeRefillRecord.fence = s.fence := rfl
@[simp] theorem State.writeRefillRecord_install : s.writeRefillRecord.install = s.install := rfl
@[simp] theorem State.writeRefillRecord_active : s.writeRefillRecord.active = s.active := rfl
@[simp] theorem State.writeRefillRecord_accepted : s.writeRefillRecord.accepted = s.accepted := rfl
end

section
variable (s : State)
@[simp] theorem State.writeInstallRecord_pending : s.writeInstallRecord.pending = s.pending := rfl
@[simp] theorem State.writeInstallRecord_resetAsserted : s.writeInstallRecord.resetAsserted = s.resetAsserted := rfl
@[simp] theorem State.writeInstallRecord_ready : s.writeInstallRecord.ready = s.ready := rfl
@[simp] theorem State.writeInstallRecord_rfreq : s.writeInstallRecord.rfreq = s.rfreq := rfl
@[simp] theorem State.writeInstallRecord_memBefore : s.writeInstallRecord.memBefore = s.memBefore := rfl
@[simp] theorem State.writeInstallRecord_ports : s.writeInstallRecord.ports = s.ports := rfl
@[simp] theorem State.writeInstallRecord_feeds : s.writeInstallRecord.feeds = s.feeds := rfl
@[simp] theorem State.writeInstallRecord_reach : s.writeInstallRecord.reach = s.reach := rfl
@[simp] theorem State.writeInstallRecord_cells : s.writeInstallRecord.cells = s.cells := rfl
@[simp] theorem State.writeInstallRecord_tallies : s.writeInstallRecord.tallies = s.tallies := rfl
@[simp] theorem State.writeInstallRecord_waiting : s.writeInstallRecord.waiting = s.waiting := rfl
@[simp] theorem State.writeInstallRecord_lanes : s.writeInstallRecord.lanes = s.lanes := rfl
@[simp] theorem State.writeInstallRecord_survey : s.writeInstallRecord.survey = s.survey := rfl
@[simp] theorem State.writeInstallRecord_enf : s.writeInstallRecord.enf = s.enf := rfl
@[simp] theorem State.writeInstallRecord_refill : s.writeInstallRecord.refill = s.refill := rfl
@[simp] theorem State.writeInstallRecord_lock : s.writeInstallRecord.lock = s.lock := rfl
@[simp] theorem State.writeInstallRecord_fence : s.writeInstallRecord.fence = s.fence := rfl
@[simp] theorem State.writeInstallRecord_install : s.writeInstallRecord.install = s.install := rfl
@[simp] theorem State.writeInstallRecord_active : s.writeInstallRecord.active = s.active := rfl
@[simp] theorem State.writeInstallRecord_accepted : s.writeInstallRecord.accepted = s.accepted := rfl
end

section
variable (s : State)
@[simp] theorem State.writeLockMirror_pending : s.writeLockMirror.pending = s.pending := rfl
@[simp] theorem State.writeLockMirror_resetAsserted : s.writeLockMirror.resetAsserted = s.resetAsserted := rfl
@[simp] theorem State.writeLockMirror_ready : s.writeLockMirror.ready = s.ready := rfl
@[simp] theorem State.writeLockMirror_rfreq : s.writeLockMirror.rfreq = s.rfreq := rfl
@[simp] theorem State.writeLockMirror_memBefore : s.writeLockMirror.memBefore = s.memBefore := rfl
@[simp] theorem State.writeLockMirror_ports : s.writeLockMirror.ports = s.ports := rfl
@[simp] theorem State.writeLockMirror_feeds : s.writeLockMirror.feeds = s.feeds := rfl
@[simp] theorem State.writeLockMirror_reach : s.writeLockMirror.reach = s.reach := rfl
@[simp] theorem State.writeLockMirror_cells : s.writeLockMirror.cells = s.cells := rfl
@[simp] theorem State.writeLockMirror_tallies : s.writeLockMirror.tallies = s.tallies := rfl
@[simp] theorem State.writeLockMirror_waiting : s.writeLockMirror.waiting = s.waiting := rfl
@[simp] theorem State.writeLockMirror_lanes : s.writeLockMirror.lanes = s.lanes := rfl
@[simp] theorem State.writeLockMirror_survey : s.writeLockMirror.survey = s.survey := rfl
@[simp] theorem State.writeLockMirror_enf : s.writeLockMirror.enf = s.enf := rfl
@[simp] theorem State.writeLockMirror_refill : s.writeLockMirror.refill = s.refill := rfl
@[simp] theorem State.writeLockMirror_lock : s.writeLockMirror.lock = s.lock := rfl
@[simp] theorem State.writeLockMirror_fence : s.writeLockMirror.fence = s.fence := rfl
@[simp] theorem State.writeLockMirror_install : s.writeLockMirror.install = s.install := rfl
@[simp] theorem State.writeLockMirror_active : s.writeLockMirror.active = s.active := rfl
@[simp] theorem State.writeLockMirror_accepted : s.writeLockMirror.accepted = s.accepted := rfl
end

section
variable (s : State) (arm : Arm) (p : PauseSet) (q : StopSet)
@[simp] theorem State.setCauses_pending : (s.setCauses arm p q).pending = s.pending := by simp [State.setCauses]
@[simp] theorem State.setCauses_resetAsserted : (s.setCauses arm p q).resetAsserted = s.resetAsserted := by simp [State.setCauses]
@[simp] theorem State.setCauses_ready : (s.setCauses arm p q).ready = s.ready := by simp [State.setCauses]
@[simp] theorem State.setCauses_rfreq : (s.setCauses arm p q).rfreq = s.rfreq := by simp [State.setCauses]
@[simp] theorem State.setCauses_memBefore : (s.setCauses arm p q).memBefore = s.memBefore := by simp [State.setCauses]
@[simp] theorem State.setCauses_feeds : (s.setCauses arm p q).feeds = s.feeds := by simp [State.setCauses]
@[simp] theorem State.setCauses_reach : (s.setCauses arm p q).reach = s.reach := by simp [State.setCauses]
@[simp] theorem State.setCauses_cells : (s.setCauses arm p q).cells = s.cells := by simp [State.setCauses]
@[simp] theorem State.setCauses_tallies : (s.setCauses arm p q).tallies = s.tallies := by simp [State.setCauses]
@[simp] theorem State.setCauses_waiting : (s.setCauses arm p q).waiting = s.waiting := by simp [State.setCauses]
@[simp] theorem State.setCauses_lanes : (s.setCauses arm p q).lanes = s.lanes := by simp [State.setCauses]
@[simp] theorem State.setCauses_survey : (s.setCauses arm p q).survey = s.survey := by simp [State.setCauses]
@[simp] theorem State.setCauses_refill : (s.setCauses arm p q).refill = s.refill := by simp [State.setCauses]
@[simp] theorem State.setCauses_lock : (s.setCauses arm p q).lock = s.lock := by simp [State.setCauses]
@[simp] theorem State.setCauses_fence : (s.setCauses arm p q).fence = s.fence := by simp [State.setCauses]
@[simp] theorem State.setCauses_install : (s.setCauses arm p q).install = s.install := by simp [State.setCauses]
@[simp] theorem State.setCauses_active : (s.setCauses arm p q).active = s.active := by simp [State.setCauses]
@[simp] theorem State.setCauses_accepted : (s.setCauses arm p q).accepted = s.accepted := by simp [State.setCauses]
end

section
variable (s : State) (arm : Arm)
@[simp] theorem State.orderSnapshot_pending : (s.orderSnapshot arm).pending = s.pending := rfl
@[simp] theorem State.orderSnapshot_resetAsserted : (s.orderSnapshot arm).resetAsserted = s.resetAsserted := rfl
@[simp] theorem State.orderSnapshot_ready : (s.orderSnapshot arm).ready = s.ready := rfl
@[simp] theorem State.orderSnapshot_rfreq : (s.orderSnapshot arm).rfreq = s.rfreq := rfl
@[simp] theorem State.orderSnapshot_mem : (s.orderSnapshot arm).mem = s.mem := rfl
@[simp] theorem State.orderSnapshot_memBefore : (s.orderSnapshot arm).memBefore = s.memBefore := rfl
@[simp] theorem State.orderSnapshot_ports : (s.orderSnapshot arm).ports = s.ports := rfl
@[simp] theorem State.orderSnapshot_feeds : (s.orderSnapshot arm).feeds = s.feeds := rfl
@[simp] theorem State.orderSnapshot_reach : (s.orderSnapshot arm).reach = s.reach := rfl
@[simp] theorem State.orderSnapshot_cells : (s.orderSnapshot arm).cells = s.cells := rfl
@[simp] theorem State.orderSnapshot_tallies : (s.orderSnapshot arm).tallies = s.tallies := rfl
@[simp] theorem State.orderSnapshot_waiting : (s.orderSnapshot arm).waiting = s.waiting := rfl
@[simp] theorem State.orderSnapshot_lanes : (s.orderSnapshot arm).lanes = s.lanes := rfl
@[simp] theorem State.orderSnapshot_survey : (s.orderSnapshot arm).survey = s.survey := rfl
@[simp] theorem State.orderSnapshot_refill : (s.orderSnapshot arm).refill = s.refill := rfl
@[simp] theorem State.orderSnapshot_lock : (s.orderSnapshot arm).lock = s.lock := rfl
@[simp] theorem State.orderSnapshot_fence : (s.orderSnapshot arm).fence = s.fence := rfl
@[simp] theorem State.orderSnapshot_install : (s.orderSnapshot arm).install = s.install := rfl
@[simp] theorem State.orderSnapshot_active : (s.orderSnapshot arm).active = s.active := rfl
@[simp] theorem State.orderSnapshot_accepted : (s.orderSnapshot arm).accepted = s.accepted := rfl
end

section
variable (s : State) (arm : Arm)
@[simp] theorem State.addFeedLoss_pending : (s.addFeedLoss arm).pending = s.pending := by simp [State.addFeedLoss]
@[simp] theorem State.addFeedLoss_resetAsserted : (s.addFeedLoss arm).resetAsserted = s.resetAsserted := by simp [State.addFeedLoss]
@[simp] theorem State.addFeedLoss_ready : (s.addFeedLoss arm).ready = s.ready := by simp [State.addFeedLoss]
@[simp] theorem State.addFeedLoss_rfreq : (s.addFeedLoss arm).rfreq = s.rfreq := by simp [State.addFeedLoss]
@[simp] theorem State.addFeedLoss_memBefore : (s.addFeedLoss arm).memBefore = s.memBefore := by simp [State.addFeedLoss]
@[simp] theorem State.addFeedLoss_feeds : (s.addFeedLoss arm).feeds = s.feeds := by simp [State.addFeedLoss]
@[simp] theorem State.addFeedLoss_reach : (s.addFeedLoss arm).reach = s.reach := by simp [State.addFeedLoss]
@[simp] theorem State.addFeedLoss_cells : (s.addFeedLoss arm).cells = s.cells := by simp [State.addFeedLoss]
@[simp] theorem State.addFeedLoss_tallies : (s.addFeedLoss arm).tallies = s.tallies := by simp [State.addFeedLoss]
@[simp] theorem State.addFeedLoss_waiting : (s.addFeedLoss arm).waiting = s.waiting := by simp [State.addFeedLoss]
@[simp] theorem State.addFeedLoss_lanes : (s.addFeedLoss arm).lanes = s.lanes := by simp [State.addFeedLoss]
@[simp] theorem State.addFeedLoss_survey : (s.addFeedLoss arm).survey = s.survey := by simp [State.addFeedLoss]
@[simp] theorem State.addFeedLoss_refill : (s.addFeedLoss arm).refill = s.refill := by simp [State.addFeedLoss]
@[simp] theorem State.addFeedLoss_lock : (s.addFeedLoss arm).lock = s.lock := by simp [State.addFeedLoss]
@[simp] theorem State.addFeedLoss_fence : (s.addFeedLoss arm).fence = s.fence := by simp [State.addFeedLoss]
@[simp] theorem State.addFeedLoss_install : (s.addFeedLoss arm).install = s.install := by simp [State.addFeedLoss]
@[simp] theorem State.addFeedLoss_active : (s.addFeedLoss arm).active = s.active := by simp [State.addFeedLoss]
@[simp] theorem State.addFeedLoss_accepted : (s.addFeedLoss arm).accepted = s.accepted := by simp [State.addFeedLoss]
end

section
variable (s : State) (arm : Arm) (new : FeedState)
@[simp] theorem State.changeFeed_pending : (s.changeFeed arm new).pending = s.pending := by unfold State.changeFeed; split; rfl; split <;> simp
@[simp] theorem State.changeFeed_resetAsserted : (s.changeFeed arm new).resetAsserted = s.resetAsserted := by unfold State.changeFeed; split; rfl; split <;> simp
@[simp] theorem State.changeFeed_ready : (s.changeFeed arm new).ready = s.ready := by unfold State.changeFeed; split; rfl; split <;> simp
@[simp] theorem State.changeFeed_rfreq : (s.changeFeed arm new).rfreq = s.rfreq := by unfold State.changeFeed; split; rfl; split <;> simp
@[simp] theorem State.changeFeed_memBefore : (s.changeFeed arm new).memBefore = s.memBefore := by unfold State.changeFeed; split; rfl; split <;> simp
@[simp] theorem State.changeFeed_reach : (s.changeFeed arm new).reach = s.reach := by unfold State.changeFeed; split; rfl; split <;> simp
@[simp] theorem State.changeFeed_cells : (s.changeFeed arm new).cells = s.cells := by unfold State.changeFeed; split; rfl; split <;> simp
@[simp] theorem State.changeFeed_tallies : (s.changeFeed arm new).tallies = s.tallies := by unfold State.changeFeed; split; rfl; split <;> simp
@[simp] theorem State.changeFeed_waiting : (s.changeFeed arm new).waiting = s.waiting := by unfold State.changeFeed; split; rfl; split <;> simp
@[simp] theorem State.changeFeed_lanes : (s.changeFeed arm new).lanes = s.lanes := by unfold State.changeFeed; split; rfl; split <;> simp
@[simp] theorem State.changeFeed_survey : (s.changeFeed arm new).survey = s.survey := by unfold State.changeFeed; split; rfl; split <;> simp
@[simp] theorem State.changeFeed_refill : (s.changeFeed arm new).refill = s.refill := by unfold State.changeFeed; split; rfl; split <;> simp
@[simp] theorem State.changeFeed_lock : (s.changeFeed arm new).lock = s.lock := by unfold State.changeFeed; split; rfl; split <;> simp
@[simp] theorem State.changeFeed_fence : (s.changeFeed arm new).fence = s.fence := by unfold State.changeFeed; split; rfl; split <;> simp
@[simp] theorem State.changeFeed_install : (s.changeFeed arm new).install = s.install := by unfold State.changeFeed; split; rfl; split <;> simp
@[simp] theorem State.changeFeed_active : (s.changeFeed arm new).active = s.active := by unfold State.changeFeed; split; rfl; split <;> simp
@[simp] theorem State.changeFeed_accepted : (s.changeFeed arm new).accepted = s.accepted := by unfold State.changeFeed; split; rfl; split <;> simp
end

section
variable (s : State) (i : Install)
@[simp] theorem State.changeInstall_pending : (s.changeInstall i).pending = s.pending := rfl
@[simp] theorem State.changeInstall_resetAsserted : (s.changeInstall i).resetAsserted = s.resetAsserted := rfl
@[simp] theorem State.changeInstall_ready : (s.changeInstall i).ready = s.ready := rfl
@[simp] theorem State.changeInstall_rfreq : (s.changeInstall i).rfreq = s.rfreq := rfl
@[simp] theorem State.changeInstall_memBefore : (s.changeInstall i).memBefore = s.memBefore := rfl
@[simp] theorem State.changeInstall_feeds : (s.changeInstall i).feeds = s.feeds := rfl
@[simp] theorem State.changeInstall_reach : (s.changeInstall i).reach = s.reach := rfl
@[simp] theorem State.changeInstall_cells : (s.changeInstall i).cells = s.cells := rfl
@[simp] theorem State.changeInstall_tallies : (s.changeInstall i).tallies = s.tallies := rfl
@[simp] theorem State.changeInstall_waiting : (s.changeInstall i).waiting = s.waiting := rfl
@[simp] theorem State.changeInstall_lanes : (s.changeInstall i).lanes = s.lanes := rfl
@[simp] theorem State.changeInstall_survey : (s.changeInstall i).survey = s.survey := rfl
@[simp] theorem State.changeInstall_enf : (s.changeInstall i).enf = s.enf := rfl
@[simp] theorem State.changeInstall_refill : (s.changeInstall i).refill = s.refill := rfl
@[simp] theorem State.changeInstall_lock : (s.changeInstall i).lock = s.lock := rfl
@[simp] theorem State.changeInstall_fence : (s.changeInstall i).fence = s.fence := rfl
@[simp] theorem State.changeInstall_active : (s.changeInstall i).active = s.active := rfl
@[simp] theorem State.changeInstall_accepted : (s.changeInstall i).accepted = s.accepted := rfl
end

section
variable (s : State) (r : Refill)
@[simp] theorem State.putRefill_pending : (s.putRefill r).pending = s.pending := rfl
@[simp] theorem State.putRefill_resetAsserted : (s.putRefill r).resetAsserted = s.resetAsserted := rfl
@[simp] theorem State.putRefill_ready : (s.putRefill r).ready = s.ready := rfl
@[simp] theorem State.putRefill_rfreq : (s.putRefill r).rfreq = s.rfreq := rfl
@[simp] theorem State.putRefill_memBefore : (s.putRefill r).memBefore = s.memBefore := rfl
@[simp] theorem State.putRefill_ports : (s.putRefill r).ports = s.ports := rfl
@[simp] theorem State.putRefill_feeds : (s.putRefill r).feeds = s.feeds := rfl
@[simp] theorem State.putRefill_reach : (s.putRefill r).reach = s.reach := rfl
@[simp] theorem State.putRefill_cells : (s.putRefill r).cells = s.cells := rfl
@[simp] theorem State.putRefill_tallies : (s.putRefill r).tallies = s.tallies := rfl
@[simp] theorem State.putRefill_waiting : (s.putRefill r).waiting = s.waiting := rfl
@[simp] theorem State.putRefill_lanes : (s.putRefill r).lanes = s.lanes := rfl
@[simp] theorem State.putRefill_survey : (s.putRefill r).survey = s.survey := rfl
@[simp] theorem State.putRefill_enf : (s.putRefill r).enf = s.enf := rfl
@[simp] theorem State.putRefill_lock : (s.putRefill r).lock = s.lock := rfl
@[simp] theorem State.putRefill_fence : (s.putRefill r).fence = s.fence := rfl
@[simp] theorem State.putRefill_install : (s.putRefill r).install = s.install := rfl
@[simp] theorem State.putRefill_active : (s.putRefill r).active = s.active := rfl
@[simp] theorem State.putRefill_accepted : (s.putRefill r).accepted = s.accepted := rfl
end

section
variable (s : State) (b : Bool)
@[simp] theorem State.setSip_pending : (s.setSip b).pending = s.pending := rfl
@[simp] theorem State.setSip_resetAsserted : (s.setSip b).resetAsserted = s.resetAsserted := rfl
@[simp] theorem State.setSip_ready : (s.setSip b).ready = s.ready := rfl
@[simp] theorem State.setSip_rfreq : (s.setSip b).rfreq = s.rfreq := rfl
@[simp] theorem State.setSip_memBefore : (s.setSip b).memBefore = s.memBefore := rfl
@[simp] theorem State.setSip_ports : (s.setSip b).ports = s.ports := rfl
@[simp] theorem State.setSip_feeds : (s.setSip b).feeds = s.feeds := rfl
@[simp] theorem State.setSip_reach : (s.setSip b).reach = s.reach := rfl
@[simp] theorem State.setSip_cells : (s.setSip b).cells = s.cells := rfl
@[simp] theorem State.setSip_tallies : (s.setSip b).tallies = s.tallies := rfl
@[simp] theorem State.setSip_waiting : (s.setSip b).waiting = s.waiting := rfl
@[simp] theorem State.setSip_lanes : (s.setSip b).lanes = s.lanes := rfl
@[simp] theorem State.setSip_enf : (s.setSip b).enf = s.enf := rfl
@[simp] theorem State.setSip_refill : (s.setSip b).refill = s.refill := rfl
@[simp] theorem State.setSip_lock : (s.setSip b).lock = s.lock := rfl
@[simp] theorem State.setSip_fence : (s.setSip b).fence = s.fence := rfl
@[simp] theorem State.setSip_install : (s.setSip b).install = s.install := rfl
@[simp] theorem State.setSip_active : (s.setSip b).active = s.active := rfl
@[simp] theorem State.setSip_accepted : (s.setSip b).accepted = s.accepted := rfl
end

section
variable (s : State) (l : Lock)
@[simp] theorem State.putLock_pending : (s.putLock l).pending = s.pending := rfl
@[simp] theorem State.putLock_resetAsserted : (s.putLock l).resetAsserted = s.resetAsserted := rfl
@[simp] theorem State.putLock_ready : (s.putLock l).ready = s.ready := rfl
@[simp] theorem State.putLock_rfreq : (s.putLock l).rfreq = s.rfreq := rfl
@[simp] theorem State.putLock_memBefore : (s.putLock l).memBefore = s.memBefore := rfl
@[simp] theorem State.putLock_ports : (s.putLock l).ports = s.ports := rfl
@[simp] theorem State.putLock_feeds : (s.putLock l).feeds = s.feeds := rfl
@[simp] theorem State.putLock_reach : (s.putLock l).reach = s.reach := rfl
@[simp] theorem State.putLock_cells : (s.putLock l).cells = s.cells := rfl
@[simp] theorem State.putLock_tallies : (s.putLock l).tallies = s.tallies := rfl
@[simp] theorem State.putLock_waiting : (s.putLock l).waiting = s.waiting := rfl
@[simp] theorem State.putLock_lanes : (s.putLock l).lanes = s.lanes := rfl
@[simp] theorem State.putLock_survey : (s.putLock l).survey = s.survey := rfl
@[simp] theorem State.putLock_enf : (s.putLock l).enf = s.enf := rfl
@[simp] theorem State.putLock_refill : (s.putLock l).refill = s.refill := rfl
@[simp] theorem State.putLock_fence : (s.putLock l).fence = s.fence := rfl
@[simp] theorem State.putLock_install : (s.putLock l).install = s.install := rfl
@[simp] theorem State.putLock_active : (s.putLock l).active = s.active := rfl
@[simp] theorem State.putLock_accepted : (s.putLock l).accepted = s.accepted := rfl
end

section
variable (s : State) (p : Option Port)
@[simp] theorem State.flagHandover_pending : (s.flagHandover p).pending = s.pending := by cases p <;> rfl
@[simp] theorem State.flagHandover_resetAsserted : (s.flagHandover p).resetAsserted = s.resetAsserted := by cases p <;> rfl
@[simp] theorem State.flagHandover_ready : (s.flagHandover p).ready = s.ready := by cases p <;> rfl
@[simp] theorem State.flagHandover_rfreq : (s.flagHandover p).rfreq = s.rfreq := by cases p <;> rfl
@[simp] theorem State.flagHandover_mem : (s.flagHandover p).mem = s.mem := by cases p <;> rfl
@[simp] theorem State.flagHandover_memBefore : (s.flagHandover p).memBefore = s.memBefore := by cases p <;> rfl
@[simp] theorem State.flagHandover_feeds : (s.flagHandover p).feeds = s.feeds := by cases p <;> rfl
@[simp] theorem State.flagHandover_reach : (s.flagHandover p).reach = s.reach := by cases p <;> rfl
@[simp] theorem State.flagHandover_cells : (s.flagHandover p).cells = s.cells := by cases p <;> rfl
@[simp] theorem State.flagHandover_tallies : (s.flagHandover p).tallies = s.tallies := by cases p <;> rfl
@[simp] theorem State.flagHandover_waiting : (s.flagHandover p).waiting = s.waiting := by cases p <;> rfl
@[simp] theorem State.flagHandover_lanes : (s.flagHandover p).lanes = s.lanes := by cases p <;> rfl
@[simp] theorem State.flagHandover_survey : (s.flagHandover p).survey = s.survey := by cases p <;> rfl
@[simp] theorem State.flagHandover_enf : (s.flagHandover p).enf = s.enf := by cases p <;> rfl
@[simp] theorem State.flagHandover_refill : (s.flagHandover p).refill = s.refill := by cases p <;> rfl
@[simp] theorem State.flagHandover_lock : (s.flagHandover p).lock = s.lock := by cases p <;> rfl
@[simp] theorem State.flagHandover_fence : (s.flagHandover p).fence = s.fence := by cases p <;> rfl
@[simp] theorem State.flagHandover_install : (s.flagHandover p).install = s.install := by cases p <;> rfl
@[simp] theorem State.flagHandover_active : (s.flagHandover p).active = s.active := by cases p <;> rfl
@[simp] theorem State.flagHandover_accepted : (s.flagHandover p).accepted = s.accepted := by cases p <;> rfl
end

section
variable (s : State) (r : RefillState)
@[simp] theorem State.flagRefillChange_pending : (s.flagRefillChange r).pending = s.pending := by unfold State.flagRefillChange; split <;> rfl
@[simp] theorem State.flagRefillChange_resetAsserted : (s.flagRefillChange r).resetAsserted = s.resetAsserted := by unfold State.flagRefillChange; split <;> rfl
@[simp] theorem State.flagRefillChange_ready : (s.flagRefillChange r).ready = s.ready := by unfold State.flagRefillChange; split <;> rfl
@[simp] theorem State.flagRefillChange_rfreq : (s.flagRefillChange r).rfreq = s.rfreq := by unfold State.flagRefillChange; split <;> rfl
@[simp] theorem State.flagRefillChange_mem : (s.flagRefillChange r).mem = s.mem := by unfold State.flagRefillChange; split <;> rfl
@[simp] theorem State.flagRefillChange_memBefore : (s.flagRefillChange r).memBefore = s.memBefore := by unfold State.flagRefillChange; split <;> rfl
@[simp] theorem State.flagRefillChange_feeds : (s.flagRefillChange r).feeds = s.feeds := by unfold State.flagRefillChange; split <;> rfl
@[simp] theorem State.flagRefillChange_reach : (s.flagRefillChange r).reach = s.reach := by unfold State.flagRefillChange; split <;> rfl
@[simp] theorem State.flagRefillChange_cells : (s.flagRefillChange r).cells = s.cells := by unfold State.flagRefillChange; split <;> rfl
@[simp] theorem State.flagRefillChange_tallies : (s.flagRefillChange r).tallies = s.tallies := by unfold State.flagRefillChange; split <;> rfl
@[simp] theorem State.flagRefillChange_waiting : (s.flagRefillChange r).waiting = s.waiting := by unfold State.flagRefillChange; split <;> rfl
@[simp] theorem State.flagRefillChange_lanes : (s.flagRefillChange r).lanes = s.lanes := by unfold State.flagRefillChange; split <;> rfl
@[simp] theorem State.flagRefillChange_survey : (s.flagRefillChange r).survey = s.survey := by unfold State.flagRefillChange; split <;> rfl
@[simp] theorem State.flagRefillChange_enf : (s.flagRefillChange r).enf = s.enf := by unfold State.flagRefillChange; split <;> rfl
@[simp] theorem State.flagRefillChange_refill : (s.flagRefillChange r).refill = s.refill := by unfold State.flagRefillChange; split <;> rfl
@[simp] theorem State.flagRefillChange_lock : (s.flagRefillChange r).lock = s.lock := by unfold State.flagRefillChange; split <;> rfl
@[simp] theorem State.flagRefillChange_fence : (s.flagRefillChange r).fence = s.fence := by unfold State.flagRefillChange; split <;> rfl
@[simp] theorem State.flagRefillChange_install : (s.flagRefillChange r).install = s.install := by unfold State.flagRefillChange; split <;> rfl
@[simp] theorem State.flagRefillChange_active : (s.flagRefillChange r).active = s.active := by unfold State.flagRefillChange; split <;> rfl
@[simp] theorem State.flagRefillChange_accepted : (s.flagRefillChange r).accepted = s.accepted := by unfold State.flagRefillChange; split <;> rfl
end

section
variable (s : State) (p : Port) (v : Word)
@[simp] theorem State.plockWrite_pending : (s.plockWrite p v).pending = s.pending := by unfold State.plockWrite; (repeat' split) <;> simp
@[simp] theorem State.plockWrite_resetAsserted : (s.plockWrite p v).resetAsserted = s.resetAsserted := by unfold State.plockWrite; (repeat' split) <;> simp
@[simp] theorem State.plockWrite_ready : (s.plockWrite p v).ready = s.ready := by unfold State.plockWrite; (repeat' split) <;> simp
@[simp] theorem State.plockWrite_rfreq : (s.plockWrite p v).rfreq = s.rfreq := by unfold State.plockWrite; (repeat' split) <;> simp
@[simp] theorem State.plockWrite_memBefore : (s.plockWrite p v).memBefore = s.memBefore := by unfold State.plockWrite; (repeat' split) <;> simp
@[simp] theorem State.plockWrite_feeds : (s.plockWrite p v).feeds = s.feeds := by unfold State.plockWrite; (repeat' split) <;> simp
@[simp] theorem State.plockWrite_reach : (s.plockWrite p v).reach = s.reach := by unfold State.plockWrite; (repeat' split) <;> simp
@[simp] theorem State.plockWrite_cells : (s.plockWrite p v).cells = s.cells := by unfold State.plockWrite; (repeat' split) <;> simp
@[simp] theorem State.plockWrite_tallies : (s.plockWrite p v).tallies = s.tallies := by unfold State.plockWrite; (repeat' split) <;> simp
@[simp] theorem State.plockWrite_waiting : (s.plockWrite p v).waiting = s.waiting := by unfold State.plockWrite; (repeat' split) <;> simp
@[simp] theorem State.plockWrite_lanes : (s.plockWrite p v).lanes = s.lanes := by unfold State.plockWrite; (repeat' split) <;> simp
@[simp] theorem State.plockWrite_survey : (s.plockWrite p v).survey = s.survey := by unfold State.plockWrite; (repeat' split) <;> simp
@[simp] theorem State.plockWrite_enf : (s.plockWrite p v).enf = s.enf := by unfold State.plockWrite; (repeat' split) <;> simp
@[simp] theorem State.plockWrite_refill : (s.plockWrite p v).refill = s.refill := by unfold State.plockWrite; (repeat' split) <;> simp
@[simp] theorem State.plockWrite_fence : (s.plockWrite p v).fence = s.fence := by unfold State.plockWrite; (repeat' split) <;> simp
@[simp] theorem State.plockWrite_install : (s.plockWrite p v).install = s.install := by unfold State.plockWrite; (repeat' split) <;> simp
@[simp] theorem State.plockWrite_active : (s.plockWrite p v).active = s.active := by unfold State.plockWrite; (repeat' split) <;> simp
@[simp] theorem State.plockWrite_accepted : (s.plockWrite p v).accepted = s.accepted := by unfold State.plockWrite; (repeat' split) <;> simp
end

section
variable (s : State) (p : Port) (v : Word)
@[simp] theorem State.plockMeet_pending : (s.plockMeet p v).pending = s.pending := by simp [State.plockMeet]
@[simp] theorem State.plockMeet_resetAsserted : (s.plockMeet p v).resetAsserted = s.resetAsserted := by simp [State.plockMeet]
@[simp] theorem State.plockMeet_ready : (s.plockMeet p v).ready = s.ready := by simp [State.plockMeet]
@[simp] theorem State.plockMeet_rfreq : (s.plockMeet p v).rfreq = s.rfreq := by simp [State.plockMeet]
@[simp] theorem State.plockMeet_memBefore : (s.plockMeet p v).memBefore = s.memBefore := by simp [State.plockMeet]
@[simp] theorem State.plockMeet_feeds : (s.plockMeet p v).feeds = s.feeds := by simp [State.plockMeet]
@[simp] theorem State.plockMeet_reach : (s.plockMeet p v).reach = s.reach := by simp [State.plockMeet]
@[simp] theorem State.plockMeet_cells : (s.plockMeet p v).cells = s.cells := by simp [State.plockMeet]
@[simp] theorem State.plockMeet_tallies : (s.plockMeet p v).tallies = s.tallies := by simp [State.plockMeet]
@[simp] theorem State.plockMeet_waiting : (s.plockMeet p v).waiting = s.waiting := by simp [State.plockMeet]
@[simp] theorem State.plockMeet_lanes : (s.plockMeet p v).lanes = s.lanes := by simp [State.plockMeet]
@[simp] theorem State.plockMeet_survey : (s.plockMeet p v).survey = s.survey := by simp [State.plockMeet]
@[simp] theorem State.plockMeet_enf : (s.plockMeet p v).enf = s.enf := by simp [State.plockMeet]
@[simp] theorem State.plockMeet_refill : (s.plockMeet p v).refill = s.refill := by simp [State.plockMeet]
@[simp] theorem State.plockMeet_fence : (s.plockMeet p v).fence = s.fence := by simp [State.plockMeet]
@[simp] theorem State.plockMeet_install : (s.plockMeet p v).install = s.install := by simp [State.plockMeet]
@[simp] theorem State.plockMeet_active : (s.plockMeet p v).active = s.active := by simp [State.plockMeet]
@[simp] theorem State.plockMeet_accepted : (s.plockMeet p v).accepted = s.accepted := by simp [State.plockMeet]
end

section
variable (s : State) (p : Port) (v : Word)
@[simp] theorem State.pmaskWrite_pending : (s.pmaskWrite p v).pending = s.pending := by unfold State.pmaskWrite; split <;> rfl
@[simp] theorem State.pmaskWrite_resetAsserted : (s.pmaskWrite p v).resetAsserted = s.resetAsserted := by unfold State.pmaskWrite; split <;> rfl
@[simp] theorem State.pmaskWrite_ready : (s.pmaskWrite p v).ready = s.ready := by unfold State.pmaskWrite; split <;> rfl
@[simp] theorem State.pmaskWrite_rfreq : (s.pmaskWrite p v).rfreq = s.rfreq := by unfold State.pmaskWrite; split <;> rfl
@[simp] theorem State.pmaskWrite_mem : (s.pmaskWrite p v).mem = s.mem := by unfold State.pmaskWrite; split <;> rfl
@[simp] theorem State.pmaskWrite_memBefore : (s.pmaskWrite p v).memBefore = s.memBefore := by unfold State.pmaskWrite; split <;> rfl
@[simp] theorem State.pmaskWrite_feeds : (s.pmaskWrite p v).feeds = s.feeds := by unfold State.pmaskWrite; split <;> rfl
@[simp] theorem State.pmaskWrite_reach : (s.pmaskWrite p v).reach = s.reach := by unfold State.pmaskWrite; split <;> rfl
@[simp] theorem State.pmaskWrite_cells : (s.pmaskWrite p v).cells = s.cells := by unfold State.pmaskWrite; split <;> rfl
@[simp] theorem State.pmaskWrite_tallies : (s.pmaskWrite p v).tallies = s.tallies := by unfold State.pmaskWrite; split <;> rfl
@[simp] theorem State.pmaskWrite_waiting : (s.pmaskWrite p v).waiting = s.waiting := by unfold State.pmaskWrite; split <;> rfl
@[simp] theorem State.pmaskWrite_lanes : (s.pmaskWrite p v).lanes = s.lanes := by unfold State.pmaskWrite; split <;> rfl
@[simp] theorem State.pmaskWrite_survey : (s.pmaskWrite p v).survey = s.survey := by unfold State.pmaskWrite; split <;> rfl
@[simp] theorem State.pmaskWrite_enf : (s.pmaskWrite p v).enf = s.enf := by unfold State.pmaskWrite; split <;> rfl
@[simp] theorem State.pmaskWrite_refill : (s.pmaskWrite p v).refill = s.refill := by unfold State.pmaskWrite; split <;> rfl
@[simp] theorem State.pmaskWrite_lock : (s.pmaskWrite p v).lock = s.lock := by unfold State.pmaskWrite; split <;> rfl
@[simp] theorem State.pmaskWrite_fence : (s.pmaskWrite p v).fence = s.fence := by unfold State.pmaskWrite; split <;> rfl
@[simp] theorem State.pmaskWrite_install : (s.pmaskWrite p v).install = s.install := by unfold State.pmaskWrite; split <;> rfl
@[simp] theorem State.pmaskWrite_active : (s.pmaskWrite p v).active = s.active := by unfold State.pmaskWrite; split <;> rfl
@[simp] theorem State.pmaskWrite_accepted : (s.pmaskWrite p v).accepted = s.accepted := by unfold State.pmaskWrite; split <;> rfl
end

section
variable (s : State) (p : Port) (k : BitVec 3) (v : Word)
@[simp] theorem State.registerWrite_pending : (s.registerWrite p k v).pending = s.pending := by unfold State.registerWrite; (repeat' split) <;> simp
@[simp] theorem State.registerWrite_resetAsserted : (s.registerWrite p k v).resetAsserted = s.resetAsserted := by unfold State.registerWrite; (repeat' split) <;> simp
@[simp] theorem State.registerWrite_ready : (s.registerWrite p k v).ready = s.ready := by unfold State.registerWrite; (repeat' split) <;> simp
@[simp] theorem State.registerWrite_rfreq : (s.registerWrite p k v).rfreq = s.rfreq := by unfold State.registerWrite; (repeat' split) <;> simp
@[simp] theorem State.registerWrite_memBefore : (s.registerWrite p k v).memBefore = s.memBefore := by unfold State.registerWrite; (repeat' split) <;> simp
@[simp] theorem State.registerWrite_feeds : (s.registerWrite p k v).feeds = s.feeds := by unfold State.registerWrite; (repeat' split) <;> simp
@[simp] theorem State.registerWrite_reach : (s.registerWrite p k v).reach = s.reach := by unfold State.registerWrite; (repeat' split) <;> simp
@[simp] theorem State.registerWrite_cells : (s.registerWrite p k v).cells = s.cells := by unfold State.registerWrite; (repeat' split) <;> simp
@[simp] theorem State.registerWrite_tallies : (s.registerWrite p k v).tallies = s.tallies := by unfold State.registerWrite; (repeat' split) <;> simp
@[simp] theorem State.registerWrite_waiting : (s.registerWrite p k v).waiting = s.waiting := by unfold State.registerWrite; (repeat' split) <;> simp
@[simp] theorem State.registerWrite_lanes : (s.registerWrite p k v).lanes = s.lanes := by unfold State.registerWrite; (repeat' split) <;> simp
@[simp] theorem State.registerWrite_survey : (s.registerWrite p k v).survey = s.survey := by unfold State.registerWrite; (repeat' split) <;> simp
@[simp] theorem State.registerWrite_enf : (s.registerWrite p k v).enf = s.enf := by unfold State.registerWrite; (repeat' split) <;> simp
@[simp] theorem State.registerWrite_refill : (s.registerWrite p k v).refill = s.refill := by unfold State.registerWrite; (repeat' split) <;> simp
@[simp] theorem State.registerWrite_fence : (s.registerWrite p k v).fence = s.fence := by unfold State.registerWrite; (repeat' split) <;> simp
@[simp] theorem State.registerWrite_install : (s.registerWrite p k v).install = s.install := by unfold State.registerWrite; (repeat' split) <;> simp
@[simp] theorem State.registerWrite_active : (s.registerWrite p k v).active = s.active := by unfold State.registerWrite; (repeat' split) <;> simp
@[simp] theorem State.registerWrite_accepted : (s.registerWrite p k v).accepted = s.accepted := by unfold State.registerWrite; (repeat' split) <;> simp
end

section
variable (s : State) (p : Port) (a : Nat) (v : Word)
@[simp] theorem State.portWrite_pending : (s.portWrite p a v).pending = s.pending := by unfold State.portWrite; (repeat' split) <;> rfl
@[simp] theorem State.portWrite_resetAsserted : (s.portWrite p a v).resetAsserted = s.resetAsserted := by unfold State.portWrite; (repeat' split) <;> rfl
@[simp] theorem State.portWrite_ready : (s.portWrite p a v).ready = s.ready := by unfold State.portWrite; (repeat' split) <;> rfl
@[simp] theorem State.portWrite_rfreq : (s.portWrite p a v).rfreq = s.rfreq := by unfold State.portWrite; (repeat' split) <;> rfl
@[simp] theorem State.portWrite_memBefore : (s.portWrite p a v).memBefore = s.memBefore := by unfold State.portWrite; (repeat' split) <;> rfl
@[simp] theorem State.portWrite_feeds : (s.portWrite p a v).feeds = s.feeds := by unfold State.portWrite; (repeat' split) <;> rfl
@[simp] theorem State.portWrite_reach : (s.portWrite p a v).reach = s.reach := by unfold State.portWrite; (repeat' split) <;> rfl
@[simp] theorem State.portWrite_cells : (s.portWrite p a v).cells = s.cells := by unfold State.portWrite; (repeat' split) <;> rfl
@[simp] theorem State.portWrite_tallies : (s.portWrite p a v).tallies = s.tallies := by unfold State.portWrite; (repeat' split) <;> rfl
@[simp] theorem State.portWrite_waiting : (s.portWrite p a v).waiting = s.waiting := by unfold State.portWrite; (repeat' split) <;> rfl
@[simp] theorem State.portWrite_lanes : (s.portWrite p a v).lanes = s.lanes := by unfold State.portWrite; (repeat' split) <;> rfl
@[simp] theorem State.portWrite_survey : (s.portWrite p a v).survey = s.survey := by unfold State.portWrite; (repeat' split) <;> rfl
@[simp] theorem State.portWrite_enf : (s.portWrite p a v).enf = s.enf := by unfold State.portWrite; (repeat' split) <;> rfl
@[simp] theorem State.portWrite_refill : (s.portWrite p a v).refill = s.refill := by unfold State.portWrite; (repeat' split) <;> rfl
@[simp] theorem State.portWrite_lock : (s.portWrite p a v).lock = s.lock := by unfold State.portWrite; (repeat' split) <;> rfl
@[simp] theorem State.portWrite_fence : (s.portWrite p a v).fence = s.fence := by unfold State.portWrite; (repeat' split) <;> rfl
@[simp] theorem State.portWrite_install : (s.portWrite p a v).install = s.install := by unfold State.portWrite; (repeat' split) <;> rfl
@[simp] theorem State.portWrite_active : (s.portWrite p a v).active = s.active := by unfold State.portWrite; (repeat' split) <;> rfl
@[simp] theorem State.portWrite_accepted : (s.portWrite p a v).accepted = s.accepted := by unfold State.portWrite; (repeat' split) <;> rfl
end

section
variable (s : State) (arm : Arm)
@[simp] theorem State.raiseSnapshotCount_pending : (s.raiseSnapshotCount arm).pending = s.pending := rfl
@[simp] theorem State.raiseSnapshotCount_resetAsserted : (s.raiseSnapshotCount arm).resetAsserted = s.resetAsserted := rfl
@[simp] theorem State.raiseSnapshotCount_ready : (s.raiseSnapshotCount arm).ready = s.ready := rfl
@[simp] theorem State.raiseSnapshotCount_rfreq : (s.raiseSnapshotCount arm).rfreq = s.rfreq := rfl
@[simp] theorem State.raiseSnapshotCount_memBefore : (s.raiseSnapshotCount arm).memBefore = s.memBefore := rfl
@[simp] theorem State.raiseSnapshotCount_ports : (s.raiseSnapshotCount arm).ports = s.ports := rfl
@[simp] theorem State.raiseSnapshotCount_feeds : (s.raiseSnapshotCount arm).feeds = s.feeds := rfl
@[simp] theorem State.raiseSnapshotCount_reach : (s.raiseSnapshotCount arm).reach = s.reach := rfl
@[simp] theorem State.raiseSnapshotCount_cells : (s.raiseSnapshotCount arm).cells = s.cells := rfl
@[simp] theorem State.raiseSnapshotCount_tallies : (s.raiseSnapshotCount arm).tallies = s.tallies := rfl
@[simp] theorem State.raiseSnapshotCount_waiting : (s.raiseSnapshotCount arm).waiting = s.waiting := rfl
@[simp] theorem State.raiseSnapshotCount_lanes : (s.raiseSnapshotCount arm).lanes = s.lanes := rfl
@[simp] theorem State.raiseSnapshotCount_survey : (s.raiseSnapshotCount arm).survey = s.survey := rfl
@[simp] theorem State.raiseSnapshotCount_enf : (s.raiseSnapshotCount arm).enf = s.enf := rfl
@[simp] theorem State.raiseSnapshotCount_refill : (s.raiseSnapshotCount arm).refill = s.refill := rfl
@[simp] theorem State.raiseSnapshotCount_lock : (s.raiseSnapshotCount arm).lock = s.lock := rfl
@[simp] theorem State.raiseSnapshotCount_fence : (s.raiseSnapshotCount arm).fence = s.fence := rfl
@[simp] theorem State.raiseSnapshotCount_install : (s.raiseSnapshotCount arm).install = s.install := rfl
@[simp] theorem State.raiseSnapshotCount_active : (s.raiseSnapshotCount arm).active = s.active := rfl
@[simp] theorem State.raiseSnapshotCount_accepted : (s.raiseSnapshotCount arm).accepted = s.accepted := rfl
end

section
variable (s : State) (arm : Arm)
@[simp] theorem State.writeSnapshot_pending : (s.writeSnapshot arm).pending = s.pending := by simp [State.writeSnapshot]
@[simp] theorem State.writeSnapshot_resetAsserted : (s.writeSnapshot arm).resetAsserted = s.resetAsserted := by simp [State.writeSnapshot]
@[simp] theorem State.writeSnapshot_ready : (s.writeSnapshot arm).ready = s.ready := by simp [State.writeSnapshot]
@[simp] theorem State.writeSnapshot_rfreq : (s.writeSnapshot arm).rfreq = s.rfreq := by simp [State.writeSnapshot]
@[simp] theorem State.writeSnapshot_memBefore : (s.writeSnapshot arm).memBefore = s.memBefore := by simp [State.writeSnapshot]
@[simp] theorem State.writeSnapshot_ports : (s.writeSnapshot arm).ports = s.ports := by simp [State.writeSnapshot]
@[simp] theorem State.writeSnapshot_feeds : (s.writeSnapshot arm).feeds = s.feeds := by simp [State.writeSnapshot]
@[simp] theorem State.writeSnapshot_reach : (s.writeSnapshot arm).reach = s.reach := by simp [State.writeSnapshot]
@[simp] theorem State.writeSnapshot_cells : (s.writeSnapshot arm).cells = s.cells := by simp [State.writeSnapshot]
@[simp] theorem State.writeSnapshot_tallies : (s.writeSnapshot arm).tallies = s.tallies := by simp [State.writeSnapshot]
@[simp] theorem State.writeSnapshot_waiting : (s.writeSnapshot arm).waiting = s.waiting := by simp [State.writeSnapshot]
@[simp] theorem State.writeSnapshot_lanes : (s.writeSnapshot arm).lanes = s.lanes := by simp [State.writeSnapshot]
@[simp] theorem State.writeSnapshot_survey : (s.writeSnapshot arm).survey = s.survey := by simp [State.writeSnapshot]
@[simp] theorem State.writeSnapshot_enf : (s.writeSnapshot arm).enf = s.enf := by simp [State.writeSnapshot]
@[simp] theorem State.writeSnapshot_refill : (s.writeSnapshot arm).refill = s.refill := by simp [State.writeSnapshot]
@[simp] theorem State.writeSnapshot_lock : (s.writeSnapshot arm).lock = s.lock := by simp [State.writeSnapshot]
@[simp] theorem State.writeSnapshot_fence : (s.writeSnapshot arm).fence = s.fence := by simp [State.writeSnapshot]
@[simp] theorem State.writeSnapshot_install : (s.writeSnapshot arm).install = s.install := by simp [State.writeSnapshot]
@[simp] theorem State.writeSnapshot_active : (s.writeSnapshot arm).active = s.active := by simp [State.writeSnapshot]
@[simp] theorem State.writeSnapshot_accepted : (s.writeSnapshot arm).accepted = s.accepted := by simp [State.writeSnapshot]
end

section
variable (s : State) (arm : Arm) (b : Bool)
@[simp] theorem State.writeEventSnapshot_pending : (s.writeEventSnapshot arm b).pending = s.pending := by simp [State.writeEventSnapshot]
@[simp] theorem State.writeEventSnapshot_resetAsserted : (s.writeEventSnapshot arm b).resetAsserted = s.resetAsserted := by simp [State.writeEventSnapshot]
@[simp] theorem State.writeEventSnapshot_ready : (s.writeEventSnapshot arm b).ready = s.ready := by simp [State.writeEventSnapshot]
@[simp] theorem State.writeEventSnapshot_rfreq : (s.writeEventSnapshot arm b).rfreq = s.rfreq := by simp [State.writeEventSnapshot]
@[simp] theorem State.writeEventSnapshot_memBefore : (s.writeEventSnapshot arm b).memBefore = s.memBefore := by simp [State.writeEventSnapshot]
@[simp] theorem State.writeEventSnapshot_ports : (s.writeEventSnapshot arm b).ports = s.ports := by simp [State.writeEventSnapshot]
@[simp] theorem State.writeEventSnapshot_feeds : (s.writeEventSnapshot arm b).feeds = s.feeds := by simp [State.writeEventSnapshot]
@[simp] theorem State.writeEventSnapshot_reach : (s.writeEventSnapshot arm b).reach = s.reach := by simp [State.writeEventSnapshot]
@[simp] theorem State.writeEventSnapshot_cells : (s.writeEventSnapshot arm b).cells = s.cells := by simp [State.writeEventSnapshot]
@[simp] theorem State.writeEventSnapshot_tallies : (s.writeEventSnapshot arm b).tallies = s.tallies := by simp [State.writeEventSnapshot]
@[simp] theorem State.writeEventSnapshot_waiting : (s.writeEventSnapshot arm b).waiting = s.waiting := by simp [State.writeEventSnapshot]
@[simp] theorem State.writeEventSnapshot_lanes : (s.writeEventSnapshot arm b).lanes = s.lanes := by simp [State.writeEventSnapshot]
@[simp] theorem State.writeEventSnapshot_survey : (s.writeEventSnapshot arm b).survey = s.survey := by simp [State.writeEventSnapshot]
@[simp] theorem State.writeEventSnapshot_enf : (s.writeEventSnapshot arm b).enf = s.enf := by simp [State.writeEventSnapshot]
@[simp] theorem State.writeEventSnapshot_refill : (s.writeEventSnapshot arm b).refill = s.refill := by simp [State.writeEventSnapshot]
@[simp] theorem State.writeEventSnapshot_lock : (s.writeEventSnapshot arm b).lock = s.lock := by simp [State.writeEventSnapshot]
@[simp] theorem State.writeEventSnapshot_fence : (s.writeEventSnapshot arm b).fence = s.fence := by simp [State.writeEventSnapshot]
@[simp] theorem State.writeEventSnapshot_install : (s.writeEventSnapshot arm b).install = s.install := by simp [State.writeEventSnapshot]
@[simp] theorem State.writeEventSnapshot_active : (s.writeEventSnapshot arm b).active = s.active := by simp [State.writeEventSnapshot]
@[simp] theorem State.writeEventSnapshot_accepted : (s.writeEventSnapshot arm b).accepted = s.accepted := by simp [State.writeEventSnapshot]
end

section
variable (s : State) (arm : Arm)
@[simp] theorem State.flushSnapshot_pending : (s.flushSnapshot arm).pending = s.pending := by unfold State.flushSnapshot; split <;> rfl
@[simp] theorem State.flushSnapshot_resetAsserted : (s.flushSnapshot arm).resetAsserted = s.resetAsserted := by unfold State.flushSnapshot; split <;> rfl
@[simp] theorem State.flushSnapshot_ready : (s.flushSnapshot arm).ready = s.ready := by unfold State.flushSnapshot; split <;> rfl
@[simp] theorem State.flushSnapshot_rfreq : (s.flushSnapshot arm).rfreq = s.rfreq := by unfold State.flushSnapshot; split <;> rfl
@[simp] theorem State.flushSnapshot_memBefore : (s.flushSnapshot arm).memBefore = s.memBefore := by unfold State.flushSnapshot; split <;> rfl
@[simp] theorem State.flushSnapshot_ports : (s.flushSnapshot arm).ports = s.ports := by unfold State.flushSnapshot; split <;> rfl
@[simp] theorem State.flushSnapshot_feeds : (s.flushSnapshot arm).feeds = s.feeds := by unfold State.flushSnapshot; split <;> rfl
@[simp] theorem State.flushSnapshot_reach : (s.flushSnapshot arm).reach = s.reach := by unfold State.flushSnapshot; split <;> rfl
@[simp] theorem State.flushSnapshot_cells : (s.flushSnapshot arm).cells = s.cells := by unfold State.flushSnapshot; split <;> rfl
@[simp] theorem State.flushSnapshot_tallies : (s.flushSnapshot arm).tallies = s.tallies := by unfold State.flushSnapshot; split <;> rfl
@[simp] theorem State.flushSnapshot_waiting : (s.flushSnapshot arm).waiting = s.waiting := by unfold State.flushSnapshot; split <;> rfl
@[simp] theorem State.flushSnapshot_lanes : (s.flushSnapshot arm).lanes = s.lanes := by unfold State.flushSnapshot; split <;> rfl
@[simp] theorem State.flushSnapshot_survey : (s.flushSnapshot arm).survey = s.survey := by unfold State.flushSnapshot; split <;> rfl
@[simp] theorem State.flushSnapshot_refill : (s.flushSnapshot arm).refill = s.refill := by unfold State.flushSnapshot; split <;> rfl
@[simp] theorem State.flushSnapshot_lock : (s.flushSnapshot arm).lock = s.lock := by unfold State.flushSnapshot; split <;> rfl
@[simp] theorem State.flushSnapshot_fence : (s.flushSnapshot arm).fence = s.fence := by unfold State.flushSnapshot; split <;> rfl
@[simp] theorem State.flushSnapshot_install : (s.flushSnapshot arm).install = s.install := by unfold State.flushSnapshot; split <;> rfl
@[simp] theorem State.flushSnapshot_active : (s.flushSnapshot arm).active = s.active := by unfold State.flushSnapshot; split <;> rfl
@[simp] theorem State.flushSnapshot_accepted : (s.flushSnapshot arm).accepted = s.accepted := by unfold State.flushSnapshot; split <;> rfl
end

section
variable (s : State) (rs : List Request)
@[simp] theorem State.requestTogether_pending : (s.requestTogether rs).pending = s.pending := by unfold State.requestTogether; split <;> rfl
@[simp] theorem State.requestTogether_resetAsserted : (s.requestTogether rs).resetAsserted = s.resetAsserted := by unfold State.requestTogether; split <;> rfl
@[simp] theorem State.requestTogether_ready : (s.requestTogether rs).ready = s.ready := by unfold State.requestTogether; split <;> rfl
@[simp] theorem State.requestTogether_rfreq : (s.requestTogether rs).rfreq = s.rfreq := by unfold State.requestTogether; split <;> rfl
@[simp] theorem State.requestTogether_mem : (s.requestTogether rs).mem = s.mem := by unfold State.requestTogether; split <;> rfl
@[simp] theorem State.requestTogether_memBefore : (s.requestTogether rs).memBefore = s.memBefore := by unfold State.requestTogether; split <;> rfl
@[simp] theorem State.requestTogether_ports : (s.requestTogether rs).ports = s.ports := by unfold State.requestTogether; split <;> rfl
@[simp] theorem State.requestTogether_feeds : (s.requestTogether rs).feeds = s.feeds := by unfold State.requestTogether; split <;> rfl
@[simp] theorem State.requestTogether_reach : (s.requestTogether rs).reach = s.reach := by unfold State.requestTogether; split <;> rfl
@[simp] theorem State.requestTogether_cells : (s.requestTogether rs).cells = s.cells := by unfold State.requestTogether; split <;> rfl
@[simp] theorem State.requestTogether_tallies : (s.requestTogether rs).tallies = s.tallies := by unfold State.requestTogether; split <;> rfl
@[simp] theorem State.requestTogether_lanes : (s.requestTogether rs).lanes = s.lanes := by unfold State.requestTogether; split <;> rfl
@[simp] theorem State.requestTogether_survey : (s.requestTogether rs).survey = s.survey := by unfold State.requestTogether; split <;> rfl
@[simp] theorem State.requestTogether_enf : (s.requestTogether rs).enf = s.enf := by unfold State.requestTogether; split <;> rfl
@[simp] theorem State.requestTogether_refill : (s.requestTogether rs).refill = s.refill := by unfold State.requestTogether; split <;> rfl
@[simp] theorem State.requestTogether_lock : (s.requestTogether rs).lock = s.lock := by unfold State.requestTogether; split <;> rfl
@[simp] theorem State.requestTogether_fence : (s.requestTogether rs).fence = s.fence := by unfold State.requestTogether; split <;> rfl
@[simp] theorem State.requestTogether_install : (s.requestTogether rs).install = s.install := by unfold State.requestTogether; split <;> rfl
@[simp] theorem State.requestTogether_active : (s.requestTogether rs).active = s.active := by unfold State.requestTogether; split <;> rfl
@[simp] theorem State.requestTogether_accepted : (s.requestTogether rs).accepted = s.accepted := by unfold State.requestTogether; split <;> rfl
end

section
variable (s : State) (r : Request)
@[simp] theorem State.dropRequest_pending : (s.dropRequest r).pending = s.pending := rfl
@[simp] theorem State.dropRequest_resetAsserted : (s.dropRequest r).resetAsserted = s.resetAsserted := rfl
@[simp] theorem State.dropRequest_ready : (s.dropRequest r).ready = s.ready := rfl
@[simp] theorem State.dropRequest_rfreq : (s.dropRequest r).rfreq = s.rfreq := rfl
@[simp] theorem State.dropRequest_mem : (s.dropRequest r).mem = s.mem := rfl
@[simp] theorem State.dropRequest_memBefore : (s.dropRequest r).memBefore = s.memBefore := rfl
@[simp] theorem State.dropRequest_ports : (s.dropRequest r).ports = s.ports := rfl
@[simp] theorem State.dropRequest_feeds : (s.dropRequest r).feeds = s.feeds := rfl
@[simp] theorem State.dropRequest_reach : (s.dropRequest r).reach = s.reach := rfl
@[simp] theorem State.dropRequest_cells : (s.dropRequest r).cells = s.cells := rfl
@[simp] theorem State.dropRequest_tallies : (s.dropRequest r).tallies = s.tallies := rfl
@[simp] theorem State.dropRequest_lanes : (s.dropRequest r).lanes = s.lanes := rfl
@[simp] theorem State.dropRequest_survey : (s.dropRequest r).survey = s.survey := rfl
@[simp] theorem State.dropRequest_enf : (s.dropRequest r).enf = s.enf := rfl
@[simp] theorem State.dropRequest_refill : (s.dropRequest r).refill = s.refill := rfl
@[simp] theorem State.dropRequest_lock : (s.dropRequest r).lock = s.lock := rfl
@[simp] theorem State.dropRequest_fence : (s.dropRequest r).fence = s.fence := rfl
@[simp] theorem State.dropRequest_install : (s.dropRequest r).install = s.install := rfl
@[simp] theorem State.dropRequest_active : (s.dropRequest r).active = s.active := rfl
@[simp] theorem State.dropRequest_accepted : (s.dropRequest r).accepted = s.accepted := rfl
end

section
variable (s : State) (cs : List Cell)
@[simp] theorem State.putCells_pending : (s.putCells cs).pending = s.pending := rfl
@[simp] theorem State.putCells_resetAsserted : (s.putCells cs).resetAsserted = s.resetAsserted := rfl
@[simp] theorem State.putCells_ready : (s.putCells cs).ready = s.ready := rfl
@[simp] theorem State.putCells_rfreq : (s.putCells cs).rfreq = s.rfreq := rfl
@[simp] theorem State.putCells_mem : (s.putCells cs).mem = s.mem := rfl
@[simp] theorem State.putCells_memBefore : (s.putCells cs).memBefore = s.memBefore := rfl
@[simp] theorem State.putCells_ports : (s.putCells cs).ports = s.ports := rfl
@[simp] theorem State.putCells_feeds : (s.putCells cs).feeds = s.feeds := rfl
@[simp] theorem State.putCells_reach : (s.putCells cs).reach = s.reach := rfl
@[simp] theorem State.putCells_waiting : (s.putCells cs).waiting = s.waiting := rfl
@[simp] theorem State.putCells_lanes : (s.putCells cs).lanes = s.lanes := rfl
@[simp] theorem State.putCells_survey : (s.putCells cs).survey = s.survey := rfl
@[simp] theorem State.putCells_enf : (s.putCells cs).enf = s.enf := rfl
@[simp] theorem State.putCells_refill : (s.putCells cs).refill = s.refill := rfl
@[simp] theorem State.putCells_lock : (s.putCells cs).lock = s.lock := rfl
@[simp] theorem State.putCells_fence : (s.putCells cs).fence = s.fence := rfl
@[simp] theorem State.putCells_install : (s.putCells cs).install = s.install := rfl
@[simp] theorem State.putCells_active : (s.putCells cs).active = s.active := rfl
@[simp] theorem State.putCells_accepted : (s.putCells cs).accepted = s.accepted := rfl
end

section
variable (s : State) (arm : Arm) (f : Nat → Bool)
@[simp] theorem State.claim_pending : (s.claim arm f).pending = s.pending := rfl
@[simp] theorem State.claim_resetAsserted : (s.claim arm f).resetAsserted = s.resetAsserted := rfl
@[simp] theorem State.claim_ready : (s.claim arm f).ready = s.ready := rfl
@[simp] theorem State.claim_rfreq : (s.claim arm f).rfreq = s.rfreq := rfl
@[simp] theorem State.claim_mem : (s.claim arm f).mem = s.mem := rfl
@[simp] theorem State.claim_memBefore : (s.claim arm f).memBefore = s.memBefore := rfl
@[simp] theorem State.claim_ports : (s.claim arm f).ports = s.ports := rfl
@[simp] theorem State.claim_feeds : (s.claim arm f).feeds = s.feeds := rfl
@[simp] theorem State.claim_reach : (s.claim arm f).reach = s.reach := rfl
@[simp] theorem State.claim_waiting : (s.claim arm f).waiting = s.waiting := rfl
@[simp] theorem State.claim_lanes : (s.claim arm f).lanes = s.lanes := rfl
@[simp] theorem State.claim_survey : (s.claim arm f).survey = s.survey := rfl
@[simp] theorem State.claim_enf : (s.claim arm f).enf = s.enf := rfl
@[simp] theorem State.claim_refill : (s.claim arm f).refill = s.refill := rfl
@[simp] theorem State.claim_lock : (s.claim arm f).lock = s.lock := rfl
@[simp] theorem State.claim_fence : (s.claim arm f).fence = s.fence := rfl
@[simp] theorem State.claim_install : (s.claim arm f).install = s.install := rfl
@[simp] theorem State.claim_active : (s.claim arm f).active = s.active := rfl
@[simp] theorem State.claim_accepted : (s.claim arm f).accepted = s.accepted := rfl
end

section
variable (s : State) (arm : Arm) (f : Nat → Bool)
@[simp] theorem State.release_pending : (s.release arm f).pending = s.pending := rfl
@[simp] theorem State.release_resetAsserted : (s.release arm f).resetAsserted = s.resetAsserted := rfl
@[simp] theorem State.release_ready : (s.release arm f).ready = s.ready := rfl
@[simp] theorem State.release_rfreq : (s.release arm f).rfreq = s.rfreq := rfl
@[simp] theorem State.release_mem : (s.release arm f).mem = s.mem := rfl
@[simp] theorem State.release_memBefore : (s.release arm f).memBefore = s.memBefore := rfl
@[simp] theorem State.release_ports : (s.release arm f).ports = s.ports := rfl
@[simp] theorem State.release_feeds : (s.release arm f).feeds = s.feeds := rfl
@[simp] theorem State.release_reach : (s.release arm f).reach = s.reach := rfl
@[simp] theorem State.release_waiting : (s.release arm f).waiting = s.waiting := rfl
@[simp] theorem State.release_lanes : (s.release arm f).lanes = s.lanes := rfl
@[simp] theorem State.release_survey : (s.release arm f).survey = s.survey := rfl
@[simp] theorem State.release_enf : (s.release arm f).enf = s.enf := rfl
@[simp] theorem State.release_refill : (s.release arm f).refill = s.refill := rfl
@[simp] theorem State.release_lock : (s.release arm f).lock = s.lock := rfl
@[simp] theorem State.release_fence : (s.release arm f).fence = s.fence := rfl
@[simp] theorem State.release_install : (s.release arm f).install = s.install := rfl
@[simp] theorem State.release_active : (s.release arm f).active = s.active := rfl
@[simp] theorem State.release_accepted : (s.release arm f).accepted = s.accepted := rfl
end

section
variable (s : State) (arm : Arm)
@[simp] theorem State.lingerSweep_pending : (s.lingerSweep arm).pending = s.pending := rfl
@[simp] theorem State.lingerSweep_resetAsserted : (s.lingerSweep arm).resetAsserted = s.resetAsserted := rfl
@[simp] theorem State.lingerSweep_ready : (s.lingerSweep arm).ready = s.ready := rfl
@[simp] theorem State.lingerSweep_rfreq : (s.lingerSweep arm).rfreq = s.rfreq := rfl
@[simp] theorem State.lingerSweep_mem : (s.lingerSweep arm).mem = s.mem := rfl
@[simp] theorem State.lingerSweep_memBefore : (s.lingerSweep arm).memBefore = s.memBefore := rfl
@[simp] theorem State.lingerSweep_ports : (s.lingerSweep arm).ports = s.ports := rfl
@[simp] theorem State.lingerSweep_feeds : (s.lingerSweep arm).feeds = s.feeds := rfl
@[simp] theorem State.lingerSweep_reach : (s.lingerSweep arm).reach = s.reach := rfl
@[simp] theorem State.lingerSweep_waiting : (s.lingerSweep arm).waiting = s.waiting := rfl
@[simp] theorem State.lingerSweep_lanes : (s.lingerSweep arm).lanes = s.lanes := rfl
@[simp] theorem State.lingerSweep_survey : (s.lingerSweep arm).survey = s.survey := rfl
@[simp] theorem State.lingerSweep_enf : (s.lingerSweep arm).enf = s.enf := rfl
@[simp] theorem State.lingerSweep_refill : (s.lingerSweep arm).refill = s.refill := rfl
@[simp] theorem State.lingerSweep_lock : (s.lingerSweep arm).lock = s.lock := rfl
@[simp] theorem State.lingerSweep_fence : (s.lingerSweep arm).fence = s.fence := rfl
@[simp] theorem State.lingerSweep_install : (s.lingerSweep arm).install = s.install := rfl
@[simp] theorem State.lingerSweep_active : (s.lingerSweep arm).active = s.active := rfl
@[simp] theorem State.lingerSweep_accepted : (s.lingerSweep arm).accepted = s.accepted := rfl
end

section
variable (s : State) (arm : Arm) (f : Nat → Bool)
@[simp] theorem State.seize_pending : (s.seize arm f).pending = s.pending := rfl
@[simp] theorem State.seize_resetAsserted : (s.seize arm f).resetAsserted = s.resetAsserted := rfl
@[simp] theorem State.seize_ready : (s.seize arm f).ready = s.ready := rfl
@[simp] theorem State.seize_rfreq : (s.seize arm f).rfreq = s.rfreq := rfl
@[simp] theorem State.seize_mem : (s.seize arm f).mem = s.mem := rfl
@[simp] theorem State.seize_memBefore : (s.seize arm f).memBefore = s.memBefore := rfl
@[simp] theorem State.seize_ports : (s.seize arm f).ports = s.ports := rfl
@[simp] theorem State.seize_feeds : (s.seize arm f).feeds = s.feeds := rfl
@[simp] theorem State.seize_reach : (s.seize arm f).reach = s.reach := rfl
@[simp] theorem State.seize_waiting : (s.seize arm f).waiting = s.waiting := rfl
@[simp] theorem State.seize_lanes : (s.seize arm f).lanes = s.lanes := rfl
@[simp] theorem State.seize_survey : (s.seize arm f).survey = s.survey := rfl
@[simp] theorem State.seize_enf : (s.seize arm f).enf = s.enf := rfl
@[simp] theorem State.seize_refill : (s.seize arm f).refill = s.refill := rfl
@[simp] theorem State.seize_lock : (s.seize arm f).lock = s.lock := rfl
@[simp] theorem State.seize_fence : (s.seize arm f).fence = s.fence := rfl
@[simp] theorem State.seize_install : (s.seize arm f).install = s.install := rfl
@[simp] theorem State.seize_active : (s.seize arm f).active = s.active := rfl
@[simp] theorem State.seize_accepted : (s.seize arm f).accepted = s.accepted := rfl
end

section
variable (s : State) (arm : Arm) (slot : Slot) (e : SlotEntry)
@[simp] theorem State.setEntry_pending : (s.setEntry arm slot e).pending = s.pending := rfl
@[simp] theorem State.setEntry_resetAsserted : (s.setEntry arm slot e).resetAsserted = s.resetAsserted := rfl
@[simp] theorem State.setEntry_ready : (s.setEntry arm slot e).ready = s.ready := rfl
@[simp] theorem State.setEntry_rfreq : (s.setEntry arm slot e).rfreq = s.rfreq := rfl
@[simp] theorem State.setEntry_mem : (s.setEntry arm slot e).mem = s.mem := rfl
@[simp] theorem State.setEntry_memBefore : (s.setEntry arm slot e).memBefore = s.memBefore := rfl
@[simp] theorem State.setEntry_ports : (s.setEntry arm slot e).ports = s.ports := rfl
@[simp] theorem State.setEntry_feeds : (s.setEntry arm slot e).feeds = s.feeds := rfl
@[simp] theorem State.setEntry_reach : (s.setEntry arm slot e).reach = s.reach := rfl
@[simp] theorem State.setEntry_cells : (s.setEntry arm slot e).cells = s.cells := rfl
@[simp] theorem State.setEntry_tallies : (s.setEntry arm slot e).tallies = s.tallies := rfl
@[simp] theorem State.setEntry_waiting : (s.setEntry arm slot e).waiting = s.waiting := rfl
@[simp] theorem State.setEntry_survey : (s.setEntry arm slot e).survey = s.survey := rfl
@[simp] theorem State.setEntry_enf : (s.setEntry arm slot e).enf = s.enf := rfl
@[simp] theorem State.setEntry_refill : (s.setEntry arm slot e).refill = s.refill := rfl
@[simp] theorem State.setEntry_lock : (s.setEntry arm slot e).lock = s.lock := rfl
@[simp] theorem State.setEntry_fence : (s.setEntry arm slot e).fence = s.fence := rfl
@[simp] theorem State.setEntry_install : (s.setEntry arm slot e).install = s.install := rfl
@[simp] theorem State.setEntry_active : (s.setEntry arm slot e).active = s.active := rfl
@[simp] theorem State.setEntry_accepted : (s.setEntry arm slot e).accepted = s.accepted := rfl
end

section
variable (s : State) (arm : Arm) (slot : Slot)
@[simp] theorem State.dropWaiting_pending : (s.dropWaiting arm slot).pending = s.pending := rfl
@[simp] theorem State.dropWaiting_resetAsserted : (s.dropWaiting arm slot).resetAsserted = s.resetAsserted := rfl
@[simp] theorem State.dropWaiting_ready : (s.dropWaiting arm slot).ready = s.ready := rfl
@[simp] theorem State.dropWaiting_rfreq : (s.dropWaiting arm slot).rfreq = s.rfreq := rfl
@[simp] theorem State.dropWaiting_mem : (s.dropWaiting arm slot).mem = s.mem := rfl
@[simp] theorem State.dropWaiting_memBefore : (s.dropWaiting arm slot).memBefore = s.memBefore := rfl
@[simp] theorem State.dropWaiting_ports : (s.dropWaiting arm slot).ports = s.ports := rfl
@[simp] theorem State.dropWaiting_feeds : (s.dropWaiting arm slot).feeds = s.feeds := rfl
@[simp] theorem State.dropWaiting_reach : (s.dropWaiting arm slot).reach = s.reach := rfl
@[simp] theorem State.dropWaiting_cells : (s.dropWaiting arm slot).cells = s.cells := rfl
@[simp] theorem State.dropWaiting_tallies : (s.dropWaiting arm slot).tallies = s.tallies := rfl
@[simp] theorem State.dropWaiting_waiting : (s.dropWaiting arm slot).waiting = s.waiting := rfl
@[simp] theorem State.dropWaiting_survey : (s.dropWaiting arm slot).survey = s.survey := rfl
@[simp] theorem State.dropWaiting_enf : (s.dropWaiting arm slot).enf = s.enf := rfl
@[simp] theorem State.dropWaiting_refill : (s.dropWaiting arm slot).refill = s.refill := rfl
@[simp] theorem State.dropWaiting_lock : (s.dropWaiting arm slot).lock = s.lock := rfl
@[simp] theorem State.dropWaiting_fence : (s.dropWaiting arm slot).fence = s.fence := rfl
@[simp] theorem State.dropWaiting_install : (s.dropWaiting arm slot).install = s.install := rfl
@[simp] theorem State.dropWaiting_active : (s.dropWaiting arm slot).active = s.active := rfl
@[simp] theorem State.dropWaiting_accepted : (s.dropWaiting arm slot).accepted = s.accepted := rfl
end

section
variable (s : State) (arm : Arm) (slot : Slot)
@[simp] theorem State.dropGranted_pending : (s.dropGranted arm slot).pending = s.pending := rfl
@[simp] theorem State.dropGranted_resetAsserted : (s.dropGranted arm slot).resetAsserted = s.resetAsserted := rfl
@[simp] theorem State.dropGranted_ready : (s.dropGranted arm slot).ready = s.ready := rfl
@[simp] theorem State.dropGranted_rfreq : (s.dropGranted arm slot).rfreq = s.rfreq := rfl
@[simp] theorem State.dropGranted_mem : (s.dropGranted arm slot).mem = s.mem := rfl
@[simp] theorem State.dropGranted_memBefore : (s.dropGranted arm slot).memBefore = s.memBefore := rfl
@[simp] theorem State.dropGranted_ports : (s.dropGranted arm slot).ports = s.ports := rfl
@[simp] theorem State.dropGranted_feeds : (s.dropGranted arm slot).feeds = s.feeds := rfl
@[simp] theorem State.dropGranted_reach : (s.dropGranted arm slot).reach = s.reach := rfl
@[simp] theorem State.dropGranted_cells : (s.dropGranted arm slot).cells = s.cells := rfl
@[simp] theorem State.dropGranted_tallies : (s.dropGranted arm slot).tallies = s.tallies := rfl
@[simp] theorem State.dropGranted_waiting : (s.dropGranted arm slot).waiting = s.waiting := rfl
@[simp] theorem State.dropGranted_survey : (s.dropGranted arm slot).survey = s.survey := rfl
@[simp] theorem State.dropGranted_enf : (s.dropGranted arm slot).enf = s.enf := rfl
@[simp] theorem State.dropGranted_refill : (s.dropGranted arm slot).refill = s.refill := rfl
@[simp] theorem State.dropGranted_lock : (s.dropGranted arm slot).lock = s.lock := rfl
@[simp] theorem State.dropGranted_fence : (s.dropGranted arm slot).fence = s.fence := rfl
@[simp] theorem State.dropGranted_install : (s.dropGranted arm slot).install = s.install := rfl
@[simp] theorem State.dropGranted_active : (s.dropGranted arm slot).active = s.active := rfl
@[simp] theorem State.dropGranted_accepted : (s.dropGranted arm slot).accepted = s.accepted := rfl
end

section
variable (s : State) (arm : Arm) (slot : Slot) (st : SlotState)
@[simp] theorem State.writeSlotState_pending : (s.writeSlotState arm slot st).pending = s.pending := by simp [State.writeSlotState]
@[simp] theorem State.writeSlotState_resetAsserted : (s.writeSlotState arm slot st).resetAsserted = s.resetAsserted := by simp [State.writeSlotState]
@[simp] theorem State.writeSlotState_ready : (s.writeSlotState arm slot st).ready = s.ready := by simp [State.writeSlotState]
@[simp] theorem State.writeSlotState_rfreq : (s.writeSlotState arm slot st).rfreq = s.rfreq := by simp [State.writeSlotState]
@[simp] theorem State.writeSlotState_memBefore : (s.writeSlotState arm slot st).memBefore = s.memBefore := by simp [State.writeSlotState]
@[simp] theorem State.writeSlotState_feeds : (s.writeSlotState arm slot st).feeds = s.feeds := by simp [State.writeSlotState]
@[simp] theorem State.writeSlotState_reach : (s.writeSlotState arm slot st).reach = s.reach := by simp [State.writeSlotState]
@[simp] theorem State.writeSlotState_cells : (s.writeSlotState arm slot st).cells = s.cells := by simp [State.writeSlotState]
@[simp] theorem State.writeSlotState_tallies : (s.writeSlotState arm slot st).tallies = s.tallies := by simp [State.writeSlotState]
@[simp] theorem State.writeSlotState_waiting : (s.writeSlotState arm slot st).waiting = s.waiting := by simp [State.writeSlotState]
@[simp] theorem State.writeSlotState_survey : (s.writeSlotState arm slot st).survey = s.survey := by simp [State.writeSlotState]
@[simp] theorem State.writeSlotState_enf : (s.writeSlotState arm slot st).enf = s.enf := by simp [State.writeSlotState]
@[simp] theorem State.writeSlotState_refill : (s.writeSlotState arm slot st).refill = s.refill := by simp [State.writeSlotState]
@[simp] theorem State.writeSlotState_lock : (s.writeSlotState arm slot st).lock = s.lock := by simp [State.writeSlotState]
@[simp] theorem State.writeSlotState_fence : (s.writeSlotState arm slot st).fence = s.fence := by simp [State.writeSlotState]
@[simp] theorem State.writeSlotState_install : (s.writeSlotState arm slot st).install = s.install := by simp [State.writeSlotState]
@[simp] theorem State.writeSlotState_active : (s.writeSlotState arm slot st).active = s.active := by simp [State.writeSlotState]
@[simp] theorem State.writeSlotState_accepted : (s.writeSlotState arm slot st).accepted = s.accepted := by simp [State.writeSlotState]
end

section
variable (s : State) (arm : Arm) (slot : Slot) (b : Blocker) (z : Option Nat)
@[simp] theorem State.writeBlocker_pending : (s.writeBlocker arm slot b z).pending = s.pending := rfl
@[simp] theorem State.writeBlocker_resetAsserted : (s.writeBlocker arm slot b z).resetAsserted = s.resetAsserted := rfl
@[simp] theorem State.writeBlocker_ready : (s.writeBlocker arm slot b z).ready = s.ready := rfl
@[simp] theorem State.writeBlocker_rfreq : (s.writeBlocker arm slot b z).rfreq = s.rfreq := rfl
@[simp] theorem State.writeBlocker_memBefore : (s.writeBlocker arm slot b z).memBefore = s.memBefore := rfl
@[simp] theorem State.writeBlocker_ports : (s.writeBlocker arm slot b z).ports = s.ports := rfl
@[simp] theorem State.writeBlocker_feeds : (s.writeBlocker arm slot b z).feeds = s.feeds := rfl
@[simp] theorem State.writeBlocker_reach : (s.writeBlocker arm slot b z).reach = s.reach := rfl
@[simp] theorem State.writeBlocker_cells : (s.writeBlocker arm slot b z).cells = s.cells := rfl
@[simp] theorem State.writeBlocker_tallies : (s.writeBlocker arm slot b z).tallies = s.tallies := rfl
@[simp] theorem State.writeBlocker_waiting : (s.writeBlocker arm slot b z).waiting = s.waiting := rfl
@[simp] theorem State.writeBlocker_lanes : (s.writeBlocker arm slot b z).lanes = s.lanes := rfl
@[simp] theorem State.writeBlocker_survey : (s.writeBlocker arm slot b z).survey = s.survey := rfl
@[simp] theorem State.writeBlocker_enf : (s.writeBlocker arm slot b z).enf = s.enf := rfl
@[simp] theorem State.writeBlocker_refill : (s.writeBlocker arm slot b z).refill = s.refill := rfl
@[simp] theorem State.writeBlocker_lock : (s.writeBlocker arm slot b z).lock = s.lock := rfl
@[simp] theorem State.writeBlocker_fence : (s.writeBlocker arm slot b z).fence = s.fence := rfl
@[simp] theorem State.writeBlocker_install : (s.writeBlocker arm slot b z).install = s.install := rfl
@[simp] theorem State.writeBlocker_active : (s.writeBlocker arm slot b z).active = s.active := rfl
@[simp] theorem State.writeBlocker_accepted : (s.writeBlocker arm slot b z).accepted = s.accepted := rfl
end

section
variable (s : State) (arm : Arm) (slot : Slot) (r : SlotResult) (x : Option SlotReason)
@[simp] theorem State.writeResult_pending : (s.writeResult arm slot r x).pending = s.pending := rfl
@[simp] theorem State.writeResult_resetAsserted : (s.writeResult arm slot r x).resetAsserted = s.resetAsserted := rfl
@[simp] theorem State.writeResult_ready : (s.writeResult arm slot r x).ready = s.ready := rfl
@[simp] theorem State.writeResult_rfreq : (s.writeResult arm slot r x).rfreq = s.rfreq := rfl
@[simp] theorem State.writeResult_memBefore : (s.writeResult arm slot r x).memBefore = s.memBefore := rfl
@[simp] theorem State.writeResult_feeds : (s.writeResult arm slot r x).feeds = s.feeds := rfl
@[simp] theorem State.writeResult_reach : (s.writeResult arm slot r x).reach = s.reach := rfl
@[simp] theorem State.writeResult_cells : (s.writeResult arm slot r x).cells = s.cells := rfl
@[simp] theorem State.writeResult_tallies : (s.writeResult arm slot r x).tallies = s.tallies := rfl
@[simp] theorem State.writeResult_waiting : (s.writeResult arm slot r x).waiting = s.waiting := rfl
@[simp] theorem State.writeResult_lanes : (s.writeResult arm slot r x).lanes = s.lanes := rfl
@[simp] theorem State.writeResult_survey : (s.writeResult arm slot r x).survey = s.survey := rfl
@[simp] theorem State.writeResult_enf : (s.writeResult arm slot r x).enf = s.enf := rfl
@[simp] theorem State.writeResult_refill : (s.writeResult arm slot r x).refill = s.refill := rfl
@[simp] theorem State.writeResult_lock : (s.writeResult arm slot r x).lock = s.lock := rfl
@[simp] theorem State.writeResult_fence : (s.writeResult arm slot r x).fence = s.fence := rfl
@[simp] theorem State.writeResult_install : (s.writeResult arm slot r x).install = s.install := rfl
@[simp] theorem State.writeResult_active : (s.writeResult arm slot r x).active = s.active := rfl
@[simp] theorem State.writeResult_accepted : (s.writeResult arm slot r x).accepted = s.accepted := rfl
end

section
variable (s : State) (arm : Arm) (slot : Slot) (tag : Byte)
@[simp] theorem State.writeTag_pending : (s.writeTag arm slot tag).pending = s.pending := rfl
@[simp] theorem State.writeTag_resetAsserted : (s.writeTag arm slot tag).resetAsserted = s.resetAsserted := rfl
@[simp] theorem State.writeTag_ready : (s.writeTag arm slot tag).ready = s.ready := rfl
@[simp] theorem State.writeTag_rfreq : (s.writeTag arm slot tag).rfreq = s.rfreq := rfl
@[simp] theorem State.writeTag_memBefore : (s.writeTag arm slot tag).memBefore = s.memBefore := rfl
@[simp] theorem State.writeTag_ports : (s.writeTag arm slot tag).ports = s.ports := rfl
@[simp] theorem State.writeTag_feeds : (s.writeTag arm slot tag).feeds = s.feeds := rfl
@[simp] theorem State.writeTag_reach : (s.writeTag arm slot tag).reach = s.reach := rfl
@[simp] theorem State.writeTag_cells : (s.writeTag arm slot tag).cells = s.cells := rfl
@[simp] theorem State.writeTag_tallies : (s.writeTag arm slot tag).tallies = s.tallies := rfl
@[simp] theorem State.writeTag_waiting : (s.writeTag arm slot tag).waiting = s.waiting := rfl
@[simp] theorem State.writeTag_lanes : (s.writeTag arm slot tag).lanes = s.lanes := rfl
@[simp] theorem State.writeTag_survey : (s.writeTag arm slot tag).survey = s.survey := rfl
@[simp] theorem State.writeTag_enf : (s.writeTag arm slot tag).enf = s.enf := rfl
@[simp] theorem State.writeTag_refill : (s.writeTag arm slot tag).refill = s.refill := rfl
@[simp] theorem State.writeTag_lock : (s.writeTag arm slot tag).lock = s.lock := rfl
@[simp] theorem State.writeTag_fence : (s.writeTag arm slot tag).fence = s.fence := rfl
@[simp] theorem State.writeTag_install : (s.writeTag arm slot tag).install = s.install := rfl
@[simp] theorem State.writeTag_active : (s.writeTag arm slot tag).active = s.active := rfl
@[simp] theorem State.writeTag_accepted : (s.writeTag arm slot tag).accepted = s.accepted := rfl
end

section
variable (s : State) (arm : Arm) (slot : Slot) (n : Nat)
@[simp] theorem State.writeRemaining_pending : (s.writeRemaining arm slot n).pending = s.pending := rfl
@[simp] theorem State.writeRemaining_resetAsserted : (s.writeRemaining arm slot n).resetAsserted = s.resetAsserted := rfl
@[simp] theorem State.writeRemaining_ready : (s.writeRemaining arm slot n).ready = s.ready := rfl
@[simp] theorem State.writeRemaining_rfreq : (s.writeRemaining arm slot n).rfreq = s.rfreq := rfl
@[simp] theorem State.writeRemaining_memBefore : (s.writeRemaining arm slot n).memBefore = s.memBefore := rfl
@[simp] theorem State.writeRemaining_ports : (s.writeRemaining arm slot n).ports = s.ports := rfl
@[simp] theorem State.writeRemaining_feeds : (s.writeRemaining arm slot n).feeds = s.feeds := rfl
@[simp] theorem State.writeRemaining_reach : (s.writeRemaining arm slot n).reach = s.reach := rfl
@[simp] theorem State.writeRemaining_cells : (s.writeRemaining arm slot n).cells = s.cells := rfl
@[simp] theorem State.writeRemaining_tallies : (s.writeRemaining arm slot n).tallies = s.tallies := rfl
@[simp] theorem State.writeRemaining_waiting : (s.writeRemaining arm slot n).waiting = s.waiting := rfl
@[simp] theorem State.writeRemaining_survey : (s.writeRemaining arm slot n).survey = s.survey := rfl
@[simp] theorem State.writeRemaining_enf : (s.writeRemaining arm slot n).enf = s.enf := rfl
@[simp] theorem State.writeRemaining_refill : (s.writeRemaining arm slot n).refill = s.refill := rfl
@[simp] theorem State.writeRemaining_lock : (s.writeRemaining arm slot n).lock = s.lock := rfl
@[simp] theorem State.writeRemaining_fence : (s.writeRemaining arm slot n).fence = s.fence := rfl
@[simp] theorem State.writeRemaining_install : (s.writeRemaining arm slot n).install = s.install := rfl
@[simp] theorem State.writeRemaining_active : (s.writeRemaining arm slot n).active = s.active := rfl
@[simp] theorem State.writeRemaining_accepted : (s.writeRemaining arm slot n).accepted = s.accepted := rfl
end

section
variable (s : State) (arm : Arm) (tr : Option Traverse)
@[simp] theorem State.releaseTraverse_pending : (s.releaseTraverse arm tr).pending = s.pending := by unfold State.releaseTraverse; split <;> rfl
@[simp] theorem State.releaseTraverse_resetAsserted : (s.releaseTraverse arm tr).resetAsserted = s.resetAsserted := by unfold State.releaseTraverse; split <;> rfl
@[simp] theorem State.releaseTraverse_ready : (s.releaseTraverse arm tr).ready = s.ready := by unfold State.releaseTraverse; split <;> rfl
@[simp] theorem State.releaseTraverse_rfreq : (s.releaseTraverse arm tr).rfreq = s.rfreq := by unfold State.releaseTraverse; split <;> rfl
@[simp] theorem State.releaseTraverse_mem : (s.releaseTraverse arm tr).mem = s.mem := by unfold State.releaseTraverse; split <;> rfl
@[simp] theorem State.releaseTraverse_memBefore : (s.releaseTraverse arm tr).memBefore = s.memBefore := by unfold State.releaseTraverse; split <;> rfl
@[simp] theorem State.releaseTraverse_ports : (s.releaseTraverse arm tr).ports = s.ports := by unfold State.releaseTraverse; split <;> rfl
@[simp] theorem State.releaseTraverse_feeds : (s.releaseTraverse arm tr).feeds = s.feeds := by unfold State.releaseTraverse; split <;> rfl
@[simp] theorem State.releaseTraverse_reach : (s.releaseTraverse arm tr).reach = s.reach := by unfold State.releaseTraverse; split <;> rfl
@[simp] theorem State.releaseTraverse_waiting : (s.releaseTraverse arm tr).waiting = s.waiting := by unfold State.releaseTraverse; split <;> rfl
@[simp] theorem State.releaseTraverse_lanes : (s.releaseTraverse arm tr).lanes = s.lanes := by unfold State.releaseTraverse; split <;> rfl
@[simp] theorem State.releaseTraverse_survey : (s.releaseTraverse arm tr).survey = s.survey := by unfold State.releaseTraverse; split <;> rfl
@[simp] theorem State.releaseTraverse_enf : (s.releaseTraverse arm tr).enf = s.enf := by unfold State.releaseTraverse; split <;> rfl
@[simp] theorem State.releaseTraverse_refill : (s.releaseTraverse arm tr).refill = s.refill := by unfold State.releaseTraverse; split <;> rfl
@[simp] theorem State.releaseTraverse_lock : (s.releaseTraverse arm tr).lock = s.lock := by unfold State.releaseTraverse; split <;> rfl
@[simp] theorem State.releaseTraverse_fence : (s.releaseTraverse arm tr).fence = s.fence := by unfold State.releaseTraverse; split <;> rfl
@[simp] theorem State.releaseTraverse_install : (s.releaseTraverse arm tr).install = s.install := by unfold State.releaseTraverse; split <;> rfl
@[simp] theorem State.releaseTraverse_active : (s.releaseTraverse arm tr).active = s.active := by unfold State.releaseTraverse; split <;> rfl
@[simp] theorem State.releaseTraverse_accepted : (s.releaseTraverse arm tr).accepted = s.accepted := by unfold State.releaseTraverse; split <;> rfl
end

section
variable (s : State) (arm : Arm) (slot : Slot)
@[simp] theorem State.endGranted_pending : (s.endGranted arm slot).pending = s.pending := by simp [State.endGranted]
@[simp] theorem State.endGranted_resetAsserted : (s.endGranted arm slot).resetAsserted = s.resetAsserted := by simp [State.endGranted]
@[simp] theorem State.endGranted_ready : (s.endGranted arm slot).ready = s.ready := by simp [State.endGranted]
@[simp] theorem State.endGranted_rfreq : (s.endGranted arm slot).rfreq = s.rfreq := by simp [State.endGranted]
@[simp] theorem State.endGranted_memBefore : (s.endGranted arm slot).memBefore = s.memBefore := by simp [State.endGranted]
@[simp] theorem State.endGranted_feeds : (s.endGranted arm slot).feeds = s.feeds := by simp [State.endGranted]
@[simp] theorem State.endGranted_reach : (s.endGranted arm slot).reach = s.reach := by simp [State.endGranted]
@[simp] theorem State.endGranted_waiting : (s.endGranted arm slot).waiting = s.waiting := by simp [State.endGranted]
@[simp] theorem State.endGranted_survey : (s.endGranted arm slot).survey = s.survey := by simp [State.endGranted]
@[simp] theorem State.endGranted_enf : (s.endGranted arm slot).enf = s.enf := by simp [State.endGranted]
@[simp] theorem State.endGranted_refill : (s.endGranted arm slot).refill = s.refill := by simp [State.endGranted]
@[simp] theorem State.endGranted_lock : (s.endGranted arm slot).lock = s.lock := by simp [State.endGranted]
@[simp] theorem State.endGranted_fence : (s.endGranted arm slot).fence = s.fence := by simp [State.endGranted]
@[simp] theorem State.endGranted_install : (s.endGranted arm slot).install = s.install := by simp [State.endGranted]
@[simp] theorem State.endGranted_active : (s.endGranted arm slot).active = s.active := by simp [State.endGranted]
@[simp] theorem State.endGranted_accepted : (s.endGranted arm slot).accepted = s.accepted := by simp [State.endGranted]
end

section
variable (s : State) (arm : Arm) (slot : Slot) (st : SlotState)
@[simp] theorem State.endWaiting_pending : (s.endWaiting arm slot st).pending = s.pending := by simp [State.endWaiting]
@[simp] theorem State.endWaiting_resetAsserted : (s.endWaiting arm slot st).resetAsserted = s.resetAsserted := by simp [State.endWaiting]
@[simp] theorem State.endWaiting_ready : (s.endWaiting arm slot st).ready = s.ready := by simp [State.endWaiting]
@[simp] theorem State.endWaiting_rfreq : (s.endWaiting arm slot st).rfreq = s.rfreq := by simp [State.endWaiting]
@[simp] theorem State.endWaiting_memBefore : (s.endWaiting arm slot st).memBefore = s.memBefore := by simp [State.endWaiting]
@[simp] theorem State.endWaiting_feeds : (s.endWaiting arm slot st).feeds = s.feeds := by simp [State.endWaiting]
@[simp] theorem State.endWaiting_reach : (s.endWaiting arm slot st).reach = s.reach := by simp [State.endWaiting]
@[simp] theorem State.endWaiting_cells : (s.endWaiting arm slot st).cells = s.cells := by simp [State.endWaiting]
@[simp] theorem State.endWaiting_tallies : (s.endWaiting arm slot st).tallies = s.tallies := by simp [State.endWaiting]
@[simp] theorem State.endWaiting_waiting : (s.endWaiting arm slot st).waiting = s.waiting := by simp [State.endWaiting]
@[simp] theorem State.endWaiting_survey : (s.endWaiting arm slot st).survey = s.survey := by simp [State.endWaiting]
@[simp] theorem State.endWaiting_enf : (s.endWaiting arm slot st).enf = s.enf := by simp [State.endWaiting]
@[simp] theorem State.endWaiting_refill : (s.endWaiting arm slot st).refill = s.refill := by simp [State.endWaiting]
@[simp] theorem State.endWaiting_lock : (s.endWaiting arm slot st).lock = s.lock := by simp [State.endWaiting]
@[simp] theorem State.endWaiting_fence : (s.endWaiting arm slot st).fence = s.fence := by simp [State.endWaiting]
@[simp] theorem State.endWaiting_install : (s.endWaiting arm slot st).install = s.install := by simp [State.endWaiting]
@[simp] theorem State.endWaiting_active : (s.endWaiting arm slot st).active = s.active := by simp [State.endWaiting]
@[simp] theorem State.endWaiting_accepted : (s.endWaiting arm slot st).accepted = s.accepted := by simp [State.endWaiting]
end

section
variable (s : State) (arm : Arm) (slot : Slot) (q : SlotRequest) (tag : Byte)
@[simp] theorem State.acceptPost_pending : (s.acceptPost arm slot q tag).pending = s.pending := by simp [State.acceptPost]
@[simp] theorem State.acceptPost_resetAsserted : (s.acceptPost arm slot q tag).resetAsserted = s.resetAsserted := by simp [State.acceptPost]
@[simp] theorem State.acceptPost_ready : (s.acceptPost arm slot q tag).ready = s.ready := by simp [State.acceptPost]
@[simp] theorem State.acceptPost_rfreq : (s.acceptPost arm slot q tag).rfreq = s.rfreq := by simp [State.acceptPost]
@[simp] theorem State.acceptPost_memBefore : (s.acceptPost arm slot q tag).memBefore = s.memBefore := by simp [State.acceptPost]
@[simp] theorem State.acceptPost_feeds : (s.acceptPost arm slot q tag).feeds = s.feeds := by simp [State.acceptPost]
@[simp] theorem State.acceptPost_reach : (s.acceptPost arm slot q tag).reach = s.reach := by simp [State.acceptPost]
@[simp] theorem State.acceptPost_cells : (s.acceptPost arm slot q tag).cells = s.cells := by simp [State.acceptPost]
@[simp] theorem State.acceptPost_tallies : (s.acceptPost arm slot q tag).tallies = s.tallies := by simp [State.acceptPost]
@[simp] theorem State.acceptPost_waiting : (s.acceptPost arm slot q tag).waiting = s.waiting := by simp [State.acceptPost]
@[simp] theorem State.acceptPost_survey : (s.acceptPost arm slot q tag).survey = s.survey := by simp [State.acceptPost]
@[simp] theorem State.acceptPost_enf : (s.acceptPost arm slot q tag).enf = s.enf := by simp [State.acceptPost]
@[simp] theorem State.acceptPost_refill : (s.acceptPost arm slot q tag).refill = s.refill := by simp [State.acceptPost]
@[simp] theorem State.acceptPost_lock : (s.acceptPost arm slot q tag).lock = s.lock := by simp [State.acceptPost]
@[simp] theorem State.acceptPost_fence : (s.acceptPost arm slot q tag).fence = s.fence := by simp [State.acceptPost]
@[simp] theorem State.acceptPost_install : (s.acceptPost arm slot q tag).install = s.install := by simp [State.acceptPost]
@[simp] theorem State.acceptPost_active : (s.acceptPost arm slot q tag).active = s.active := by simp [State.acceptPost]
@[simp] theorem State.acceptPost_accepted : (s.acceptPost arm slot q tag).accepted = s.accepted := by simp [State.acceptPost]
end

section
variable (s : State) (arm : Arm) (slot : Slot) (r : SlotReason) (tag : Byte)
@[simp] theorem State.refuseCommand_pending : (s.refuseCommand arm slot r tag).pending = s.pending := rfl
@[simp] theorem State.refuseCommand_resetAsserted : (s.refuseCommand arm slot r tag).resetAsserted = s.resetAsserted := rfl
@[simp] theorem State.refuseCommand_ready : (s.refuseCommand arm slot r tag).ready = s.ready := rfl
@[simp] theorem State.refuseCommand_rfreq : (s.refuseCommand arm slot r tag).rfreq = s.rfreq := rfl
@[simp] theorem State.refuseCommand_memBefore : (s.refuseCommand arm slot r tag).memBefore = s.memBefore := rfl
@[simp] theorem State.refuseCommand_feeds : (s.refuseCommand arm slot r tag).feeds = s.feeds := rfl
@[simp] theorem State.refuseCommand_reach : (s.refuseCommand arm slot r tag).reach = s.reach := rfl
@[simp] theorem State.refuseCommand_cells : (s.refuseCommand arm slot r tag).cells = s.cells := rfl
@[simp] theorem State.refuseCommand_tallies : (s.refuseCommand arm slot r tag).tallies = s.tallies := rfl
@[simp] theorem State.refuseCommand_waiting : (s.refuseCommand arm slot r tag).waiting = s.waiting := rfl
@[simp] theorem State.refuseCommand_lanes : (s.refuseCommand arm slot r tag).lanes = s.lanes := rfl
@[simp] theorem State.refuseCommand_survey : (s.refuseCommand arm slot r tag).survey = s.survey := rfl
@[simp] theorem State.refuseCommand_enf : (s.refuseCommand arm slot r tag).enf = s.enf := rfl
@[simp] theorem State.refuseCommand_refill : (s.refuseCommand arm slot r tag).refill = s.refill := rfl
@[simp] theorem State.refuseCommand_lock : (s.refuseCommand arm slot r tag).lock = s.lock := rfl
@[simp] theorem State.refuseCommand_fence : (s.refuseCommand arm slot r tag).fence = s.fence := rfl
@[simp] theorem State.refuseCommand_install : (s.refuseCommand arm slot r tag).install = s.install := rfl
@[simp] theorem State.refuseCommand_active : (s.refuseCommand arm slot r tag).active = s.active := rfl
@[simp] theorem State.refuseCommand_accepted : (s.refuseCommand arm slot r tag).accepted = s.accepted := rfl
end

section
variable (s : State) (t : ZoneTable) (arm : Arm) (slot : Slot) (tr : Traverse)
@[simp] theorem State.grant_pending : (s.grant t arm slot tr).pending = s.pending := by unfold State.grant; split <;> simp
@[simp] theorem State.grant_resetAsserted : (s.grant t arm slot tr).resetAsserted = s.resetAsserted := by unfold State.grant; split <;> simp
@[simp] theorem State.grant_ready : (s.grant t arm slot tr).ready = s.ready := by unfold State.grant; split <;> simp
@[simp] theorem State.grant_rfreq : (s.grant t arm slot tr).rfreq = s.rfreq := by unfold State.grant; split <;> simp
@[simp] theorem State.grant_memBefore : (s.grant t arm slot tr).memBefore = s.memBefore := by unfold State.grant; split <;> simp
@[simp] theorem State.grant_feeds : (s.grant t arm slot tr).feeds = s.feeds := by unfold State.grant; split <;> simp
@[simp] theorem State.grant_reach : (s.grant t arm slot tr).reach = s.reach := by unfold State.grant; split <;> simp
@[simp] theorem State.grant_waiting : (s.grant t arm slot tr).waiting = s.waiting := by unfold State.grant; split <;> simp
@[simp] theorem State.grant_survey : (s.grant t arm slot tr).survey = s.survey := by unfold State.grant; split <;> simp
@[simp] theorem State.grant_enf : (s.grant t arm slot tr).enf = s.enf := by unfold State.grant; split <;> simp
@[simp] theorem State.grant_refill : (s.grant t arm slot tr).refill = s.refill := by unfold State.grant; split <;> simp
@[simp] theorem State.grant_lock : (s.grant t arm slot tr).lock = s.lock := by unfold State.grant; split <;> simp
@[simp] theorem State.grant_fence : (s.grant t arm slot tr).fence = s.fence := by unfold State.grant; split <;> simp
@[simp] theorem State.grant_install : (s.grant t arm slot tr).install = s.install := by unfold State.grant; split <;> simp
@[simp] theorem State.grant_active : (s.grant t arm slot tr).active = s.active := by unfold State.grant; split <;> simp
@[simp] theorem State.grant_accepted : (s.grant t arm slot tr).accepted = s.accepted := by unfold State.grant; split <;> simp
end

section
variable (s : State) (t : ZoneTable) (arm : Arm) (f : Finding)
@[simp] theorem State.grantFound_pending : (s.grantFound t arm f).pending = s.pending := by cases f <;> simp [State.grantFound]
@[simp] theorem State.grantFound_resetAsserted : (s.grantFound t arm f).resetAsserted = s.resetAsserted := by cases f <;> simp [State.grantFound]
@[simp] theorem State.grantFound_ready : (s.grantFound t arm f).ready = s.ready := by cases f <;> simp [State.grantFound]
@[simp] theorem State.grantFound_rfreq : (s.grantFound t arm f).rfreq = s.rfreq := by cases f <;> simp [State.grantFound]
@[simp] theorem State.grantFound_memBefore : (s.grantFound t arm f).memBefore = s.memBefore := by cases f <;> simp [State.grantFound]
@[simp] theorem State.grantFound_feeds : (s.grantFound t arm f).feeds = s.feeds := by cases f <;> simp [State.grantFound]
@[simp] theorem State.grantFound_reach : (s.grantFound t arm f).reach = s.reach := by cases f <;> simp [State.grantFound]
@[simp] theorem State.grantFound_waiting : (s.grantFound t arm f).waiting = s.waiting := by cases f <;> simp [State.grantFound]
@[simp] theorem State.grantFound_survey : (s.grantFound t arm f).survey = s.survey := by cases f <;> simp [State.grantFound]
@[simp] theorem State.grantFound_enf : (s.grantFound t arm f).enf = s.enf := by cases f <;> simp [State.grantFound]
@[simp] theorem State.grantFound_refill : (s.grantFound t arm f).refill = s.refill := by cases f <;> simp [State.grantFound]
@[simp] theorem State.grantFound_lock : (s.grantFound t arm f).lock = s.lock := by cases f <;> simp [State.grantFound]
@[simp] theorem State.grantFound_fence : (s.grantFound t arm f).fence = s.fence := by cases f <;> simp [State.grantFound]
@[simp] theorem State.grantFound_install : (s.grantFound t arm f).install = s.install := by cases f <;> simp [State.grantFound]
@[simp] theorem State.grantFound_active : (s.grantFound t arm f).active = s.active := by cases f <;> simp [State.grantFound]
@[simp] theorem State.grantFound_accepted : (s.grantFound t arm f).accepted = s.accepted := by cases f <;> simp [State.grantFound]
end

section
variable (s : State) (arm : Arm) (g : Gathered)
@[simp] theorem State.applyGathered_pending : (s.applyGathered arm g).pending = s.pending := by simp [State.applyGathered]
@[simp] theorem State.applyGathered_resetAsserted : (s.applyGathered arm g).resetAsserted = s.resetAsserted := by simp [State.applyGathered]
@[simp] theorem State.applyGathered_ready : (s.applyGathered arm g).ready = s.ready := by simp [State.applyGathered]
@[simp] theorem State.applyGathered_rfreq : (s.applyGathered arm g).rfreq = s.rfreq := by simp [State.applyGathered]
@[simp] theorem State.applyGathered_memBefore : (s.applyGathered arm g).memBefore = s.memBefore := by simp [State.applyGathered]
@[simp] theorem State.applyGathered_feeds : (s.applyGathered arm g).feeds = s.feeds := by simp [State.applyGathered]
@[simp] theorem State.applyGathered_reach : (s.applyGathered arm g).reach = s.reach := by simp [State.applyGathered]
@[simp] theorem State.applyGathered_cells : (s.applyGathered arm g).cells = s.cells := by simp [State.applyGathered]
@[simp] theorem State.applyGathered_tallies : (s.applyGathered arm g).tallies = s.tallies := by simp [State.applyGathered]
@[simp] theorem State.applyGathered_waiting : (s.applyGathered arm g).waiting = s.waiting := by simp [State.applyGathered]
@[simp] theorem State.applyGathered_lanes : (s.applyGathered arm g).lanes = s.lanes := by simp [State.applyGathered]
@[simp] theorem State.applyGathered_survey : (s.applyGathered arm g).survey = s.survey := by simp [State.applyGathered]
@[simp] theorem State.applyGathered_refill : (s.applyGathered arm g).refill = s.refill := by simp [State.applyGathered]
@[simp] theorem State.applyGathered_lock : (s.applyGathered arm g).lock = s.lock := by simp [State.applyGathered]
@[simp] theorem State.applyGathered_fence : (s.applyGathered arm g).fence = s.fence := by simp [State.applyGathered]
@[simp] theorem State.applyGathered_install : (s.applyGathered arm g).install = s.install := by simp [State.applyGathered]
@[simp] theorem State.applyGathered_active : (s.applyGathered arm g).active = s.active := by simp [State.applyGathered]
@[simp] theorem State.applyGathered_accepted : (s.applyGathered arm g).accepted = s.accepted := by simp [State.applyGathered]
end

section
variable (s : State) (arm : Arm) (f : HeldFrame)
@[simp] theorem State.takeFrame_pending : (s.takeFrame arm f).pending = s.pending := rfl
@[simp] theorem State.takeFrame_resetAsserted : (s.takeFrame arm f).resetAsserted = s.resetAsserted := rfl
@[simp] theorem State.takeFrame_ready : (s.takeFrame arm f).ready = s.ready := rfl
@[simp] theorem State.takeFrame_rfreq : (s.takeFrame arm f).rfreq = s.rfreq := rfl
@[simp] theorem State.takeFrame_mem : (s.takeFrame arm f).mem = s.mem := rfl
@[simp] theorem State.takeFrame_memBefore : (s.takeFrame arm f).memBefore = s.memBefore := rfl
@[simp] theorem State.takeFrame_ports : (s.takeFrame arm f).ports = s.ports := rfl
@[simp] theorem State.takeFrame_cells : (s.takeFrame arm f).cells = s.cells := rfl
@[simp] theorem State.takeFrame_tallies : (s.takeFrame arm f).tallies = s.tallies := rfl
@[simp] theorem State.takeFrame_waiting : (s.takeFrame arm f).waiting = s.waiting := rfl
@[simp] theorem State.takeFrame_lanes : (s.takeFrame arm f).lanes = s.lanes := rfl
@[simp] theorem State.takeFrame_survey : (s.takeFrame arm f).survey = s.survey := rfl
@[simp] theorem State.takeFrame_enf : (s.takeFrame arm f).enf = s.enf := rfl
@[simp] theorem State.takeFrame_refill : (s.takeFrame arm f).refill = s.refill := rfl
@[simp] theorem State.takeFrame_lock : (s.takeFrame arm f).lock = s.lock := rfl
@[simp] theorem State.takeFrame_fence : (s.takeFrame arm f).fence = s.fence := rfl
@[simp] theorem State.takeFrame_install : (s.takeFrame arm f).install = s.install := rfl
@[simp] theorem State.takeFrame_active : (s.takeFrame arm f).active = s.active := rfl
@[simp] theorem State.takeFrame_accepted : (s.takeFrame arm f).accepted = s.accepted := rfl
end

section
variable (s : State) (t : ZoneTable) (arm : Arm) (f : HeldFrame)
@[simp] theorem State.arithmetic_pending : (s.arithmetic t arm f).pending = s.pending := rfl
@[simp] theorem State.arithmetic_resetAsserted : (s.arithmetic t arm f).resetAsserted = s.resetAsserted := rfl
@[simp] theorem State.arithmetic_ready : (s.arithmetic t arm f).ready = s.ready := rfl
@[simp] theorem State.arithmetic_rfreq : (s.arithmetic t arm f).rfreq = s.rfreq := rfl
@[simp] theorem State.arithmetic_mem : (s.arithmetic t arm f).mem = s.mem := rfl
@[simp] theorem State.arithmetic_memBefore : (s.arithmetic t arm f).memBefore = s.memBefore := rfl
@[simp] theorem State.arithmetic_ports : (s.arithmetic t arm f).ports = s.ports := rfl
@[simp] theorem State.arithmetic_feeds : (s.arithmetic t arm f).feeds = s.feeds := rfl
@[simp] theorem State.arithmetic_cells : (s.arithmetic t arm f).cells = s.cells := rfl
@[simp] theorem State.arithmetic_tallies : (s.arithmetic t arm f).tallies = s.tallies := rfl
@[simp] theorem State.arithmetic_waiting : (s.arithmetic t arm f).waiting = s.waiting := rfl
@[simp] theorem State.arithmetic_lanes : (s.arithmetic t arm f).lanes = s.lanes := rfl
@[simp] theorem State.arithmetic_survey : (s.arithmetic t arm f).survey = s.survey := rfl
@[simp] theorem State.arithmetic_enf : (s.arithmetic t arm f).enf = s.enf := rfl
@[simp] theorem State.arithmetic_refill : (s.arithmetic t arm f).refill = s.refill := rfl
@[simp] theorem State.arithmetic_lock : (s.arithmetic t arm f).lock = s.lock := rfl
@[simp] theorem State.arithmetic_fence : (s.arithmetic t arm f).fence = s.fence := rfl
@[simp] theorem State.arithmetic_install : (s.arithmetic t arm f).install = s.install := rfl
@[simp] theorem State.arithmetic_active : (s.arithmetic t arm f).active = s.active := rfl
@[simp] theorem State.arithmetic_accepted : (s.arithmetic t arm f).accepted = s.accepted := rfl
end

section
variable (s : State) (arm : Arm)
@[simp] theorem State.seat_pending : (s.seat arm).pending = s.pending := rfl
@[simp] theorem State.seat_resetAsserted : (s.seat arm).resetAsserted = s.resetAsserted := rfl
@[simp] theorem State.seat_ready : (s.seat arm).ready = s.ready := rfl
@[simp] theorem State.seat_rfreq : (s.seat arm).rfreq = s.rfreq := rfl
@[simp] theorem State.seat_mem : (s.seat arm).mem = s.mem := rfl
@[simp] theorem State.seat_memBefore : (s.seat arm).memBefore = s.memBefore := rfl
@[simp] theorem State.seat_ports : (s.seat arm).ports = s.ports := rfl
@[simp] theorem State.seat_feeds : (s.seat arm).feeds = s.feeds := rfl
@[simp] theorem State.seat_reach : (s.seat arm).reach = s.reach := rfl
@[simp] theorem State.seat_waiting : (s.seat arm).waiting = s.waiting := rfl
@[simp] theorem State.seat_lanes : (s.seat arm).lanes = s.lanes := rfl
@[simp] theorem State.seat_survey : (s.seat arm).survey = s.survey := rfl
@[simp] theorem State.seat_refill : (s.seat arm).refill = s.refill := rfl
@[simp] theorem State.seat_lock : (s.seat arm).lock = s.lock := rfl
@[simp] theorem State.seat_fence : (s.seat arm).fence = s.fence := rfl
@[simp] theorem State.seat_install : (s.seat arm).install = s.install := rfl
@[simp] theorem State.seat_active : (s.seat arm).active = s.active := rfl
@[simp] theorem State.seat_accepted : (s.seat arm).accepted = s.accepted := rfl
end

section
variable (s : State) (arm : Arm)
@[simp] theorem State.clearStop_pending : (s.clearStop arm).pending = s.pending := by simp [State.clearStop]
@[simp] theorem State.clearStop_resetAsserted : (s.clearStop arm).resetAsserted = s.resetAsserted := by simp [State.clearStop]
@[simp] theorem State.clearStop_ready : (s.clearStop arm).ready = s.ready := by simp [State.clearStop]
@[simp] theorem State.clearStop_rfreq : (s.clearStop arm).rfreq = s.rfreq := by simp [State.clearStop]
@[simp] theorem State.clearStop_memBefore : (s.clearStop arm).memBefore = s.memBefore := by simp [State.clearStop]
@[simp] theorem State.clearStop_feeds : (s.clearStop arm).feeds = s.feeds := by simp [State.clearStop]
@[simp] theorem State.clearStop_reach : (s.clearStop arm).reach = s.reach := by simp [State.clearStop]
@[simp] theorem State.clearStop_waiting : (s.clearStop arm).waiting = s.waiting := by simp [State.clearStop]
@[simp] theorem State.clearStop_lanes : (s.clearStop arm).lanes = s.lanes := by simp [State.clearStop]
@[simp] theorem State.clearStop_survey : (s.clearStop arm).survey = s.survey := by simp [State.clearStop]
@[simp] theorem State.clearStop_refill : (s.clearStop arm).refill = s.refill := by simp [State.clearStop]
@[simp] theorem State.clearStop_lock : (s.clearStop arm).lock = s.lock := by simp [State.clearStop]
@[simp] theorem State.clearStop_fence : (s.clearStop arm).fence = s.fence := by simp [State.clearStop]
@[simp] theorem State.clearStop_install : (s.clearStop arm).install = s.install := by simp [State.clearStop]
@[simp] theorem State.clearStop_active : (s.clearStop arm).active = s.active := by simp [State.clearStop]
@[simp] theorem State.clearStop_accepted : (s.clearStop arm).accepted = s.accepted := by simp [State.clearStop]
end

section
variable (s : State) (p : Port) (r : MailResult) (x : Option HeldReason) (tag : Byte)
@[simp] theorem State.writeMailResult_pending : (s.writeMailResult p r x tag).pending = s.pending := rfl
@[simp] theorem State.writeMailResult_resetAsserted : (s.writeMailResult p r x tag).resetAsserted = s.resetAsserted := rfl
@[simp] theorem State.writeMailResult_ready : (s.writeMailResult p r x tag).ready = s.ready := rfl
@[simp] theorem State.writeMailResult_rfreq : (s.writeMailResult p r x tag).rfreq = s.rfreq := rfl
@[simp] theorem State.writeMailResult_memBefore : (s.writeMailResult p r x tag).memBefore = s.memBefore := rfl
@[simp] theorem State.writeMailResult_feeds : (s.writeMailResult p r x tag).feeds = s.feeds := rfl
@[simp] theorem State.writeMailResult_reach : (s.writeMailResult p r x tag).reach = s.reach := rfl
@[simp] theorem State.writeMailResult_cells : (s.writeMailResult p r x tag).cells = s.cells := rfl
@[simp] theorem State.writeMailResult_tallies : (s.writeMailResult p r x tag).tallies = s.tallies := rfl
@[simp] theorem State.writeMailResult_waiting : (s.writeMailResult p r x tag).waiting = s.waiting := rfl
@[simp] theorem State.writeMailResult_lanes : (s.writeMailResult p r x tag).lanes = s.lanes := rfl
@[simp] theorem State.writeMailResult_survey : (s.writeMailResult p r x tag).survey = s.survey := rfl
@[simp] theorem State.writeMailResult_enf : (s.writeMailResult p r x tag).enf = s.enf := rfl
@[simp] theorem State.writeMailResult_refill : (s.writeMailResult p r x tag).refill = s.refill := rfl
@[simp] theorem State.writeMailResult_lock : (s.writeMailResult p r x tag).lock = s.lock := rfl
@[simp] theorem State.writeMailResult_fence : (s.writeMailResult p r x tag).fence = s.fence := rfl
@[simp] theorem State.writeMailResult_install : (s.writeMailResult p r x tag).install = s.install := rfl
@[simp] theorem State.writeMailResult_active : (s.writeMailResult p r x tag).active = s.active := rfl
@[simp] theorem State.writeMailResult_accepted : (s.writeMailResult p r x tag).accepted = s.accepted := rfl
end

section
variable (s : State) (st : InstallState)
@[simp] theorem State.dropInstall_pending : (s.dropInstall st).pending = s.pending := rfl
@[simp] theorem State.dropInstall_resetAsserted : (s.dropInstall st).resetAsserted = s.resetAsserted := rfl
@[simp] theorem State.dropInstall_ready : (s.dropInstall st).ready = s.ready := rfl
@[simp] theorem State.dropInstall_rfreq : (s.dropInstall st).rfreq = s.rfreq := rfl
@[simp] theorem State.dropInstall_memBefore : (s.dropInstall st).memBefore = s.memBefore := rfl
@[simp] theorem State.dropInstall_feeds : (s.dropInstall st).feeds = s.feeds := rfl
@[simp] theorem State.dropInstall_reach : (s.dropInstall st).reach = s.reach := rfl
@[simp] theorem State.dropInstall_cells : (s.dropInstall st).cells = s.cells := rfl
@[simp] theorem State.dropInstall_tallies : (s.dropInstall st).tallies = s.tallies := rfl
@[simp] theorem State.dropInstall_waiting : (s.dropInstall st).waiting = s.waiting := rfl
@[simp] theorem State.dropInstall_lanes : (s.dropInstall st).lanes = s.lanes := rfl
@[simp] theorem State.dropInstall_survey : (s.dropInstall st).survey = s.survey := rfl
@[simp] theorem State.dropInstall_enf : (s.dropInstall st).enf = s.enf := rfl
@[simp] theorem State.dropInstall_refill : (s.dropInstall st).refill = s.refill := rfl
@[simp] theorem State.dropInstall_lock : (s.dropInstall st).lock = s.lock := rfl
@[simp] theorem State.dropInstall_fence : (s.dropInstall st).fence = s.fence := rfl
@[simp] theorem State.dropInstall_active : (s.dropInstall st).active = s.active := rfl
@[simp] theorem State.dropInstall_accepted : (s.dropInstall st).accepted = s.accepted := rfl
end

section
variable (s : State)
@[simp] theorem State.abandon_pending : s.abandon.pending = s.pending := by unfold State.abandon; split <;> rfl
@[simp] theorem State.abandon_resetAsserted : s.abandon.resetAsserted = s.resetAsserted := by unfold State.abandon; split <;> rfl
@[simp] theorem State.abandon_ready : s.abandon.ready = s.ready := by unfold State.abandon; split <;> rfl
@[simp] theorem State.abandon_rfreq : s.abandon.rfreq = s.rfreq := by unfold State.abandon; split <;> rfl
@[simp] theorem State.abandon_memBefore : s.abandon.memBefore = s.memBefore := by unfold State.abandon; split <;> rfl
@[simp] theorem State.abandon_feeds : s.abandon.feeds = s.feeds := by unfold State.abandon; split <;> rfl
@[simp] theorem State.abandon_reach : s.abandon.reach = s.reach := by unfold State.abandon; split <;> rfl
@[simp] theorem State.abandon_cells : s.abandon.cells = s.cells := by unfold State.abandon; split <;> rfl
@[simp] theorem State.abandon_tallies : s.abandon.tallies = s.tallies := by unfold State.abandon; split <;> rfl
@[simp] theorem State.abandon_waiting : s.abandon.waiting = s.waiting := by unfold State.abandon; split <;> rfl
@[simp] theorem State.abandon_lanes : s.abandon.lanes = s.lanes := by unfold State.abandon; split <;> rfl
@[simp] theorem State.abandon_survey : s.abandon.survey = s.survey := by unfold State.abandon; split <;> rfl
@[simp] theorem State.abandon_enf : s.abandon.enf = s.enf := by unfold State.abandon; split <;> rfl
@[simp] theorem State.abandon_refill : s.abandon.refill = s.refill := by unfold State.abandon; split <;> rfl
@[simp] theorem State.abandon_lock : s.abandon.lock = s.lock := by unfold State.abandon; split <;> rfl
@[simp] theorem State.abandon_fence : s.abandon.fence = s.fence := by unfold State.abandon; split <;> rfl
@[simp] theorem State.abandon_active : s.abandon.active = s.active := by unfold State.abandon; split <;> rfl
@[simp] theorem State.abandon_accepted : s.abandon.accepted = s.accepted := by unfold State.abandon; split <;> rfl
end

section
variable (s : State)
@[simp] theorem State.captureView_pending : s.captureView.pending = s.pending := by simp [State.captureView]
@[simp] theorem State.captureView_resetAsserted : s.captureView.resetAsserted = s.resetAsserted := by simp [State.captureView]
@[simp] theorem State.captureView_ready : s.captureView.ready = s.ready := by simp [State.captureView]
@[simp] theorem State.captureView_rfreq : s.captureView.rfreq = s.rfreq := by simp [State.captureView]
@[simp] theorem State.captureView_memBefore : s.captureView.memBefore = s.memBefore := by simp [State.captureView]
@[simp] theorem State.captureView_ports : s.captureView.ports = s.ports := by simp [State.captureView]
@[simp] theorem State.captureView_feeds : s.captureView.feeds = s.feeds := by simp [State.captureView]
@[simp] theorem State.captureView_reach : s.captureView.reach = s.reach := by simp [State.captureView]
@[simp] theorem State.captureView_cells : s.captureView.cells = s.cells := by simp [State.captureView]
@[simp] theorem State.captureView_tallies : s.captureView.tallies = s.tallies := by simp [State.captureView]
@[simp] theorem State.captureView_waiting : s.captureView.waiting = s.waiting := by simp [State.captureView]
@[simp] theorem State.captureView_lanes : s.captureView.lanes = s.lanes := by simp [State.captureView]
@[simp] theorem State.captureView_survey : s.captureView.survey = s.survey := by simp [State.captureView]
@[simp] theorem State.captureView_enf : s.captureView.enf = s.enf := by simp [State.captureView]
@[simp] theorem State.captureView_refill : s.captureView.refill = s.refill := by simp [State.captureView]
@[simp] theorem State.captureView_lock : s.captureView.lock = s.lock := by simp [State.captureView]
@[simp] theorem State.captureView_fence : s.captureView.fence = s.fence := by simp [State.captureView]
@[simp] theorem State.captureView_install : s.captureView.install = s.install := by simp [State.captureView]
@[simp] theorem State.captureView_active : s.captureView.active = s.active := by simp [State.captureView]
@[simp] theorem State.captureView_accepted : s.captureView.accepted = s.accepted := by simp [State.captureView]
end

section
variable (s : State)
@[simp] theorem State.writeSurveyRecord_pending : s.writeSurveyRecord.pending = s.pending := by simp [State.writeSurveyRecord]
@[simp] theorem State.writeSurveyRecord_resetAsserted : s.writeSurveyRecord.resetAsserted = s.resetAsserted := by simp [State.writeSurveyRecord]
@[simp] theorem State.writeSurveyRecord_ready : s.writeSurveyRecord.ready = s.ready := by simp [State.writeSurveyRecord]
@[simp] theorem State.writeSurveyRecord_rfreq : s.writeSurveyRecord.rfreq = s.rfreq := by simp [State.writeSurveyRecord]
@[simp] theorem State.writeSurveyRecord_memBefore : s.writeSurveyRecord.memBefore = s.memBefore := by simp [State.writeSurveyRecord]
@[simp] theorem State.writeSurveyRecord_ports : s.writeSurveyRecord.ports = s.ports := by simp [State.writeSurveyRecord]
@[simp] theorem State.writeSurveyRecord_feeds : s.writeSurveyRecord.feeds = s.feeds := by simp [State.writeSurveyRecord]
@[simp] theorem State.writeSurveyRecord_reach : s.writeSurveyRecord.reach = s.reach := by simp [State.writeSurveyRecord]
@[simp] theorem State.writeSurveyRecord_cells : s.writeSurveyRecord.cells = s.cells := by simp [State.writeSurveyRecord]
@[simp] theorem State.writeSurveyRecord_tallies : s.writeSurveyRecord.tallies = s.tallies := by simp [State.writeSurveyRecord]
@[simp] theorem State.writeSurveyRecord_waiting : s.writeSurveyRecord.waiting = s.waiting := by simp [State.writeSurveyRecord]
@[simp] theorem State.writeSurveyRecord_lanes : s.writeSurveyRecord.lanes = s.lanes := by simp [State.writeSurveyRecord]
@[simp] theorem State.writeSurveyRecord_survey : s.writeSurveyRecord.survey = s.survey := by simp [State.writeSurveyRecord]
@[simp] theorem State.writeSurveyRecord_enf : s.writeSurveyRecord.enf = s.enf := by simp [State.writeSurveyRecord]
@[simp] theorem State.writeSurveyRecord_refill : s.writeSurveyRecord.refill = s.refill := by simp [State.writeSurveyRecord]
@[simp] theorem State.writeSurveyRecord_lock : s.writeSurveyRecord.lock = s.lock := by simp [State.writeSurveyRecord]
@[simp] theorem State.writeSurveyRecord_fence : s.writeSurveyRecord.fence = s.fence := by simp [State.writeSurveyRecord]
@[simp] theorem State.writeSurveyRecord_install : s.writeSurveyRecord.install = s.install := by simp [State.writeSurveyRecord]
@[simp] theorem State.writeSurveyRecord_active : s.writeSurveyRecord.active = s.active := by simp [State.writeSurveyRecord]
@[simp] theorem State.writeSurveyRecord_accepted : s.writeSurveyRecord.accepted = s.accepted := by simp [State.writeSurveyRecord]
end

section
variable (s : State)
@[simp] theorem State.endGrantPhase_pending : s.endGrantPhase.pending = s.pending := by simp [State.endGrantPhase]
@[simp] theorem State.endGrantPhase_resetAsserted : s.endGrantPhase.resetAsserted = s.resetAsserted := by simp [State.endGrantPhase]
@[simp] theorem State.endGrantPhase_ready : s.endGrantPhase.ready = s.ready := by simp [State.endGrantPhase]
@[simp] theorem State.endGrantPhase_rfreq : s.endGrantPhase.rfreq = s.rfreq := by simp [State.endGrantPhase]
@[simp] theorem State.endGrantPhase_memBefore : s.endGrantPhase.memBefore = s.memBefore := by simp [State.endGrantPhase]
@[simp] theorem State.endGrantPhase_ports : s.endGrantPhase.ports = s.ports := by simp [State.endGrantPhase]
@[simp] theorem State.endGrantPhase_feeds : s.endGrantPhase.feeds = s.feeds := by simp [State.endGrantPhase]
@[simp] theorem State.endGrantPhase_reach : s.endGrantPhase.reach = s.reach := by simp [State.endGrantPhase]
@[simp] theorem State.endGrantPhase_cells : s.endGrantPhase.cells = s.cells := by simp [State.endGrantPhase]
@[simp] theorem State.endGrantPhase_tallies : s.endGrantPhase.tallies = s.tallies := by simp [State.endGrantPhase]
@[simp] theorem State.endGrantPhase_waiting : s.endGrantPhase.waiting = s.waiting := by simp [State.endGrantPhase]
@[simp] theorem State.endGrantPhase_lanes : s.endGrantPhase.lanes = s.lanes := by simp [State.endGrantPhase]
@[simp] theorem State.endGrantPhase_enf : s.endGrantPhase.enf = s.enf := by simp [State.endGrantPhase]
@[simp] theorem State.endGrantPhase_refill : s.endGrantPhase.refill = s.refill := by simp [State.endGrantPhase]
@[simp] theorem State.endGrantPhase_lock : s.endGrantPhase.lock = s.lock := by simp [State.endGrantPhase]
@[simp] theorem State.endGrantPhase_fence : s.endGrantPhase.fence = s.fence := by simp [State.endGrantPhase]
@[simp] theorem State.endGrantPhase_install : s.endGrantPhase.install = s.install := by simp [State.endGrantPhase]
@[simp] theorem State.endGrantPhase_active : s.endGrantPhase.active = s.active := by simp [State.endGrantPhase]
@[simp] theorem State.endGrantPhase_accepted : s.endGrantPhase.accepted = s.accepted := by simp [State.endGrantPhase]
end

section
variable (s : State) (p : Port) (tag : Byte) (c : ServiceCommand)
@[simp] theorem State.accept_pending : (s.accept p tag c).pending = s.pending := rfl
@[simp] theorem State.accept_resetAsserted : (s.accept p tag c).resetAsserted = s.resetAsserted := rfl
@[simp] theorem State.accept_ready : (s.accept p tag c).ready = s.ready := rfl
@[simp] theorem State.accept_rfreq : (s.accept p tag c).rfreq = s.rfreq := rfl
@[simp] theorem State.accept_mem : (s.accept p tag c).mem = s.mem := rfl
@[simp] theorem State.accept_memBefore : (s.accept p tag c).memBefore = s.memBefore := rfl
@[simp] theorem State.accept_ports : (s.accept p tag c).ports = s.ports := rfl
@[simp] theorem State.accept_feeds : (s.accept p tag c).feeds = s.feeds := rfl
@[simp] theorem State.accept_reach : (s.accept p tag c).reach = s.reach := rfl
@[simp] theorem State.accept_cells : (s.accept p tag c).cells = s.cells := rfl
@[simp] theorem State.accept_tallies : (s.accept p tag c).tallies = s.tallies := rfl
@[simp] theorem State.accept_waiting : (s.accept p tag c).waiting = s.waiting := rfl
@[simp] theorem State.accept_lanes : (s.accept p tag c).lanes = s.lanes := rfl
@[simp] theorem State.accept_survey : (s.accept p tag c).survey = s.survey := rfl
@[simp] theorem State.accept_enf : (s.accept p tag c).enf = s.enf := rfl
@[simp] theorem State.accept_refill : (s.accept p tag c).refill = s.refill := rfl
@[simp] theorem State.accept_lock : (s.accept p tag c).lock = s.lock := rfl
@[simp] theorem State.accept_fence : (s.accept p tag c).fence = s.fence := rfl
@[simp] theorem State.accept_install : (s.accept p tag c).install = s.install := rfl
@[simp] theorem State.accept_active : (s.accept p tag c).active = s.active := rfl
end

section
variable (s : State) (arm : Arm) (m : ArmFields)
@[simp] theorem State.enterLost_pending : (s.enterLost arm m).pending = s.pending := by unfold State.enterLost; split <;> simp
@[simp] theorem State.enterLost_resetAsserted : (s.enterLost arm m).resetAsserted = s.resetAsserted := by unfold State.enterLost; split <;> simp
@[simp] theorem State.enterLost_ready : (s.enterLost arm m).ready = s.ready := by unfold State.enterLost; split <;> simp
@[simp] theorem State.enterLost_rfreq : (s.enterLost arm m).rfreq = s.rfreq := by unfold State.enterLost; split <;> simp
@[simp] theorem State.enterLost_memBefore : (s.enterLost arm m).memBefore = s.memBefore := by unfold State.enterLost; split <;> simp
@[simp] theorem State.enterLost_reach : (s.enterLost arm m).reach = s.reach := by unfold State.enterLost; split <;> simp
@[simp] theorem State.enterLost_cells : (s.enterLost arm m).cells = s.cells := by unfold State.enterLost; split <;> simp
@[simp] theorem State.enterLost_tallies : (s.enterLost arm m).tallies = s.tallies := by unfold State.enterLost; split <;> simp
@[simp] theorem State.enterLost_waiting : (s.enterLost arm m).waiting = s.waiting := by unfold State.enterLost; split <;> simp
@[simp] theorem State.enterLost_lanes : (s.enterLost arm m).lanes = s.lanes := by unfold State.enterLost; split <;> simp
@[simp] theorem State.enterLost_survey : (s.enterLost arm m).survey = s.survey := by unfold State.enterLost; split <;> simp
@[simp] theorem State.enterLost_refill : (s.enterLost arm m).refill = s.refill := by unfold State.enterLost; split <;> simp
@[simp] theorem State.enterLost_lock : (s.enterLost arm m).lock = s.lock := by unfold State.enterLost; split <;> simp
@[simp] theorem State.enterLost_fence : (s.enterLost arm m).fence = s.fence := by unfold State.enterLost; split <;> simp
@[simp] theorem State.enterLost_install : (s.enterLost arm m).install = s.install := by unfold State.enterLost; split <;> simp
@[simp] theorem State.enterLost_active : (s.enterLost arm m).active = s.active := by unfold State.enterLost; split <;> simp
@[simp] theorem State.enterLost_accepted : (s.enterLost arm m).accepted = s.accepted := by unfold State.enterLost; split <;> simp
end

section
variable (s : State) (arm : Arm) (m : ArmFields)
@[simp] theorem State.fault_pending : (s.fault arm m).pending = s.pending := by unfold State.fault; (repeat' split) <;> (try dsimp only) <;> (repeat' split) <;> simp
@[simp] theorem State.fault_resetAsserted : (s.fault arm m).resetAsserted = s.resetAsserted := by unfold State.fault; (repeat' split) <;> (try dsimp only) <;> (repeat' split) <;> simp
@[simp] theorem State.fault_ready : (s.fault arm m).ready = s.ready := by unfold State.fault; (repeat' split) <;> (try dsimp only) <;> (repeat' split) <;> simp
@[simp] theorem State.fault_rfreq : (s.fault arm m).rfreq = s.rfreq := by unfold State.fault; (repeat' split) <;> (try dsimp only) <;> (repeat' split) <;> simp
@[simp] theorem State.fault_memBefore : (s.fault arm m).memBefore = s.memBefore := by unfold State.fault; (repeat' split) <;> (try dsimp only) <;> (repeat' split) <;> simp
@[simp] theorem State.fault_reach : (s.fault arm m).reach = s.reach := by unfold State.fault; (repeat' split) <;> (try dsimp only) <;> (repeat' split) <;> simp
@[simp] theorem State.fault_cells : (s.fault arm m).cells = s.cells := by unfold State.fault; (repeat' split) <;> (try dsimp only) <;> (repeat' split) <;> simp
@[simp] theorem State.fault_tallies : (s.fault arm m).tallies = s.tallies := by unfold State.fault; (repeat' split) <;> (try dsimp only) <;> (repeat' split) <;> simp
@[simp] theorem State.fault_waiting : (s.fault arm m).waiting = s.waiting := by unfold State.fault; (repeat' split) <;> (try dsimp only) <;> (repeat' split) <;> simp
@[simp] theorem State.fault_lanes : (s.fault arm m).lanes = s.lanes := by unfold State.fault; (repeat' split) <;> (try dsimp only) <;> (repeat' split) <;> simp
@[simp] theorem State.fault_survey : (s.fault arm m).survey = s.survey := by unfold State.fault; (repeat' split) <;> (try dsimp only) <;> (repeat' split) <;> simp
@[simp] theorem State.fault_refill : (s.fault arm m).refill = s.refill := by unfold State.fault; (repeat' split) <;> (try dsimp only) <;> (repeat' split) <;> simp
@[simp] theorem State.fault_lock : (s.fault arm m).lock = s.lock := by unfold State.fault; (repeat' split) <;> (try dsimp only) <;> (repeat' split) <;> simp
@[simp] theorem State.fault_fence : (s.fault arm m).fence = s.fence := by unfold State.fault; (repeat' split) <;> (try dsimp only) <;> (repeat' split) <;> simp
@[simp] theorem State.fault_install : (s.fault arm m).install = s.install := by unfold State.fault; (repeat' split) <;> (try dsimp only) <;> (repeat' split) <;> simp
@[simp] theorem State.fault_active : (s.fault arm m).active = s.active := by unfold State.fault; (repeat' split) <;> (try dsimp only) <;> (repeat' split) <;> simp
@[simp] theorem State.fault_accepted : (s.fault arm m).accepted = s.accepted := by unfold State.fault; (repeat' split) <;> (try dsimp only) <;> (repeat' split) <;> simp
end

section
variable (s : State) (arm : Arm) (m : ArmFields)
@[simp] theorem State.takeBad_pending : (s.takeBad arm m).pending = s.pending := by simp [State.takeBad]
@[simp] theorem State.takeBad_resetAsserted : (s.takeBad arm m).resetAsserted = s.resetAsserted := by simp [State.takeBad]
@[simp] theorem State.takeBad_ready : (s.takeBad arm m).ready = s.ready := by simp [State.takeBad]
@[simp] theorem State.takeBad_rfreq : (s.takeBad arm m).rfreq = s.rfreq := by simp [State.takeBad]
@[simp] theorem State.takeBad_memBefore : (s.takeBad arm m).memBefore = s.memBefore := by simp [State.takeBad]
@[simp] theorem State.takeBad_reach : (s.takeBad arm m).reach = s.reach := by simp [State.takeBad]
@[simp] theorem State.takeBad_cells : (s.takeBad arm m).cells = s.cells := by simp [State.takeBad]
@[simp] theorem State.takeBad_tallies : (s.takeBad arm m).tallies = s.tallies := by simp [State.takeBad]
@[simp] theorem State.takeBad_waiting : (s.takeBad arm m).waiting = s.waiting := by simp [State.takeBad]
@[simp] theorem State.takeBad_lanes : (s.takeBad arm m).lanes = s.lanes := by simp [State.takeBad]
@[simp] theorem State.takeBad_survey : (s.takeBad arm m).survey = s.survey := by simp [State.takeBad]
@[simp] theorem State.takeBad_refill : (s.takeBad arm m).refill = s.refill := by simp [State.takeBad]
@[simp] theorem State.takeBad_lock : (s.takeBad arm m).lock = s.lock := by simp [State.takeBad]
@[simp] theorem State.takeBad_fence : (s.takeBad arm m).fence = s.fence := by simp [State.takeBad]
@[simp] theorem State.takeBad_install : (s.takeBad arm m).install = s.install := by simp [State.takeBad]
@[simp] theorem State.takeBad_active : (s.takeBad arm m).active = s.active := by simp [State.takeBad]
@[simp] theorem State.takeBad_accepted : (s.takeBad arm m).accepted = s.accepted := by simp [State.takeBad]
end

section
variable (s : State) (arm : Arm)
@[simp] theorem State.takeDuplicate_pending : (s.takeDuplicate arm).pending = s.pending := rfl
@[simp] theorem State.takeDuplicate_resetAsserted : (s.takeDuplicate arm).resetAsserted = s.resetAsserted := rfl
@[simp] theorem State.takeDuplicate_ready : (s.takeDuplicate arm).ready = s.ready := rfl
@[simp] theorem State.takeDuplicate_rfreq : (s.takeDuplicate arm).rfreq = s.rfreq := rfl
@[simp] theorem State.takeDuplicate_mem : (s.takeDuplicate arm).mem = s.mem := rfl
@[simp] theorem State.takeDuplicate_memBefore : (s.takeDuplicate arm).memBefore = s.memBefore := rfl
@[simp] theorem State.takeDuplicate_ports : (s.takeDuplicate arm).ports = s.ports := rfl
@[simp] theorem State.takeDuplicate_reach : (s.takeDuplicate arm).reach = s.reach := rfl
@[simp] theorem State.takeDuplicate_cells : (s.takeDuplicate arm).cells = s.cells := rfl
@[simp] theorem State.takeDuplicate_tallies : (s.takeDuplicate arm).tallies = s.tallies := rfl
@[simp] theorem State.takeDuplicate_waiting : (s.takeDuplicate arm).waiting = s.waiting := rfl
@[simp] theorem State.takeDuplicate_lanes : (s.takeDuplicate arm).lanes = s.lanes := rfl
@[simp] theorem State.takeDuplicate_survey : (s.takeDuplicate arm).survey = s.survey := rfl
@[simp] theorem State.takeDuplicate_enf : (s.takeDuplicate arm).enf = s.enf := rfl
@[simp] theorem State.takeDuplicate_refill : (s.takeDuplicate arm).refill = s.refill := rfl
@[simp] theorem State.takeDuplicate_lock : (s.takeDuplicate arm).lock = s.lock := rfl
@[simp] theorem State.takeDuplicate_fence : (s.takeDuplicate arm).fence = s.fence := rfl
@[simp] theorem State.takeDuplicate_install : (s.takeDuplicate arm).install = s.install := rfl
@[simp] theorem State.takeDuplicate_active : (s.takeDuplicate arm).active = s.active := rfl
@[simp] theorem State.takeDuplicate_accepted : (s.takeDuplicate arm).accepted = s.accepted := rfl
end

section
variable (s : State) (arm : Arm) (bs : List Byte) (gap : Option Nat)
@[simp] theorem State.hold_pending : (s.hold arm bs gap).pending = s.pending := by unfold State.hold; split <;> simp
@[simp] theorem State.hold_resetAsserted : (s.hold arm bs gap).resetAsserted = s.resetAsserted := by unfold State.hold; split <;> simp
@[simp] theorem State.hold_ready : (s.hold arm bs gap).ready = s.ready := by unfold State.hold; split <;> simp
@[simp] theorem State.hold_rfreq : (s.hold arm bs gap).rfreq = s.rfreq := by unfold State.hold; split <;> simp
@[simp] theorem State.hold_mem : (s.hold arm bs gap).mem = s.mem := by unfold State.hold; split <;> simp
@[simp] theorem State.hold_memBefore : (s.hold arm bs gap).memBefore = s.memBefore := by unfold State.hold; split <;> simp
@[simp] theorem State.hold_ports : (s.hold arm bs gap).ports = s.ports := by unfold State.hold; split <;> simp
@[simp] theorem State.hold_reach : (s.hold arm bs gap).reach = s.reach := by unfold State.hold; split <;> simp
@[simp] theorem State.hold_cells : (s.hold arm bs gap).cells = s.cells := by unfold State.hold; split <;> simp
@[simp] theorem State.hold_tallies : (s.hold arm bs gap).tallies = s.tallies := by unfold State.hold; split <;> simp
@[simp] theorem State.hold_lanes : (s.hold arm bs gap).lanes = s.lanes := by unfold State.hold; split <;> simp
@[simp] theorem State.hold_survey : (s.hold arm bs gap).survey = s.survey := by unfold State.hold; split <;> simp
@[simp] theorem State.hold_enf : (s.hold arm bs gap).enf = s.enf := by unfold State.hold; split <;> simp
@[simp] theorem State.hold_refill : (s.hold arm bs gap).refill = s.refill := by unfold State.hold; split <;> simp
@[simp] theorem State.hold_lock : (s.hold arm bs gap).lock = s.lock := by unfold State.hold; split <;> simp
@[simp] theorem State.hold_fence : (s.hold arm bs gap).fence = s.fence := by unfold State.hold; split <;> simp
@[simp] theorem State.hold_install : (s.hold arm bs gap).install = s.install := by unfold State.hold; split <;> simp
@[simp] theorem State.hold_active : (s.hold arm bs gap).active = s.active := by unfold State.hold; split <;> simp
@[simp] theorem State.hold_accepted : (s.hold arm bs gap).accepted = s.accepted := by unfold State.hold; split <;> simp
end

section
variable (s : State) (arm : Arm) (m : ArmFields)
@[simp] theorem State.goodRunStep_pending : (s.goodRunStep arm m).pending = s.pending := by unfold State.goodRunStep; (repeat' split) <;> (try dsimp only) <;> (repeat' split) <;> simp
@[simp] theorem State.goodRunStep_resetAsserted : (s.goodRunStep arm m).resetAsserted = s.resetAsserted := by unfold State.goodRunStep; (repeat' split) <;> (try dsimp only) <;> (repeat' split) <;> simp
@[simp] theorem State.goodRunStep_ready : (s.goodRunStep arm m).ready = s.ready := by unfold State.goodRunStep; (repeat' split) <;> (try dsimp only) <;> (repeat' split) <;> simp
@[simp] theorem State.goodRunStep_rfreq : (s.goodRunStep arm m).rfreq = s.rfreq := by unfold State.goodRunStep; (repeat' split) <;> (try dsimp only) <;> (repeat' split) <;> simp
@[simp] theorem State.goodRunStep_memBefore : (s.goodRunStep arm m).memBefore = s.memBefore := by unfold State.goodRunStep; (repeat' split) <;> (try dsimp only) <;> (repeat' split) <;> simp
@[simp] theorem State.goodRunStep_cells : (s.goodRunStep arm m).cells = s.cells := by unfold State.goodRunStep; (repeat' split) <;> (try dsimp only) <;> (repeat' split) <;> simp
@[simp] theorem State.goodRunStep_tallies : (s.goodRunStep arm m).tallies = s.tallies := by unfold State.goodRunStep; (repeat' split) <;> (try dsimp only) <;> (repeat' split) <;> simp
@[simp] theorem State.goodRunStep_waiting : (s.goodRunStep arm m).waiting = s.waiting := by unfold State.goodRunStep; (repeat' split) <;> (try dsimp only) <;> (repeat' split) <;> simp
@[simp] theorem State.goodRunStep_lanes : (s.goodRunStep arm m).lanes = s.lanes := by unfold State.goodRunStep; (repeat' split) <;> (try dsimp only) <;> (repeat' split) <;> simp
@[simp] theorem State.goodRunStep_survey : (s.goodRunStep arm m).survey = s.survey := by unfold State.goodRunStep; (repeat' split) <;> (try dsimp only) <;> (repeat' split) <;> simp
@[simp] theorem State.goodRunStep_refill : (s.goodRunStep arm m).refill = s.refill := by unfold State.goodRunStep; (repeat' split) <;> (try dsimp only) <;> (repeat' split) <;> simp
@[simp] theorem State.goodRunStep_lock : (s.goodRunStep arm m).lock = s.lock := by unfold State.goodRunStep; (repeat' split) <;> (try dsimp only) <;> (repeat' split) <;> simp
@[simp] theorem State.goodRunStep_fence : (s.goodRunStep arm m).fence = s.fence := by unfold State.goodRunStep; (repeat' split) <;> (try dsimp only) <;> (repeat' split) <;> simp
@[simp] theorem State.goodRunStep_install : (s.goodRunStep arm m).install = s.install := by unfold State.goodRunStep; (repeat' split) <;> (try dsimp only) <;> (repeat' split) <;> simp
@[simp] theorem State.goodRunStep_active : (s.goodRunStep arm m).active = s.active := by unfold State.goodRunStep; (repeat' split) <;> (try dsimp only) <;> (repeat' split) <;> simp
@[simp] theorem State.goodRunStep_accepted : (s.goodRunStep arm m).accepted = s.accepted := by unfold State.goodRunStep; (repeat' split) <;> (try dsimp only) <;> (repeat' split) <;> simp
end

section
variable (s : State) (arm : Arm) (m : ArmFields) (bs : List Byte)
@[simp] theorem State.takeGood_pending : (s.takeGood arm m bs).pending = s.pending := by simp [State.takeGood]
@[simp] theorem State.takeGood_resetAsserted : (s.takeGood arm m bs).resetAsserted = s.resetAsserted := by simp [State.takeGood]
@[simp] theorem State.takeGood_ready : (s.takeGood arm m bs).ready = s.ready := by simp [State.takeGood]
@[simp] theorem State.takeGood_rfreq : (s.takeGood arm m bs).rfreq = s.rfreq := by simp [State.takeGood]
@[simp] theorem State.takeGood_memBefore : (s.takeGood arm m bs).memBefore = s.memBefore := by simp [State.takeGood]
@[simp] theorem State.takeGood_cells : (s.takeGood arm m bs).cells = s.cells := by simp [State.takeGood]
@[simp] theorem State.takeGood_tallies : (s.takeGood arm m bs).tallies = s.tallies := by simp [State.takeGood]
@[simp] theorem State.takeGood_lanes : (s.takeGood arm m bs).lanes = s.lanes := by simp [State.takeGood]
@[simp] theorem State.takeGood_survey : (s.takeGood arm m bs).survey = s.survey := by simp [State.takeGood]
@[simp] theorem State.takeGood_refill : (s.takeGood arm m bs).refill = s.refill := by simp [State.takeGood]
@[simp] theorem State.takeGood_lock : (s.takeGood arm m bs).lock = s.lock := by simp [State.takeGood]
@[simp] theorem State.takeGood_fence : (s.takeGood arm m bs).fence = s.fence := by simp [State.takeGood]
@[simp] theorem State.takeGood_install : (s.takeGood arm m bs).install = s.install := by simp [State.takeGood]
@[simp] theorem State.takeGood_active : (s.takeGood arm m bs).active = s.active := by simp [State.takeGood]
@[simp] theorem State.takeGood_accepted : (s.takeGood arm m bs).accepted = s.accepted := by simp [State.takeGood]
end

section
variable (s : State) (arm : Arm) (chars : List LineChar)
@[simp] theorem State.frameComplete_pending : (s.frameComplete arm chars).pending = s.pending := by unfold State.frameComplete; (repeat' split) <;> (try dsimp only) <;> (repeat' split) <;> simp
@[simp] theorem State.frameComplete_resetAsserted : (s.frameComplete arm chars).resetAsserted = s.resetAsserted := by unfold State.frameComplete; (repeat' split) <;> (try dsimp only) <;> (repeat' split) <;> simp
@[simp] theorem State.frameComplete_ready : (s.frameComplete arm chars).ready = s.ready := by unfold State.frameComplete; (repeat' split) <;> (try dsimp only) <;> (repeat' split) <;> simp
@[simp] theorem State.frameComplete_rfreq : (s.frameComplete arm chars).rfreq = s.rfreq := by unfold State.frameComplete; (repeat' split) <;> (try dsimp only) <;> (repeat' split) <;> simp
@[simp] theorem State.frameComplete_memBefore : (s.frameComplete arm chars).memBefore = s.memBefore := by unfold State.frameComplete; (repeat' split) <;> (try dsimp only) <;> (repeat' split) <;> simp
@[simp] theorem State.frameComplete_cells : (s.frameComplete arm chars).cells = s.cells := by unfold State.frameComplete; (repeat' split) <;> (try dsimp only) <;> (repeat' split) <;> simp
@[simp] theorem State.frameComplete_tallies : (s.frameComplete arm chars).tallies = s.tallies := by unfold State.frameComplete; (repeat' split) <;> (try dsimp only) <;> (repeat' split) <;> simp
@[simp] theorem State.frameComplete_lanes : (s.frameComplete arm chars).lanes = s.lanes := by unfold State.frameComplete; (repeat' split) <;> (try dsimp only) <;> (repeat' split) <;> simp
@[simp] theorem State.frameComplete_survey : (s.frameComplete arm chars).survey = s.survey := by unfold State.frameComplete; (repeat' split) <;> (try dsimp only) <;> (repeat' split) <;> simp
@[simp] theorem State.frameComplete_refill : (s.frameComplete arm chars).refill = s.refill := by unfold State.frameComplete; (repeat' split) <;> (try dsimp only) <;> (repeat' split) <;> simp
@[simp] theorem State.frameComplete_lock : (s.frameComplete arm chars).lock = s.lock := by unfold State.frameComplete; (repeat' split) <;> (try dsimp only) <;> (repeat' split) <;> simp
@[simp] theorem State.frameComplete_fence : (s.frameComplete arm chars).fence = s.fence := by unfold State.frameComplete; (repeat' split) <;> (try dsimp only) <;> (repeat' split) <;> simp
@[simp] theorem State.frameComplete_install : (s.frameComplete arm chars).install = s.install := by unfold State.frameComplete; (repeat' split) <;> (try dsimp only) <;> (repeat' split) <;> simp
@[simp] theorem State.frameComplete_active : (s.frameComplete arm chars).active = s.active := by unfold State.frameComplete; (repeat' split) <;> (try dsimp only) <;> (repeat' split) <;> simp
@[simp] theorem State.frameComplete_accepted : (s.frameComplete arm chars).accepted = s.accepted := by unfold State.frameComplete; (repeat' split) <;> (try dsimp only) <;> (repeat' split) <;> simp
end

section
variable (s : State) (arm : Arm)
@[simp] theorem State.missExpiry_pending : (s.missExpiry arm).pending = s.pending := by unfold State.missExpiry; (repeat' split) <;> simp
@[simp] theorem State.missExpiry_resetAsserted : (s.missExpiry arm).resetAsserted = s.resetAsserted := by unfold State.missExpiry; (repeat' split) <;> simp
@[simp] theorem State.missExpiry_ready : (s.missExpiry arm).ready = s.ready := by unfold State.missExpiry; (repeat' split) <;> simp
@[simp] theorem State.missExpiry_rfreq : (s.missExpiry arm).rfreq = s.rfreq := by unfold State.missExpiry; (repeat' split) <;> simp
@[simp] theorem State.missExpiry_memBefore : (s.missExpiry arm).memBefore = s.memBefore := by unfold State.missExpiry; (repeat' split) <;> simp
@[simp] theorem State.missExpiry_reach : (s.missExpiry arm).reach = s.reach := by unfold State.missExpiry; (repeat' split) <;> simp
@[simp] theorem State.missExpiry_cells : (s.missExpiry arm).cells = s.cells := by unfold State.missExpiry; (repeat' split) <;> simp
@[simp] theorem State.missExpiry_tallies : (s.missExpiry arm).tallies = s.tallies := by unfold State.missExpiry; (repeat' split) <;> simp
@[simp] theorem State.missExpiry_waiting : (s.missExpiry arm).waiting = s.waiting := by unfold State.missExpiry; (repeat' split) <;> simp
@[simp] theorem State.missExpiry_lanes : (s.missExpiry arm).lanes = s.lanes := by unfold State.missExpiry; (repeat' split) <;> simp
@[simp] theorem State.missExpiry_survey : (s.missExpiry arm).survey = s.survey := by unfold State.missExpiry; (repeat' split) <;> simp
@[simp] theorem State.missExpiry_refill : (s.missExpiry arm).refill = s.refill := by unfold State.missExpiry; (repeat' split) <;> simp
@[simp] theorem State.missExpiry_lock : (s.missExpiry arm).lock = s.lock := by unfold State.missExpiry; (repeat' split) <;> simp
@[simp] theorem State.missExpiry_fence : (s.missExpiry arm).fence = s.fence := by unfold State.missExpiry; (repeat' split) <;> simp
@[simp] theorem State.missExpiry_install : (s.missExpiry arm).install = s.install := by unfold State.missExpiry; (repeat' split) <;> simp
@[simp] theorem State.missExpiry_active : (s.missExpiry arm).active = s.active := by unfold State.missExpiry; (repeat' split) <;> simp
@[simp] theorem State.missExpiry_accepted : (s.missExpiry arm).accepted = s.accepted := by unfold State.missExpiry; (repeat' split) <;> simp
end

section
variable (s : State) (arm : Arm)
@[simp] theorem State.lossGraceExpiry_pending : (s.lossGraceExpiry arm).pending = s.pending := by unfold State.lossGraceExpiry; (repeat' split) <;> (try dsimp only) <;> (repeat' split) <;> simp
@[simp] theorem State.lossGraceExpiry_resetAsserted : (s.lossGraceExpiry arm).resetAsserted = s.resetAsserted := by unfold State.lossGraceExpiry; (repeat' split) <;> (try dsimp only) <;> (repeat' split) <;> simp
@[simp] theorem State.lossGraceExpiry_ready : (s.lossGraceExpiry arm).ready = s.ready := by unfold State.lossGraceExpiry; (repeat' split) <;> (try dsimp only) <;> (repeat' split) <;> simp
@[simp] theorem State.lossGraceExpiry_rfreq : (s.lossGraceExpiry arm).rfreq = s.rfreq := by unfold State.lossGraceExpiry; (repeat' split) <;> (try dsimp only) <;> (repeat' split) <;> simp
@[simp] theorem State.lossGraceExpiry_memBefore : (s.lossGraceExpiry arm).memBefore = s.memBefore := by unfold State.lossGraceExpiry; (repeat' split) <;> (try dsimp only) <;> (repeat' split) <;> simp
@[simp] theorem State.lossGraceExpiry_reach : (s.lossGraceExpiry arm).reach = s.reach := by unfold State.lossGraceExpiry; (repeat' split) <;> (try dsimp only) <;> (repeat' split) <;> simp
@[simp] theorem State.lossGraceExpiry_cells : (s.lossGraceExpiry arm).cells = s.cells := by unfold State.lossGraceExpiry; (repeat' split) <;> (try dsimp only) <;> (repeat' split) <;> simp
@[simp] theorem State.lossGraceExpiry_tallies : (s.lossGraceExpiry arm).tallies = s.tallies := by unfold State.lossGraceExpiry; (repeat' split) <;> (try dsimp only) <;> (repeat' split) <;> simp
@[simp] theorem State.lossGraceExpiry_waiting : (s.lossGraceExpiry arm).waiting = s.waiting := by unfold State.lossGraceExpiry; (repeat' split) <;> (try dsimp only) <;> (repeat' split) <;> simp
@[simp] theorem State.lossGraceExpiry_lanes : (s.lossGraceExpiry arm).lanes = s.lanes := by unfold State.lossGraceExpiry; (repeat' split) <;> (try dsimp only) <;> (repeat' split) <;> simp
@[simp] theorem State.lossGraceExpiry_survey : (s.lossGraceExpiry arm).survey = s.survey := by unfold State.lossGraceExpiry; (repeat' split) <;> (try dsimp only) <;> (repeat' split) <;> simp
@[simp] theorem State.lossGraceExpiry_refill : (s.lossGraceExpiry arm).refill = s.refill := by unfold State.lossGraceExpiry; (repeat' split) <;> (try dsimp only) <;> (repeat' split) <;> simp
@[simp] theorem State.lossGraceExpiry_lock : (s.lossGraceExpiry arm).lock = s.lock := by unfold State.lossGraceExpiry; (repeat' split) <;> (try dsimp only) <;> (repeat' split) <;> simp
@[simp] theorem State.lossGraceExpiry_fence : (s.lossGraceExpiry arm).fence = s.fence := by unfold State.lossGraceExpiry; (repeat' split) <;> (try dsimp only) <;> (repeat' split) <;> simp
@[simp] theorem State.lossGraceExpiry_install : (s.lossGraceExpiry arm).install = s.install := by unfold State.lossGraceExpiry; (repeat' split) <;> (try dsimp only) <;> (repeat' split) <;> simp
@[simp] theorem State.lossGraceExpiry_active : (s.lossGraceExpiry arm).active = s.active := by unfold State.lossGraceExpiry; (repeat' split) <;> (try dsimp only) <;> (repeat' split) <;> simp
@[simp] theorem State.lossGraceExpiry_accepted : (s.lossGraceExpiry arm).accepted = s.accepted := by unfold State.lossGraceExpiry; (repeat' split) <;> (try dsimp only) <;> (repeat' split) <;> simp
end

section
variable (s : State) (e : Event)
@[simp] theorem State.arrive_pending : (s.arrive e).pending = s.pending := by cases e <;> simp [State.arrive]
@[simp] theorem State.arrive_resetAsserted : (s.arrive e).resetAsserted = s.resetAsserted := by cases e <;> simp [State.arrive]
@[simp] theorem State.arrive_ready : (s.arrive e).ready = s.ready := by cases e <;> simp [State.arrive]
@[simp] theorem State.arrive_rfreq : (s.arrive e).rfreq = s.rfreq := by cases e <;> simp [State.arrive]
@[simp] theorem State.arrive_memBefore : (s.arrive e).memBefore = s.memBefore := by cases e <;> simp [State.arrive]
@[simp] theorem State.arrive_cells : (s.arrive e).cells = s.cells := by cases e <;> simp [State.arrive]
@[simp] theorem State.arrive_tallies : (s.arrive e).tallies = s.tallies := by cases e <;> simp [State.arrive]
@[simp] theorem State.arrive_lanes : (s.arrive e).lanes = s.lanes := by cases e <;> simp [State.arrive]
@[simp] theorem State.arrive_survey : (s.arrive e).survey = s.survey := by cases e <;> simp [State.arrive]
@[simp] theorem State.arrive_refill : (s.arrive e).refill = s.refill := by cases e <;> simp [State.arrive]
@[simp] theorem State.arrive_fence : (s.arrive e).fence = s.fence := by cases e <;> simp [State.arrive]
@[simp] theorem State.arrive_install : (s.arrive e).install = s.install := by cases e <;> simp [State.arrive]
@[simp] theorem State.arrive_active : (s.arrive e).active = s.active := by cases e <;> simp [State.arrive]
@[simp] theorem State.arrive_accepted : (s.arrive e).accepted = s.accepted := by cases e <;> simp [State.arrive]
end

section
variable (s : State) (arm : Arm)
@[simp] theorem State.swapFeed_pending : (s.swapFeed arm).pending = s.pending := by simp [State.swapFeed]
@[simp] theorem State.swapFeed_resetAsserted : (s.swapFeed arm).resetAsserted = s.resetAsserted := by simp [State.swapFeed]
@[simp] theorem State.swapFeed_ready : (s.swapFeed arm).ready = s.ready := by simp [State.swapFeed]
@[simp] theorem State.swapFeed_rfreq : (s.swapFeed arm).rfreq = s.rfreq := by simp [State.swapFeed]
@[simp] theorem State.swapFeed_mem : (s.swapFeed arm).mem = s.mem := by simp [State.swapFeed]
@[simp] theorem State.swapFeed_memBefore : (s.swapFeed arm).memBefore = s.memBefore := by simp [State.swapFeed]
@[simp] theorem State.swapFeed_reach : (s.swapFeed arm).reach = s.reach := by simp [State.swapFeed]
@[simp] theorem State.swapFeed_cells : (s.swapFeed arm).cells = s.cells := by simp [State.swapFeed]
@[simp] theorem State.swapFeed_tallies : (s.swapFeed arm).tallies = s.tallies := by simp [State.swapFeed]
@[simp] theorem State.swapFeed_lanes : (s.swapFeed arm).lanes = s.lanes := by simp [State.swapFeed]
@[simp] theorem State.swapFeed_survey : (s.swapFeed arm).survey = s.survey := by simp [State.swapFeed]
@[simp] theorem State.swapFeed_enf : (s.swapFeed arm).enf = s.enf := by simp [State.swapFeed]
@[simp] theorem State.swapFeed_refill : (s.swapFeed arm).refill = s.refill := by simp [State.swapFeed]
@[simp] theorem State.swapFeed_lock : (s.swapFeed arm).lock = s.lock := by simp [State.swapFeed]
@[simp] theorem State.swapFeed_fence : (s.swapFeed arm).fence = s.fence := by simp [State.swapFeed]
@[simp] theorem State.swapFeed_install : (s.swapFeed arm).install = s.install := by simp [State.swapFeed]
@[simp] theorem State.swapFeed_active : (s.swapFeed arm).active = s.active := by simp [State.swapFeed]
@[simp] theorem State.swapFeed_accepted : (s.swapFeed arm).accepted = s.accepted := by simp [State.swapFeed]
end

section
variable (s : State) (arm : Arm)
@[simp] theorem State.swapCauses_pending : (s.swapCauses arm).pending = s.pending := by simp [State.swapCauses]
@[simp] theorem State.swapCauses_resetAsserted : (s.swapCauses arm).resetAsserted = s.resetAsserted := by simp [State.swapCauses]
@[simp] theorem State.swapCauses_ready : (s.swapCauses arm).ready = s.ready := by simp [State.swapCauses]
@[simp] theorem State.swapCauses_rfreq : (s.swapCauses arm).rfreq = s.rfreq := by simp [State.swapCauses]
@[simp] theorem State.swapCauses_memBefore : (s.swapCauses arm).memBefore = s.memBefore := by simp [State.swapCauses]
@[simp] theorem State.swapCauses_feeds : (s.swapCauses arm).feeds = s.feeds := by simp [State.swapCauses]
@[simp] theorem State.swapCauses_reach : (s.swapCauses arm).reach = s.reach := by simp [State.swapCauses]
@[simp] theorem State.swapCauses_cells : (s.swapCauses arm).cells = s.cells := by simp [State.swapCauses]
@[simp] theorem State.swapCauses_tallies : (s.swapCauses arm).tallies = s.tallies := by simp [State.swapCauses]
@[simp] theorem State.swapCauses_waiting : (s.swapCauses arm).waiting = s.waiting := by simp [State.swapCauses]
@[simp] theorem State.swapCauses_lanes : (s.swapCauses arm).lanes = s.lanes := by simp [State.swapCauses]
@[simp] theorem State.swapCauses_survey : (s.swapCauses arm).survey = s.survey := by simp [State.swapCauses]
@[simp] theorem State.swapCauses_refill : (s.swapCauses arm).refill = s.refill := by simp [State.swapCauses]
@[simp] theorem State.swapCauses_lock : (s.swapCauses arm).lock = s.lock := by simp [State.swapCauses]
@[simp] theorem State.swapCauses_fence : (s.swapCauses arm).fence = s.fence := by simp [State.swapCauses]
@[simp] theorem State.swapCauses_install : (s.swapCauses arm).install = s.install := by simp [State.swapCauses]
@[simp] theorem State.swapCauses_active : (s.swapCauses arm).active = s.active := by simp [State.swapCauses]
@[simp] theorem State.swapCauses_accepted : (s.swapCauses arm).accepted = s.accepted := by simp [State.swapCauses]
end

end Sys2Proof.Machine
end

