-- ==== Sys2Proof/Laws/Memory.lean ====
section
/-! SUPPORT. The exchange memory: a read after a write, and that every write keeps the canonical form. -/

namespace Sys2Proof.Machine

@[simp] theorem Memory.read_nil (a : Nat) : Memory.read [] a = 0 := rfl

theorem Memory.wfFrom_mono {m : Memory} {lo lo' : Nat} (h : lo' ≤ lo) (hw : Memory.wfFrom lo m = true) :
    Memory.wfFrom lo' m = true := by
  cases m with
  | nil => rfl
  | cons c m =>
    obtain ⟨b, w⟩ := c
    simp only [Memory.wfFrom, Bool.and_eq_true, decide_eq_true_eq] at hw ⊢
    exact ⟨⟨le_trans h hw.1.1, hw.1.2⟩, hw.2⟩

theorem Memory.read_below {m : Memory} {lo a : Nat} (hw : Memory.wfFrom lo m = true) (h : a < lo) :
    Memory.read m a = 0 := by
  induction m generalizing lo with
  | nil => rfl
  | cons c m ih =>
    obtain ⟨b, w⟩ := c
    simp only [Memory.wfFrom, Bool.and_eq_true, decide_eq_true_eq] at hw
    have hb : b ≠ a := by omega
    simp only [Memory.read, hb, if_false]
    exact ih hw.2 (by omega)

theorem Memory.wfFrom_write {m : Memory} {lo a : Nat} (v : Word) (hw : Memory.wfFrom lo m = true) (ha : lo ≤ a) :
    Memory.wfFrom lo (Memory.write m a v) = true := by
  induction m generalizing lo with
  | nil =>
    simp only [Memory.write]
    split
    · rfl
    · simp_all [Memory.wfFrom]
  | cons c m ih =>
    obtain ⟨b, w⟩ := c
    have hw' := hw
    simp only [Memory.wfFrom, Bool.and_eq_true, decide_eq_true_eq] at hw
    simp only [Memory.write]
    split
    · split
      · exact hw'
      · rename_i h1 h2
        simp only [Memory.wfFrom, Bool.and_eq_true, decide_eq_true_eq]
        exact ⟨⟨ha, h2⟩, ⟨⟨by omega, hw.1.2⟩, hw.2⟩⟩
    · split
      · split
        · exact Memory.wfFrom_mono (by omega) hw.2
        · rename_i h1 h2 h3
          simp only [Memory.wfFrom, Bool.and_eq_true, decide_eq_true_eq]
          exact ⟨⟨ha, h3⟩, Memory.wfFrom_mono (by omega) hw.2⟩
      · simp only [Memory.wfFrom, Bool.and_eq_true, decide_eq_true_eq]
        exact ⟨hw.1, ih hw.2 (by omega)⟩

/-- R171: a write keeps the canonical form. -/
@[simp] theorem Memory.wf_write {m : Memory} (a : Nat) (v : Word) (hw : m.wf = true) : (m.write a v).wf = true :=
  Memory.wfFrom_write v hw (Nat.zero_le a)

@[simp] theorem Memory.wf_writeFrom {m : Memory} (a : Nat) (vs : List Word) (hw : m.wf = true) :
    (m.writeFrom a vs).wf = true := by
  induction vs generalizing m a with
  | nil => exact hw
  | cons v vs ih => exact ih (a + 1) (Memory.wf_write a v hw)

@[simp] theorem Memory.wf_writeAll {m : Memory} (cs : List (Nat × Word)) (hw : m.wf = true) :
    (Memory.writeAll m cs).wf = true := by
  induction cs generalizing m with
  | nil => exact hw
  | cons c cs ih => exact ih (Memory.wf_write c.1 c.2 hw)

theorem Memory.wfFrom_filter {m : Memory} {lo : Nat} (p : Nat × Word → Bool) (hw : Memory.wfFrom lo m = true) :
    Memory.wfFrom lo (m.filter p) = true := by
  induction m generalizing lo with
  | nil => rfl
  | cons c m ih =>
    obtain ⟨b, w⟩ := c
    simp only [Memory.wfFrom, Bool.and_eq_true, decide_eq_true_eq] at hw
    rw [List.filter_cons]
    split
    · simp only [Memory.wfFrom, Bool.and_eq_true, decide_eq_true_eq]
      exact ⟨hw.1, ih hw.2⟩
    · exact Memory.wfFrom_mono (by omega) (ih hw.2)

/-- Dropping entries keeps the canonical form. -/
@[simp] theorem Memory.wf_filter {m : Memory} (p : Nat × Word → Bool) (hw : m.wf = true) : Memory.wf (m.filter p) = true :=
  Memory.wfFrom_filter p hw

/-- A write leaves every other word alone. -/
theorem Memory.read_write_of_ne (m : Memory) {a c : Nat} (v : Word) (h : c ≠ a) :
    (m.write a v).read c = m.read c := by
  induction m with
  | nil => simp only [Memory.write]; split <;> simp [Memory.read, h.symm, Memory.unlisted]
  | cons e m ih =>
    obtain ⟨b, w⟩ := e
    simp only [Memory.write]
    split
    · split
      · rfl
      · simp [Memory.read, h.symm]
    · split
      · rename_i h1 h2
        subst h2
        split <;> simp [Memory.read, h.symm]
      · simp [Memory.read, ih]

theorem Memory.read_writeFromWf {m : Memory} {lo a : Nat} (v : Word) (hw : Memory.wfFrom lo m = true) :
    (Memory.write m a v).read a = v := by
  induction m generalizing lo with
  | nil => simp only [Memory.write]; split <;> simp_all [Memory.read, Memory.unlisted]
  | cons e m ih =>
    obtain ⟨b, w⟩ := e
    have hw' := hw
    simp only [Memory.wfFrom, Bool.and_eq_true, decide_eq_true_eq] at hw
    simp only [Memory.write]
    split
    · rename_i h1
      split
      · rename_i h2
        rw [h2]
        have hb : b ≠ a := by omega
        simp only [Memory.read, hb, if_false]
        exact Memory.read_below hw.2 (by omega)
      · simp [Memory.read]
    · split
      · rename_i h1 h2
        subst h2
        split
        · rename_i h3
          rw [h3]
          exact Memory.read_below hw.2 (by omega)
        · simp [Memory.read]
      · rename_i h1 h2
        have hb : b ≠ a := fun h => h2 h.symm
        simp only [Memory.read, hb, if_false]
        exact ih hw.2

/-- A read after a write to the same word gives the value written. -/
@[simp] theorem Memory.read_write_same {m : Memory} (a : Nat) (v : Word) (hw : m.wf = true) :
    (m.write a v).read a = v :=
  Memory.read_writeFromWf v hw

/-- What any word reads as after a write. -/
theorem Memory.read_write {m : Memory} (a c : Nat) (v : Word) (hw : m.wf = true) :
    (m.write a v).read c = if c = a then v else m.read c := by
  split
  · rename_i h; subst h; exact Memory.read_write_same c v hw
  · rename_i h; exact Memory.read_write_of_ne m v h

/-- Writing successive words leaves every word outside them alone. -/
theorem Memory.read_writeFrom_outside (m : Memory) {a c : Nat} (vs : List Word) (h : c < a ∨ a + vs.length ≤ c) :
    (m.writeFrom a vs).read c = m.read c := by
  induction vs generalizing m a with
  | nil => rfl
  | cons v vs ih =>
    simp only [Memory.writeFrom]
    rw [ih _ (by simp at h; omega), Memory.read_write_of_ne _ _ (by simp at h; omega)]

/-- What a word among those written reads as. -/
theorem Memory.read_writeFrom_inside {m : Memory} {a k : Nat} (vs : List Word) (hw : m.wf = true) (h : k < vs.length) :
    (m.writeFrom a vs).read (a + k) = vs.getD k 0 := by
  induction vs generalizing m a k with
  | nil => simp at h
  | cons v vs ih =>
    simp only [Memory.writeFrom]
    cases k with
    | zero =>
      rw [Memory.read_writeFrom_outside _ _ (by omega)]
      simp [hw]
    | succ k =>
      have := ih (m := m.write a v) (a := a + 1) (k := k) (Memory.wf_write a v hw) (by simpa using h)
      rw [show a + (k + 1) = a + 1 + k by omega, this]
      simp

/-- A memory is rewritten by RESET_N in canonical form. -/
@[simp] theorem rewriteGuardWords_wf {m : Memory} (hw : m.wf = true) : (rewriteGuardWords m).wf = true :=
  Memory.wf_writeAll _ (Memory.wf_writeAll _ (Memory.wf_filter _ hw))

end Sys2Proof.Machine
end

