-- ==== Sys2Proof/Laws/Effects.lean ====
section
/-! SUPPORT. What a command can do, said once: every command but the resets and the accesses of one port is a sequence of
the effects below, each on a named part of the guard. An invariant is proved once per effect, and a part that a command's
sequence does not name is left alone. -/

namespace Sys2Proof.Machine

/-- The parts that an effect may touch, beside the event flags, the requests waiting and the plain guard-written words,
which every effect may. -/
inductive Part where
  /-- Request halves and staging table, written by a port. -/
  | port
  /-- The configuration lock and its mirror, by a port's write to PLOCK. -/
  | lock
  | feed (arm : Arm)
  | reach (arm : Arm)
  | enf (arm : Arm)
  | claims
  | lane (arm : Arm)
  | survey
  | refill
  | install
  | fence
  | accepted
  | swap
  deriving DecidableEq, Repr

/-- The guard-written words that are a record of nothing below: all but the status word, the install, refill and lock
records, and the snapshots. -/
def plainWord (a : Nat) : Bool :=
  !portWritten a && decide (a ≠ 0x004) && !(decide (0x008 ≤ a) && decide (a ≤ 0x00C)) &&
    !(decide (0x080 ≤ a) && decide (a < 0x0C0))

/-- One effect, on the parts that `U` allows. -/
inductive Effect (U : Part → Prop) : State → State → Prop
  | raise (s : State) (f : Flag) (p : Port) : Effect U s (s.raise f p)
  | word (s : State) (a : Nat) (v : Word) (h : plainWord a = true) : Effect U s (s.writeWord a v)
  | portWrite (s : State) (p : Port) (a : Nat) (v : Word) (h : U .port) : Effect U s (s.portWrite p a v)
  | plockWrite (s : State) (p : Port) (v : Word) (h : U .lock) : Effect U s (s.plockWrite p v)
  | waiting (s : State) (w : List (List Request)) : Effect U s (s.setWaiting w)
  | feedMod (s : State) (arm : Arm) (g : Feed → Feed) (h : U (.feed arm)) (hs : ∀ f, (g f).state = f.state := by intro f; rfl) :
      Effect U s (s.modFeed arm g)
  | changeFeed (s : State) (arm : Arm) (new : FeedState) (h : U (.feed arm)) (h' : U (.enf arm)) :
      Effect U s (s.changeFeed arm new)
  | feedLoss (s : State) (arm : Arm) (h : U (.enf arm)) : Effect U s (s.addFeedLoss arm)
  | order (s : State) (arm : Arm) (h : U (.enf arm)) : Effect U s (s.orderSnapshot arm)
  | flush (s : State) (arm : Arm) (h : U (.enf arm)) : Effect U s (s.flushSnapshot arm)
  | reachMod (s : State) (arm : Arm) (g : Reach → Reach) (h : U (.reach arm)) : Effect U s (s.modReach arm g)
  | runCounter (s : State) (arm : Arm) (n : Enforcement → Nat) (h : U (.enf arm)) :
      Effect U s (s.modEnf arm (fun e => { e with runCounter := n e }))
  | seat (s : State) (arm : Arm) (h : U (.enf arm)) (h' : U .claims) : Effect U s (s.seat arm)
  | gathered (s : State) (arm : Arm) (g : Gathered) (h : U (.enf arm))
      (hk : ∀ k, g.shortfall = some k → ¬ (k.1 = true ∧ k.2 = true)) : Effect U s (s.applyGathered arm g)
  | snapshot (s : State) (arm : Arm) : Effect U s (s.writeSnapshot arm)
  | clearStop (s : State) (arm : Arm) (h : U (.enf arm)) (h' : U .claims) (hs : s.stopHeld arm = none) :
      Effect U s (s.clearStop arm)
  | sweep (s : State) (arm : Arm) (h : U .claims) : Effect U s (s.lingerSweep arm)
  | remaining (s : State) (arm : Arm) (slot : Slot) (n : Nat) (h : U (.lane arm)) :
      Effect U s (s.writeRemaining arm slot n)
  | endGranted (s : State) (arm : Arm) (slot : Slot) (h : U (.lane arm)) (h' : U .claims)
      (hs : slot ∈ (s.lanes.get arm).grantedList ∨ (s.entry arm slot).state = .granted) : Effect U s (s.endGranted arm slot)
  | endWaiting (s : State) (arm : Arm) (slot : Slot) (h : U (.lane arm)) (hs : (s.entry arm slot).state = .waiting) :
      Effect U s (s.endWaiting arm slot .withdrawn)
  | acceptPost (s : State) (arm : Arm) (slot : Slot) (q : SlotRequest) (tag : Byte) (h : U (.lane arm))
      (hs : s.postRefusal arm slot q = none) : Effect U s (s.acceptPost arm slot q tag)
  | yieldLane (s : State) (arm : Arm) (h : U (.lane arm)) : Effect U s (s.yieldLane arm)
  | laneClear (s : State) (arm : Arm) (h : U (.lane arm)) (hw : ∀ k : Slot, (s.entry arm k).state ≠ .waiting)
      (hg : (s.lanes.get arm).grantedList = []) :
      Effect U s (s.modLane arm (fun l => { l with next := none, waitingList := [], grantedList := [] }))
  | grant (s : State) (t : ZoneTable) (arm : Arm) (slot : Slot) (tr : Traverse) (h : U (.lane arm)) (h' : U .claims)
      (ht : s.active = some t) (hh : (s.lanes.get arm).head = some slot) (he : (s.entry arm slot).traverse = some tr)
      (hw : (s.lanes.get arm).grantedList.length < (t.arms.get arm).w.toNat)
      (hb : s.refillFence = true → ∀ i < s.cells.length, t.setHas tr.zones i = true → t.refillHas i = false) :
      Effect U s (s.grant t arm slot tr)
  | survey (s : State) (v : Survey) (h : U .survey) (hs : v.sip = s.survey.sip := by rfl) : Effect U s (s.setSurvey v)
  | sip (s : State) (b : Bool) (h : U .survey) : Effect U s (s.setSip b)
  | refill (s : State) (r : Refill) (h : U .refill)
      (hs : r.state = .granted → s.refill.state = .granted ∨ s.refillSetUnowned = true) : Effect U s (s.putRefill r)
  | install (s : State) (i : Install) (h : U .install) (hi : Install.Ok s.install → Install.Ok i) :
      Effect U s (s.changeInstall i)
  | fence (s : State) (z : List Nat) (h : U .fence) (hz : s.badFence 0 z = false) : Effect U s (s.setFence (fenceSetOf z))
  | accepted (s : State) (l : List Accepted) (h : U .accepted) : Effect U s (s.setAccepted l)
  | swap (s : State) (p : PendingTable) (h : U .swap) (hp : s.install.pendingTable = some p)
      (hg : s.gateOpen p.mask = true) : Effect U s (s.swap p.table)

/-- A sequence of effects. -/
abbrev Effects (U : Part → Prop) : State → State → Prop := Relation.ReflTransGen (Effect U)

/-- An invariant that every effect keeps is kept by a sequence of effects. -/
theorem Effects.keeps {U : Part → Prop} {P : State → Prop} (step : ∀ s t, Effect U s t → P s → P t) {s t : State}
    (e : Effects U s t) (h : P s) : P t := by
  induction e with
  | refl => exact h
  | tail _ x ih => exact step _ _ x ih

theorem Effects.one {U : Part → Prop} {s t : State} (e : Effect U s t) : Effects U s t := Relation.ReflTransGen.single e

/-- Effects in sequence over a list. -/
theorem Effects.foldl {U : Part → Prop} {α : Type} (f : State → α → State) (h : ∀ s x, Effects U s (f s x)) (l : List α)
    (s : State) : Effects U s (l.foldl f s) := by
  induction l generalizing s with
  | nil => exact .refl
  | cons x l ih => exact (h s x).trans (ih _)

end Sys2Proof.Machine
end

