-- ==== Sys2Proof/Laws/Intake.lean ====
section
/-! SUPPORT. The intake of slot commands and the requests that wait: a visit reads none of them and changes none, so the
arbiter may take the request of the service out before or after it (R69, R80). -/

namespace Sys2Proof.Machine
variable (s : State) (w : List (List Request)) (arm : Arm) (slot : Slot)

theorem State.raiseIf_setWaiting (b : Bool) (f : Flag) (p : Port) :
    (s.setWaiting w).raiseIf b f p = (s.raiseIf b f p).setWaiting w := by cases b <;> rfl

theorem State.writeSlotState_setWaiting (st : SlotState) :
    (s.setWaiting w).writeSlotState arm slot st = (s.writeSlotState arm slot st).setWaiting w :=
  State.raiseIf_setWaiting ((s.setEntry arm slot { (s.entry arm slot) with state := st }).writeWord (slotBase arm slot + 10)
    (putBits (s.word (slotBase arm slot + 10)) 0 3 st.code)) w _ _ _

theorem State.releaseTraverse_setWaiting (tr : Option Traverse) :
    (s.setWaiting w).releaseTraverse arm tr = (s.releaseTraverse arm tr).setWaiting w := by
  unfold State.releaseTraverse
  rw [show (s.setWaiting w).active = s.active from rfl]
  generalize s.active = o
  cases o <;> cases tr <;> rfl

theorem State.endGranted_setWaiting :
    (s.setWaiting w).endGranted arm slot = (s.endGranted arm slot).setWaiting w := by
  unfold State.endGranted
  rw [State.writeSlotState_setWaiting]
  exact State.releaseTraverse_setWaiting ((s.writeSlotState arm slot .done).dropGranted arm slot) w arm _

theorem State.endWaiting_setWaiting (st : SlotState) :
    (s.setWaiting w).endWaiting arm slot st = (s.endWaiting arm slot st).setWaiting w := by
  unfold State.endWaiting
  rw [State.writeSlotState_setWaiting]
  rfl

theorem State.acceptPost_setWaiting (q : SlotRequest) (tag : Byte) :
    (s.setWaiting w).acceptPost arm slot q tag = (s.acceptPost arm slot q tag).setWaiting w := by
  have lane : ∀ (s : State) (g : Lane → Lane), (s.setWaiting w).modLane arm g = (s.modLane arm g).setWaiting w := fun _ _ => rfl
  have result : ∀ (s : State), (s.setWaiting w).writeResult arm slot .taken none = (s.writeResult arm slot .taken none).setWaiting w :=
    fun _ => rfl
  have blocker : ∀ (s : State) (b : Blocker), (s.setWaiting w).writeBlocker arm slot b none =
    (s.writeBlocker arm slot b none).setWaiting w := fun _ _ => rfl
  have remaining : ∀ (s : State) (n : Nat), (s.setWaiting w).writeRemaining arm slot n =
    (s.writeRemaining arm slot n).setWaiting w := fun _ _ => rfl
  have words : ∀ (s : State) (a : Nat) (x y : Word), (s.setWaiting w).writeWords a [x, y] =
    (s.writeWords a [x, y]).setWaiting w := fun _ _ _ _ => rfl
  have last : ∀ (s : State), (s.setWaiting w).writeTag arm slot tag = (s.writeTag arm slot tag).setWaiting w := fun _ => rfl
  unfold State.acceptPost
  simp only [State.setEntry, lane, result, State.writeSlotState_setWaiting, blocker, remaining, words, last]
  rfl

/-- The taking of a command reads no request that waits, and changes none. -/
theorem State.takeCommand_setWaiting (q : SlotRequest) (tag : Byte) :
    (s.setWaiting w).takeCommand arm slot q tag = (s.takeCommand arm slot q tag).setWaiting w := by
  unfold State.takeCommand
  split
  · unfold State.takePost
    rw [show (s.setWaiting w).postRefusal arm slot q = s.postRefusal arm slot q from rfl]
    split
    · rfl
    · exact State.acceptPost_setWaiting s w arm slot q tag
  · unfold State.takeFinish
    rw [show (s.setWaiting w).entry arm slot = s.entry arm slot from rfl, State.endGranted_setWaiting]
    split <;> rfl
  · unfold State.takeWithdraw
    rw [show (s.setWaiting w).entry arm slot = s.entry arm slot from rfl, State.endGranted_setWaiting,
      State.endWaiting_setWaiting]
    split <;> rfl
  · rfl

/-- A record's read with no event between its steps finds the words as they stand and leaves the state. -/
theorem readRecord_nil (point base result n : Nat) :
    readRecord [] point base result n s =
      ⟨tagOf (s.word base), decide (tagOf (s.word base) ≠ tagOf (s.word result)), true, (readRun [] n (point + 1) base s).1, s⟩ := by
  have run : ∀ n point a, (readRun [] n point a s).2 = s := by
    intro n
    induction n with
    | zero => intro _ _; rfl
    | succ n ih => intro point a; exact ih _ _
  simp [readRecord, State.arriveAt, State.arriveWhen, run]

theorem readRun_nil_setWaiting (n : Nat) : ∀ point a, (readRun [] n point a (s.setWaiting w)).1 = (readRun [] n point a s).1 := by
  induction n with
  | zero => intro _ _; rfl
  | succ n ih => intro point a; exact congrArg (s.word a :: ·) (ih _ _)

/-- A slot's visit reads no request that waits, and changes none. -/
theorem State.visitSlot_setWaiting :
    (s.setWaiting w).visitSlot [] arm slot = (s.visitSlot [] arm slot).setWaiting w := by
  unfold State.visitSlot
  simp only [readRecord_nil, readRun_nil_setWaiting, State.takeCommand_setWaiting,
    show ∀ a, (s.setWaiting w).word a = s.word a from fun _ => rfl]
  split <;> rfl
end Sys2Proof.Machine
end

