-- ==== Sys2Proof/Laws/Sequences.lean ====
section
/-! SUPPORT. Every service and every event is a sequence of effects on the parts it may touch. -/

namespace Sys2Proof.Machine

variable {U : Part → Prop}

/-! ## Feed receivers -/

/-- What an event of one arm's feed may touch. -/
abbrev allowsFeed (U : Part → Prop) (arm : Arm) : Prop := U (.feed arm) ∧ U (.enf arm) ∧ U (.reach arm)

/-- What arrivals may touch. -/
abbrev allowsArrivals (U : Part → Prop) : Prop := U .port ∧ U .lock ∧ allowsFeed U .a ∧ allowsFeed U .b

theorem allowsArrivals.feed (h : allowsArrivals U) (arm : Arm) : allowsFeed U arm := by
  cases arm
  · exact h.2.2.1
  · exact h.2.2.2

theorem State.requestTogether_effects (s : State) (rs : List Request) : Effects U s (s.requestTogether rs) := by
  unfold State.requestTogether
  split
  · exact .refl
  · exact Effects.one (.waiting s _)

theorem State.dropRequest_effects (s : State) (r : Request) : Effects U s (s.dropRequest r) := Effects.one (.waiting s _)

theorem State.raiseIf_effects (s : State) (b : Bool) (f : Flag) (p : Port) : Effects U s (s.raiseIf b f p) := by
  unfold State.raiseIf
  split
  · exact Effects.one (.raise s f p)
  · exact .refl

theorem State.raiseBoth_effects (s : State) (f : Flag) : Effects U s (s.raiseBoth f) :=
  (Effects.one (.raise s f .a)).trans (Effects.one (.raise _ f .b))

section
variable {arm : Arm} (h : allowsFeed U arm) (s : State)
include h

theorem State.enterLost_effects (m : ArmFields) : Effects U s (s.enterLost arm m) := by
  unfold State.enterLost
  have h1 : Effects U s (((s.modFeed arm (fun f => { f with missTimer := none, goodRun := 0 })).changeFeed arm
      .lost).orderSnapshot arm) :=
    ((Effects.one (.feedMod s arm _ h.1)).trans (Effects.one (.changeFeed _ arm _ h.1 h.2.1))).trans
      (Effects.one (.order _ arm h.2.1))
  dsimp only
  split
  · exact h1.trans (Effects.one (.feedLoss _ arm h.2.1))
  · exact h1.trans (Effects.one (.feedMod _ arm _ h.1))

theorem State.fault_effects (m : ArmFields) : Effects U s (s.fault arm m) := by
  unfold State.fault
  split
  · exact .refl
  · exact Effects.one (.feedMod s arm _ h.1)
  · dsimp only
    split
    · exact (Effects.one (.feedMod s arm _ h.1)).trans (State.enterLost_effects h _ m)
    · exact Effects.one (.feedMod s arm _ h.1)
  · exact .refl

theorem State.takeBad_effects (m : ArmFields) : Effects U s (s.takeBad arm m) :=
  (Effects.one (.feedMod s arm _ h.1)).trans (State.fault_effects h _ m)

theorem State.takeDuplicate_effects : Effects U s (s.takeDuplicate arm) :=
  Effects.one (.feedMod s arm _ h.1)

theorem State.hold_effects (bs : List Byte) (gap : Option Nat) : Effects U s (s.hold arm bs gap) := by
  unfold State.hold
  split
  · exact (Effects.one (.feedMod s arm _ h.1)).trans (State.requestTogether_effects _ _)
  · exact Effects.one (.feedMod s arm _ h.1)

theorem State.goodRunStep_effects (m : ArmFields) : Effects U s (s.goodRunStep arm m) := by
  unfold State.goodRunStep
  split
  · exact ((Effects.one (.feedMod s arm _ h.1)).trans (Effects.one (.changeFeed _ arm _ h.1 h.2.1))).trans
      (Effects.one (.reachMod _ arm _ h.2.2))
  · exact ((Effects.one (.feedMod s arm _ h.1)).trans (Effects.one (.changeFeed _ arm _ h.1 h.2.1))).trans
      (Effects.one (.reachMod _ arm _ h.2.2))
  · dsimp only
    split
    · exact ((Effects.one (.feedMod s arm _ h.1)).trans
        (Effects.one (.feedMod _ arm _ h.1))).trans (Effects.one (.changeFeed _ arm _ h.1 h.2.1))
    · exact Effects.one (.feedMod s arm _ h.1)
  · exact Effects.one (.feedMod s arm _ h.1)

theorem State.takeGood_effects (m : ArmFields) (bs : List Byte) : Effects U s (s.takeGood arm m bs) :=
  ((Effects.one (.feedMod s arm _ h.1)).trans (State.goodRunStep_effects h _ m)).trans
    (State.hold_effects h _ bs _)

theorem State.frameComplete_effects (chars : List LineChar) : Effects U s (s.frameComplete arm chars) := by
  unfold State.frameComplete
  split
  · exact .refl
  · dsimp only
    split
    · exact .refl
    · split
      · exact State.takeBad_effects h s _
      · split
        · exact State.takeDuplicate_effects h s
        · exact State.takeGood_effects h s _ _

theorem State.missExpiry_effects : Effects U s (s.missExpiry arm) := by
  unfold State.missExpiry
  split
  · exact (Effects.one (.feedMod s arm _ h.1)).trans (State.fault_effects h _ _)
  · exact .refl

theorem State.lossGraceExpiry_effects : Effects U s (s.lossGraceExpiry arm) := by
  unfold State.lossGraceExpiry
  split
  · exact .refl
  · dsimp only
    split
    · exact Effects.one (.feedMod s arm _ h.1)
    · exact (Effects.one (.feedMod s arm _ h.1)).trans (Effects.one (.feedLoss _ arm h.2.1))

end

/-! ## Arrivals -/

section
variable (h : allowsArrivals U) (s : State)
include h

theorem State.arrive_effects (e : Event) : Effects U s (s.arrive e) := by
  cases e with
  | portWrite p a v => exact Effects.one (.portWrite s p _ v h.1)
  | plockWrite p v => exact Effects.one (.plockWrite s p v h.2.1)
  | frameComplete arm chars => exact State.frameComplete_effects (h.feed arm) s chars
  | missExpiry arm => exact State.missExpiry_effects (h.feed arm) s
  | lossGraceExpiry arm => exact State.lossGraceExpiry_effects (h.feed arm) s

theorem State.arriveWhen_effects (during : List Arrival) (p : Nat → Bool) : Effects U s (s.arriveWhen during p) := by
  refine Effects.foldl _ (fun s x => ?_) during s
  split
  · exact State.arrive_effects h s x.event
  · exact .refl

theorem State.arriveAt_effects (during : List Arrival) (k : Nat) : Effects U s (s.arriveAt during k) :=
  State.arriveWhen_effects h s during _

theorem State.arriveFrom_effects (during : List Arrival) (k : Nat) : Effects U s (s.arriveFrom during k) :=
  State.arriveWhen_effects h s during _

theorem State.arriveBetween_effects (during : List Arrival) (lo hi : Nat) :
    Effects U s (s.arriveBetween during lo hi) :=
  State.arriveWhen_effects h s during _

theorem readRun_effects (during : List Arrival) (n point a : Nat) : Effects U s (readRun during n point a s).2 := by
  induction n generalizing point a s with
  | zero => exact .refl
  | succ n ih => exact (State.arriveAt_effects h s during point).trans (ih _ _ _)

theorem readRecord_effects (during : List Arrival) (point base result n : Nat) :
    Effects U s (readRecord during point base result n s).after :=
  ((State.arriveAt_effects h s during point).trans (readRun_effects h _ during n _ base)).trans
    (State.arriveAt_effects h _ during _)

end

/-- A figure that no arrival changes is not changed by arrivals at points. -/
theorem State.arriveWhen_keeps {α : Type} (f : State → α) (hf : ∀ s e, f (s.arrive e) = f s) (s : State)
    (during : List Arrival) (p : Nat → Bool) : f (s.arriveWhen during p) = f s := by
  unfold State.arriveWhen
  induction during generalizing s with
  | nil => rfl
  | cons x l ih =>
    rw [List.foldl_cons, ih]
    split
    · exact hf s x.event
    · rfl

theorem readRun_keeps {α : Type} (f : State → α) (hf : ∀ s e, f (s.arrive e) = f s) (during : List Arrival)
    (n point a : Nat) (s : State) : f (readRun during n point a s).2 = f s := by
  induction n generalizing point a s with
  | zero => rfl
  | succ n ih =>
    simp only [readRun]
    rw [ih]
    exact State.arriveWhen_keeps f hf s during _

theorem readRecord_keeps {α : Type} (f : State → α) (hf : ∀ s e, f (s.arrive e) = f s) (during : List Arrival)
    (point base result n : Nat) (s : State) : f (readRecord during point base result n s).after = f s := by
  unfold readRecord
  dsimp only
  unfold State.arriveAt
  rw [State.arriveWhen_keeps f hf, readRun_keeps f hf, State.arriveWhen_keeps f hf]

/-! ## Serving a request -/

theorem State.serve_effects (h : U (.enf .a) ∧ U (.enf .b)) (s : State) (r : Request) (body : State → State)
    (hb : ∀ x, Effects U x (body x)) : Effects U s (s.serve r body) := by
  unfold State.serve
  split
  · exact (((State.dropRequest_effects s r).trans (Effects.one (.flush _ .a h.1))).trans (Effects.one (.flush _ .b h.2))).trans (hb _)
  · exact .refl

/-! ## Result halves -/

theorem plainWord_iff (a : Nat) : plainWord a = true ↔
    (¬ (0x0C0 ≤ a ∧ a < 0x0D0) ∧ ¬ (0x100 ≤ a ∧ a < 0x200 ∧ a % 16 < 8) ∧ ¬ (0x0E0 ≤ a ∧ a < 0x0F0) ∧
      ¬ (0x200 ≤ a ∧ a < 0x300 ∧ a % 16 < 8) ∧ ¬ (0x300 ≤ a ∧ a < 0x400)) ∧
    a ≠ 4 ∧ ¬ (8 ≤ a ∧ a ≤ 0xC) ∧ ¬ (0x80 ≤ a ∧ a < 0xC0) := by
  simp only [plainWord, portWritten, inRequestHalf, inMailboxRequest, inLaneRequest, inStaging,
    Bool.and_eq_true, Bool.not_eq_true', Bool.or_eq_false_iff, Bool.and_eq_false_iff, decide_eq_true_eq,
    decide_eq_false_iff_not]
  simp only [laneBase, mailboxBase]
  omega

theorem plainWord_slot (arm : Arm) (slot : Slot) (k : Nat) (hk : 8 ≤ k) (hk' : k < 16) :
    plainWord (slotBase arm slot + k) = true := by
  have hs := slot.isLt
  rw [plainWord_iff]
  cases arm <;> simp only [slotBase, laneBase] <;> omega

theorem plainWord_mailbox (p : Port) (k : Nat) (hk : 16 ≤ k) (hk' : k < 32) : plainWord (mailboxBase p + k) = true := by
  rw [plainWord_iff]
  cases p <;> simp only [mailboxBase] <;> omega

theorem plainWord_header (a : Nat) (h : a < 0x80) (h4 : a ≠ 4) (h8 : a < 8 ∨ 0xC < a) : plainWord a = true := by
  rw [plainWord_iff]
  omega

theorem State.writeWords_effects (s : State) (a : Nat) (vs : List Word)
    (h : ∀ k < vs.length, plainWord (a + k) = true) : Effects U s (s.writeWords a vs) := by
  induction vs generalizing s a with
  | nil => exact .refl
  | cons v vs ih =>
    refine (Effects.one (.word s a v (h 0 (by simp)))).trans (ih _ (a + 1) (fun k hk => ?_))
    rw [show a + 1 + k = a + (k + 1) by omega]
    exact h (k + 1) (by simpa using hk)

section
variable (s : State) (arm : Arm) (slot : Slot)

theorem State.writeBlocker_effects (b : Blocker) (z : Option Nat) : Effects U s (s.writeBlocker arm slot b z) :=
  (Effects.one (.word s _ _ (plainWord_slot arm slot 10 (by omega) (by omega)))).trans
    (Effects.one (.word _ _ _ (plainWord_slot arm slot 11 (by omega) (by omega))))

theorem State.writeResult_effects (r : SlotResult) (x : Option SlotReason) : Effects U s (s.writeResult arm slot r x) :=
  (Effects.one (.word s _ _ (plainWord_slot arm slot 9 (by omega) (by omega)))).trans (Effects.one (.raise _ _ _))

theorem State.writeTag_effects (tag : Byte) : Effects U s (s.writeTag arm slot tag) :=
  Effects.one (.word s _ _ (plainWord_slot arm slot 8 (by omega) (by omega)))

theorem State.refuseCommand_effects (r : SlotReason) (tag : Byte) : Effects U s (s.refuseCommand arm slot r tag) :=
  (State.writeResult_effects s arm slot _ _).trans (State.writeTag_effects _ arm slot tag)

theorem State.writeMailResult_effects (p : Port) (r : MailResult) (x : Option HeldReason) (tag : Byte) :
    Effects U s (s.writeMailResult p r x tag) :=
  (((Effects.one (.word s _ _ (plainWord_mailbox p 18 (by omega) (by omega)))).trans
    (Effects.one (.word _ _ _ (plainWord_mailbox p 17 (by omega) (by omega))))).trans
    (Effects.one (.word _ _ _ (plainWord_mailbox p 16 (by omega) (by omega))))).trans (Effects.one (.raise _ _ _))

/-! ## Lane commands -/

theorem State.takePost_effects (h : U (.lane arm)) (q : SlotRequest) (tag : Byte) :
    Effects U s (s.takePost arm slot q tag) := by
  unfold State.takePost
  split
  · exact State.refuseCommand_effects s arm slot _ tag
  · rename_i hn
    exact Effects.one (.acceptPost s arm slot q tag h hn)

theorem State.takeFinish_effects (h : U (.lane arm)) (h' : U .claims) (tag : Byte) :
    Effects U s (s.takeFinish arm slot tag) := by
  unfold State.takeFinish
  split
  · rename_i hn
    exact ((Effects.one (.endGranted s arm slot h h' (.inr hn))).trans (State.writeResult_effects _ arm slot _ _)).trans
      (State.writeTag_effects _ arm slot tag)
  all_goals exact State.refuseCommand_effects s arm slot _ tag

theorem State.takeWithdraw_effects (h : U (.lane arm)) (h' : U .claims) (tag : Byte) :
    Effects U s (s.takeWithdraw arm slot tag) := by
  unfold State.takeWithdraw
  split
  · rename_i hn
    exact ((Effects.one (.endWaiting s arm slot h hn)).trans (State.writeResult_effects _ arm slot _ _)).trans
      (State.writeTag_effects _ arm slot tag)
  · rename_i hn
    exact ((Effects.one (.endGranted s arm slot h h' (.inr hn))).trans (State.writeResult_effects _ arm slot _ _)).trans
      (State.writeTag_effects _ arm slot tag)
  all_goals exact State.refuseCommand_effects s arm slot _ tag

theorem State.takeCommand_effects (h : U (.lane arm)) (h' : U .claims) (q : SlotRequest) (tag : Byte) :
    Effects U s (s.takeCommand arm slot q tag) := by
  unfold State.takeCommand
  split
  · exact State.takePost_effects s arm slot h q tag
  · exact State.takeFinish_effects s arm slot h h' tag
  · exact State.takeWithdraw_effects s arm slot h h' tag
  · exact State.refuseCommand_effects s arm slot _ tag

theorem State.visitSlot_effects (ha : allowsArrivals U) (h : U (.lane arm)) (h' : U .claims) (during : List Arrival) :
    Effects U s (s.visitSlot during arm slot) := by
  unfold State.visitSlot
  dsimp only
  split
  · exact (readRecord_effects ha s during _ _ _ _).trans (State.takeCommand_effects _ arm slot h h' _ _)
  · exact readRecord_effects ha s during _ _ _ _

theorem State.intakeLane_effects (ha : allowsArrivals U) (h : U (.lane arm)) (h' : U .claims) (during : List Arrival) :
    Effects U s (s.intakeLane during arm) :=
  Effects.foldl _ (fun s slot => State.visitSlot_effects s arm slot ha h h' during) _ s

end

/-! ## The frame evaluation -/

/-- What an evaluation of one arm may touch beside arrivals. -/
abbrev allowsEvaluation (U : Part → Prop) (arm : Arm) : Prop := allowsArrivals U ∧ U .claims ∧ U (.lane arm)

section
variable {arm : Arm} (h : allowsEvaluation U arm) (s : State)
include h

theorem State.countdown_effects (gap : Option Nat) : Effects U s (s.countdown arm gap) := by
  unfold State.countdown
  split
  · rename_i slot tr k h1 h2
    split
    · dsimp only
      split
      · refine (Effects.one (.remaining s arm slot _ h.2.2)).trans (Effects.one (.endGranted _ arm slot h.2.2 h.2.1 (.inl ?_)))
        have hm : slot ∈ (s.lanes.get arm).grantedList := by
          unfold State.currentSlot at h1
          cases hl : (s.lanes.get arm).grantedList with
          | nil => simp [hl] at h1
          | cons x l => simp [hl] at h1; simp [h1]
        cases arm <;> exact hm
      · exact Effects.one (.remaining s arm slot _ h.2.2)
    · exact .refl
  · exact .refl

omit h in
theorem State.shortfallAfter_not_both (pr : Nat) (c : Bool) :
    ¬ ((s.shortfallAfter arm pr c).1 = true ∧ (s.shortfallAfter arm pr c).2 = true) := by
  unfold State.shortfallAfter State.shortfallKind
  dsimp only
  (repeat' split) <;> simp

theorem State.fullStages_effects (during : List Arrival) (t : ZoneTable) (gap : Option Nat) (marked : Bool) (g : Gathered) :
    Effects U s (s.fullStages during t arm gap marked g).1 := by
  unfold State.fullStages
  dsimp only
  refine Relation.ReflTransGen.trans ?_ (State.countdown_effects h _ gap)
  refine Relation.ReflTransGen.trans ?_ (State.arriveAt_effects h.1 _ during 6)
  refine Relation.ReflTransGen.trans ?_ (Effects.one (.runCounter _ arm _ (h.1.feed arm).2.1))
  refine Relation.ReflTransGen.trans ?_ (State.arriveAt_effects h.1 _ during 5)
  refine Relation.ReflTransGen.trans ?_ (State.arriveAt_effects h.1 _ during 4)
  refine (State.arriveAt_effects h.1 s during 3).trans ?_
  split
  · exact .refl
  · exact Effects.one (.sweep _ arm h.2.1)

omit h in
theorem State.fullStages_kinds (during : List Arrival) (t : ZoneTable) (gap : Option Nat) (marked : Bool) (g : Gathered) :
    ∀ k, (s.fullStages during t arm gap marked g).2.shortfall = some k → ¬ (k.1 = true ∧ k.2 = true) := by
  intro k hk
  unfold State.fullStages at hk
  dsimp only at hk
  simp only [Option.some.injEq] at hk
  rw [← hk]
  exact State.shortfallAfter_not_both _ _ _

theorem State.seatingStage_effects : Effects U s (s.seatingStage arm).1 := by
  unfold State.seatingStage
  split
  · exact .refl
  · exact Effects.one (.seat s arm (h.1.feed arm).2.1 h.2.1)

omit h in
theorem State.seatingStage_kinds : (s.seatingStage arm).2.shortfall = none := by
  unfold State.seatingStage
  split <;> rfl

theorem State.evaluationStages_effects (during : List Arrival) (t : ZoneTable) (f : HeldFrame) (steady : Bool) :
    Effects U s (s.evaluationStages during t arm f steady) := by
  unfold State.evaluationStages
  dsimp only
  refine Relation.ReflTransGen.trans ?_ (Effects.one (.snapshot _ arm))
  refine Relation.ReflTransGen.trans ?_ (State.arriveAt_effects h.1 _ during 7)
  have h2 : Effects U s ((((s.takeFrame arm f).arriveAt during 1).arithmetic t arm f).arriveAt during 2) :=
    (((((Effects.one (.feedMod s arm _ (h.1.feed arm).1)).trans
      (Effects.one (.reachMod _ arm _ (h.1.feed arm).2.2)))).trans (State.arriveAt_effects h.1 _ during 1)).trans
      (Effects.one (.reachMod _ arm _ (h.1.feed arm).2.2))).trans (State.arriveAt_effects h.1 _ during 2)
  refine h2.trans ?_
  cases steady with
  | false => exact State.arriveBetween_effects h.1 _ during 3 7
  | true =>
    simp only [if_true]
    split
    · exact ((State.seatingStage_effects h _).trans (State.fullStages_effects h _ during t _ _ _)).trans
        (Effects.one (.gathered _ arm _ (h.1.feed arm).2.1 (State.fullStages_kinds _ during t _ _ _)))
    · refine ((State.seatingStage_effects h _).trans (State.arriveBetween_effects h.1 _ during 3 7)).trans
        (Effects.one (.gathered _ arm _ (h.1.feed arm).2.1 ?_))
      intro k hk
      rw [State.seatingStage_kinds] at hk
      exact absurd hk (by simp)

/-- FRAME_EVALUATION. -/
theorem execFrameEvaluation_effects (during : List Arrival) :
    ∀ t, execFrameEvaluation arm during s = .next t → Effects U s t := by
  intro t ht
  simp only [execFrameEvaluation, Host.Outcome.next.injEq] at ht
  subst ht
  refine State.serve_effects ⟨(h.1.feed .a).2.1, (h.1.feed .b).2.1⟩ s _ _ (fun x => ?_)
  unfold State.evaluationBody
  split
  · exact State.evaluationStages_effects h x during _ _ _
  · exact .refl

end

end Sys2Proof.Machine
end

