-- ==== Sys2Proof/Laws/Services.lean ====
section
/-! SUPPORT. The tick's work as sequences of effects: the refill interlock, the grant phase, the survey tick and the
configuration service. -/

namespace Sys2Proof.Machine

variable {U : Part → Prop}

/-! ## The refill interlock -/

section
variable (h : U .refill) (s : State)
include h

omit h in
theorem State.flagRefillChange_effects (r : RefillState) : Effects U s (s.flagRefillChange r) := by
  unfold State.flagRefillChange
  split
  · exact .refl
  · exact State.raiseBoth_effects s _

theorem State.debounceExpiry_effects : Effects U s s.debounceExpiry := by
  unfold State.debounceExpiry
  split
  · refine (Effects.one (.refill s _ h ?_)).trans (State.flagRefillChange_effects _ _)
    unfold Refill.afterDebounce Refill.requestOf Refill.toIdle Refill.debouncedTo
    (repeat' split) <;> intro hr <;> simp_all
  · exact .refl

theorem State.stallExpiry_effects : Effects U s s.stallExpiry := by
  unfold State.stallExpiry
  split
  · exact .refl
  · split
    · exact (Effects.one (.refill s { s.refill with stallTimer := none, stalled := true } h (fun hr => .inl hr))).trans (State.raiseBoth_effects _ _)
    · exact .refl

theorem State.refillTestBody_effects : Effects U s s.refillTestBody := by
  unfold State.refillTestBody
  split
  · rename_i hc
    exact (Effects.one (.refill s _ h (fun _ => .inr hc.2))).trans (State.raiseBoth_effects _ _)
  · exact .refl

end

/-! ## The grant phase -/

/-- What a grant phase may touch. -/
abbrev allowsGrantPhase (U : Part → Prop) : Prop :=
  allowsArrivals U ∧ U .claims ∧ U (.lane .a) ∧ U (.lane .b) ∧ U .survey

theorem anyCell_eq_true (p : Nat → Cell → Bool) (k : Nat) (cs : List Cell) :
    anyCell p k cs = true ↔ ∃ i, ∃ h : i < cs.length, p (k + i) cs[i] = true := by
  induction cs generalizing k with
  | nil => simp [anyCell]
  | cons c cs ih =>
    simp only [anyCell, Bool.or_eq_true, ih, List.length_cons]
    constructor
    · rintro (h | ⟨i, h, hp⟩)
      · exact ⟨0, by omega, h⟩
      · exact ⟨i + 1, by omega, by rwa [show k + (i + 1) = k + 1 + i by omega]⟩
    · rintro ⟨i, h, hp⟩
      cases i with
      | zero => exact .inl hp
      | succ i => exact .inr ⟨i, by omega, by rwa [show k + 1 + i = k + (i + 1) by omega]⟩

/-- A zone test that answers none: no cell of the cell set meets the condition (R68). -/
theorem State.zoneTest_none (s : State) (t : ZoneTable) (zs : List Nat) (p : Nat → Cell → Bool) :
    s.zoneTest t zs p = none ↔
      ∀ i, ∀ h : i < s.cells.length, t.setHas zs i = true → p i s.cells[i] = false := by
  simp only [State.zoneTest, List.find?_eq_none, anyCell_eq_true, ZoneTable.setHas, List.any_eq_true]
  constructor
  · rintro h i hi ⟨z, hz, hc⟩
    by_contra hp
    refine h z hz ⟨i, hi, ?_⟩
    simp only [Nat.zero_add, hc, Bool.true_and]
    simpa using hp
  · rintro h z hz ⟨i, hi, hp⟩
    simp only [Nat.zero_add, Bool.and_eq_true] at hp
    have := h i hi ⟨z, hz, hp.1⟩
    rw [this] at hp
    exact absurd hp.2 (by simp)

/-- R106: what the absence of every blocker says. -/
theorem State.blockerOf_none (s : State) (t : ZoneTable) (up : Bool) (arm : Arm) (tr : Traverse) :
    s.blockerOf t up arm tr = none ↔
      (s.enf.get arm).seated = true ∧ (s.lanes.get arm).grantedList.length < (t.arms.get arm).w.toNat ∧
      (∀ i < s.cells.length, t.setHas tr.zones i = true → t.setHas s.fence i = false) ∧
      (up = true → ∀ i < s.cells.length, t.setHas tr.zones i = true → t.refillHas i = false) ∧
      (∀ i, ∀ h : i < s.cells.length, t.setHas tr.zones i = true → s.cells[i].ownedBy arm.other = false) := by
  unfold State.blockerOf
  by_cases h1 : (s.enf.get arm).seated = true
  · by_cases h2 : (t.arms.get arm).w.toNat ≤ (s.lanes.get arm).grantedList.length
    · simp [h1, h2, Nat.not_lt.mpr h2]
    · simp only [h1, h2, Bool.not_true, if_false, Bool.false_eq_true, true_and, Nat.lt_of_not_le h2]
      cases h3 : s.zoneTest t tr.zones (fun i _ => t.setHas s.fence i) with
      | some z =>
        simp only [reduceCtorEq, false_iff, not_and]
        intro hf
        exact absurd ((State.zoneTest_none s t tr.zones _).mpr (fun i hi => hf i hi)) (by rw [h3]; simp)
      | none =>
        have hf := (State.zoneTest_none s t tr.zones _).mp h3
        cases up with
        | false =>
          simp only [Bool.false_eq_true, if_false, false_implies, true_and]
          cases h5 : s.zoneTest t tr.zones (fun _ c => c.ownedBy arm.other) with
          | some z =>
            simp only [reduceCtorEq, false_iff, not_and]
            intro _ ho
            exact absurd ((State.zoneTest_none s t tr.zones _).mpr (fun i hi => ho i hi)) (by rw [h5]; simp)
          | none => exact ⟨fun _ => ⟨hf, (State.zoneTest_none s t tr.zones _).mp h5⟩, fun _ => rfl⟩
        | true =>
          simp only [if_true, true_implies]
          cases h4 : s.zoneTest t tr.zones (fun i _ => t.refillHas i) with
          | some z =>
            simp only [reduceCtorEq, false_iff, not_and]
            intro _ hr
            exact absurd ((State.zoneTest_none s t tr.zones _).mpr (fun i hi => hr i hi)) (by rw [h4]; simp)
          | none =>
            have hr := (State.zoneTest_none s t tr.zones _).mp h4
            cases h5 : s.zoneTest t tr.zones (fun _ c => c.ownedBy arm.other) with
            | some z =>
              simp only [reduceCtorEq, false_iff, not_and]
              intro _ _ ho
              exact absurd ((State.zoneTest_none s t tr.zones _).mpr (fun i hi => ho i hi)) (by rw [h5]; simp)
            | none => exact ⟨fun _ => ⟨hf, hr, (State.zoneTest_none s t tr.zones _).mp h5⟩, fun _ => rfl⟩
  · simp [h1]

/-- R106: a grantable finding. -/
theorem State.find_grantable (s : State) (t : ZoneTable) (up : Bool) (arm : Arm) (slot : Slot) (tr : Traverse) :
    s.find t up arm = .grantable slot tr ↔
      (s.lanes.get arm).head = some slot ∧ (s.entry arm slot).traverse = some tr ∧ s.blockerOf t up arm tr = none := by
  unfold State.find
  cases h1 : (s.lanes.get arm).head with
  | none => simp
  | some k =>
    simp only [Option.some.injEq]
    cases h2 : (s.entry arm k).traverse with
    | none =>
      simp only [reduceCtorEq, false_iff, not_and]
      rintro rfl h3
      rw [h2] at h3; simp at h3
    | some x =>
      simp only
      cases h3 : s.blockerOf t up arm x with
      | none =>
        simp only [Finding.grantable.injEq]
        constructor
        · rintro ⟨rfl, rfl⟩; exact ⟨rfl, h2, h3⟩
        · rintro ⟨rfl, h4, -⟩; rw [h2] at h4; exact ⟨rfl, by simpa using h4⟩
      | some b =>
        simp only [reduceCtorEq, false_iff, not_and]
        rintro rfl h4
        rw [h2] at h4
        simp only [Option.some.injEq] at h4
        subst h4
        rw [h3]; simp

/-- R110: the settlement leaves a finding as it is or makes it a lost contest. -/
theorem State.settle_findings (s : State) (t : ZoneTable) (fa fb : Finding) :
    ((s.settle t fa fb).1 = fa ∨ (s.settle t fa fb).1 = fa.lose) ∧
    ((s.settle t fa fb).2.1 = fb ∨ (s.settle t fa fb).2.1 = fb.lose) := by
  unfold State.settle
  split
  · split
    · split <;> simp
    · simp
  · simp

theorem State.settle_sip (s : State) (t : ZoneTable) (fa fb : Finding) : (s.settle t fa fb).2.2.sip = s.survey.sip := by
  unfold State.settle
  (repeat' split) <;> rfl

theorem Finding.lose_ne_grantable (f : Finding) (slot : Slot) (tr : Traverse) : f.lose ≠ .grantable slot tr := by
  cases f <;> simp [Finding.lose]

theorem State.writeBlockers_effects (s : State) (arm : Arm) (f : Finding) : Effects U s (s.writeBlockers arm f) :=
  Effects.foldl _ (fun s k => State.writeBlocker_effects s arm k _ _) _ s

/-- Writing blockers changes memory alone. -/
theorem State.writeBlockers_frame (s : State) (arm : Arm) (f : Finding) :
    ∃ m, s.writeBlockers arm f = s.setMem m := by
  unfold State.writeBlockers
  generalize (s.lanes.get arm).waitingList = l
  induction l generalizing s with
  | nil => exact ⟨s.mem, rfl⟩
  | cons k l ih =>
    obtain ⟨m, hm⟩ := ih (s.writeBlocker arm k (f.blockerFor k).1 (f.blockerFor k).2)
    exact ⟨m, by rw [List.foldl_cons, hm]; rfl⟩

theorem State.grant_lanes_other (s : State) (t : ZoneTable) (arm : Arm) (slot : Slot) (tr : Traverse) :
    (s.grant t arm slot tr).lanes.get arm.other = s.lanes.get arm.other := by
  unfold State.grant
  split
  · simp only [State.writeWord, State.setMem_lanes, State.writeBlocker_lanes]
    unfold State.writeSlotState
    simp [State.setEntry, State.writeWord]
  · rfl

/-- R117, R118: the standoff update touches the survey arbiter and, with a yield, one lane. -/
theorem State.updateStandoff_effects (h : U .survey) (hl : ∀ arm, U (.lane arm)) (s : State) (t : ZoneTable) (b : Bool) :
    Effects U s (s.updateStandoff t b) := by
  unfold State.updateStandoff
  split
  · split
    · unfold State.yield
      dsimp only
      refine ((Effects.one (.yieldLane s _ (hl _))).trans (State.raiseBoth_effects _ _)).trans
        (Effects.one (.survey _ _ h ?_))
      rfl
    · exact Effects.one (.survey s _ h)
  · exact Effects.one (.survey s _ h)

theorem State.decideGrants_effects (h : allowsGrantPhase U) (s : State) : Effects U s s.decideGrants := by
  have hl : ∀ arm, U (.lane arm) := by intro arm; cases arm; exacts [h.2.2.1, h.2.2.2.1]
  unfold State.decideGrants
  split
  · exact Effects.one (.survey s _ h.2.2.2.2)
  · rename_i t ht
    dsimp only
    refine Relation.ReflTransGen.trans ?_ (State.updateStandoff_effects h.2.2.2.2 hl _ _ _)
    generalize hr : s.settle t (s.find t s.refillFence .a) (s.find t s.refillFence .b) = r
    have hs := State.settle_findings s t (s.find t s.refillFence .a) (s.find t s.refillFence .b)
    have hv := State.settle_sip s t (s.find t s.refillFence .a) (s.find t s.refillFence .b)
    rw [hr] at hs hv
    refine Relation.ReflTransGen.trans (((Effects.one (.survey s r.2.2 h.2.2.2.2 hv)).trans
      (State.writeBlockers_effects _ .a r.1)).trans (State.writeBlockers_effects _ .b r.2.1)) ?_
    obtain ⟨m1, hm1⟩ := State.writeBlockers_frame (s.setSurvey r.2.2) .a r.1
    obtain ⟨m2, hm2⟩ := State.writeBlockers_frame ((s.setSurvey r.2.2).writeBlockers .a r.1) .b r.2.1
    rw [hm2, hm1]
    have ga : ∀ slot tr, r.1 = .grantable slot tr → s.find t s.refillFence .a = .grantable slot tr := by
      intro slot tr hx
      rcases hs.1 with h1 | h1
      · rw [← h1]; exact hx
      · rw [h1] at hx; exact absurd hx (Finding.lose_ne_grantable _ _ _)
    have gb : ∀ slot tr, r.2.1 = .grantable slot tr → s.find t s.refillFence .b = .grantable slot tr := by
      intro slot tr hx
      rcases hs.2 with h1 | h1
      · rw [← h1]; exact hx
      · rw [h1] at hx; exact absurd hx (Finding.lose_ne_grantable _ _ _)
    refine Relation.ReflTransGen.trans (b := (((s.setSurvey r.2.2).setMem m1).setMem m2).grantFound t .a r.1) ?_ ?_
    · cases hf : r.1 with
      | noHead => exact .refl
      | blocked _ _ _ => exact .refl
      | grantable slot tr =>
        obtain ⟨h1, h2, h3⟩ := (State.find_grantable s t _ .a slot tr).mp (ga _ _ hf)
        obtain ⟨-, h4, -, h5, -⟩ := (State.blockerOf_none s t _ .a tr).mp h3
        exact Effects.one (.grant _ t .a slot tr (hl .a) h.2.1 ht h1 h2 h4 h5)
    · cases hf : r.2.1 with
      | noHead => exact .refl
      | blocked _ _ _ => exact .refl
      | grantable slot tr =>
        obtain ⟨h1, h2, h3⟩ := (State.find_grantable s t _ .b slot tr).mp (gb _ _ hf)
        obtain ⟨-, h4, -, h5, -⟩ := (State.blockerOf_none s t _ .b tr).mp h3
        generalize hx : ((s.setSurvey r.2.2).setMem m1).setMem m2 = x
        have hlx : (x.grantFound t .a r.1).lanes.get .b = s.lanes.get .b := by
          rw [← hx]
          cases r.1 with
          | noHead => rfl
          | blocked _ _ _ => rfl
          | grantable k tr' => exact State.grant_lanes_other _ t .a k tr'
        have hlen : (x.grantFound t .a r.1).cells.length = s.cells.length := by
          rw [← hx]
          cases r.1 with
          | noHead => rfl
          | blocked _ _ _ => rfl
          | grantable k tr' =>
            simp only [State.grantFound, State.grant]
            split
            · have : ∀ (f : Nat → Cell → Cell) (n : Nat) (cs : List Cell), (mapCells f n cs).length = cs.length := by
                intro f n cs
                induction cs generalizing n with
                | nil => rfl
                | cons c cs ih => simp [mapCells, ih]
              simp [State.writeWord, State.claim, State.putCells, this]
            · rfl
        refine Effects.one (.grant _ t .b slot tr (hl .b) h.2.1 ?_ ?_ ?_ ?_ ?_)
        · rw [← hx]; simpa using ht
        · rw [hlx]; exact h1
        · unfold State.entry; rw [hlx]; exact h2
        · rw [hlx]; exact h4
        · rw [hlen]
          intro hu
          refine h5 ?_
          rw [← hx] at hu
          simpa [State.refillFence] using hu

theorem State.captureView_effects (s : State) : Effects U s s.captureView := by
  refine State.writeWords_effects s _ _ (fun k hk => ?_)
  simp only [List.length_map, List.length_range] at hk
  exact plainWord_header _ (by omega) (by omega) (by omega)

theorem State.endGrantPhase_effects (h : U .survey) (s : State) : Effects U s s.endGrantPhase := by
  unfold State.endGrantPhase State.writeSurveyRecord
  refine (Effects.one (.survey s { s.survey with count := s.survey.count + 1 } h)).trans ?_
  refine (State.writeWords_effects _ _ _ (fun k hk => ?_)).trans (State.writeWords_effects _ _ _ (fun k hk => ?_))
  · simp only [List.length_cons, List.length_nil] at hk
    exact plainWord_header _ (by omega) (by omega) (by omega)
  · simp only [List.length_cons, List.length_nil] at hk
    exact plainWord_header _ (by omega) (by omega) (by omega)

theorem State.grantPhaseBody_effects (h : allowsGrantPhase U) (s : State) (during : List Arrival) :
    Effects U s (s.grantPhaseBody during) := by
  unfold State.grantPhaseBody
  dsimp only
  refine Relation.ReflTransGen.trans ?_ (State.endGrantPhase_effects h.2.2.2.2 _)
  refine Relation.ReflTransGen.trans ?_ (State.captureView_effects _)
  refine Relation.ReflTransGen.trans ?_ (State.arriveFrom_effects h.1 _ during 321)
  split
  · exact State.arriveWhen_effects h.1 s during _
  · exact (((State.intakeLane_effects s .a h.1 h.2.2.1 h.2.1 during).trans
      (State.intakeLane_effects _ .b h.1 h.2.2.2.1 h.2.1 during)).trans
      (State.arriveAt_effects h.1 _ during 320)).trans (State.decideGrants_effects h _)

/-! ## The survey tick -/

/-- What a tick may touch. -/
abbrev allowsTick (U : Part → Prop) : Prop :=
  allowsArrivals U ∧ U .survey ∧ U .install ∧ U .fence ∧ U .accepted

theorem State.dropInstall_effects (h : U .install) (s : State) (st : InstallState)
    (hst : st = .expired ∨ st = .abandoned) : Effects U s (s.dropInstall st) := by
  refine Effects.one (.install s _ h (fun _ => ?_))
  rcases hst with rfl | rfl <;> simp [Install.Ok]

/-- R181: the copy takes 32 zone records. -/
@[simp] theorem ZoneTable.ofWords_zones_length (ws : List Word) : (ZoneTable.ofWords ws).zones.length = 32 := by
  simp [ZoneTable.ofWords]

/-- R181: the copy takes 32 refill entries. -/
@[simp] theorem ZoneTable.ofWords_refillEntries_length (ws : List Word) :
    (ZoneTable.ofWords ws).refillEntries.length = 32 := by
  simp [ZoneTable.ofWords]

section
variable (h : allowsTick U) (s : State)
include h

theorem State.beginInstall_effects (p : Port) (tag : Byte) (k : GateMask) (w : Nat) (t : ZoneTable)
    (hp : s.install.state ≠ .pending) (hz : t.zones.length = 32) (hr : t.refillEntries.length = 32) :
    Effects U s (s.beginInstall p tag k w t) := by
  unfold State.beginInstall
  split
  · refine (Effects.one (.install s _ h.2.2.1 (fun hi => ?_))).trans (State.writeMailResult_effects _ p _ _ tag)
    obtain ⟨h1, h2, -, -⟩ := hi
    have e1 : s.install.pendingTable = none := by
      cases hx : s.install.pendingTable with
      | none => rfl
      | some x => exact absurd (h1.mp (by simp [hx])) hp
    have e2 : s.install.window = none := by
      cases hx : s.install.window with
      | none => rfl
      | some x => exact absurd (h2.mp (by simp [hx])) hp
    simp [Install.Ok, e1, e2]
  · rename_i hv
    refine (Effects.one (.install s _ h.2.2.1 (fun _ => ?_))).trans (State.writeMailResult_effects _ p _ _ tag)
    simp [Install.Ok, hv, hz, hr]

theorem State.takeMail_effects (during : List Arrival) (point : Nat) (p : Port) (tag : Byte) (c : MailCommand) :
    Effects U s (s.takeMail during point p tag c) := by
  unfold State.takeMail
  split
  · exact State.writeMailResult_effects s p _ _ tag
  · rename_i hn
    unfold State.carryOutAtOnce
    cases c with
    | install k w =>
      dsimp only
      refine (readRun_effects h.1 s during 256 point 0x300).trans (State.beginInstall_effects h _ p tag k w _ ?_
        (ZoneTable.ofWords_zones_length _) (ZoneTable.ofWords_refillEntries_length _))
      rw [readRun_keeps (fun s => s.install) (fun s e => State.arrive_install s e)]
      intro hp
      unfold State.mailRefusal at hn
      (repeat' split at hn) <;> simp_all [MailCommand.isInstall]
    | abandon =>
      refine Relation.ReflTransGen.trans ?_ (State.writeMailResult_effects _ p _ _ tag)
      unfold State.abandon
      split
      · exact State.dropInstall_effects h.2.2.1 s _ (.inr rfl)
      · exact .refl
    | fence n zs =>
      refine (Effects.one (.fence s zs h.2.2.2.1 ?_)).trans (State.writeMailResult_effects _ p _ _ tag)
      unfold State.mailRefusal at hn
      by_cases hb : s.badArgument (.fence n zs) = true
      · simp [hb] at hn
      · simp only [State.badArgument, State.badFence, Bool.or_eq_true, not_or] at hb
        simp only [State.badFence]
        simpa using hb.2
    | priority m o =>
      dsimp only
      split
      · exact (Effects.one (.survey s _ h.2.1)).trans (State.writeMailResult_effects _ p _ _ tag)
      · exact .refl
    | hold v => exact (Effects.one (.survey s _ h.2.1)).trans (State.writeMailResult_effects _ p _ _ tag)
    | period v => exact (Effects.one (.survey s _ h.2.1)).trans (State.writeMailResult_effects _ p _ _ tag)
    | clearStop a =>
      dsimp only
      split
      · exact Effects.one (.accepted s _ h.2.2.2.2)
      · exact .refl
    | restartLane a =>
      dsimp only
      split
      · exact Effects.one (.accepted s _ h.2.2.2.2)
      · exact .refl
    | unknown => exact .refl

theorem State.visitMailbox_effects (during : List Arrival) (p : Port) : Effects U s (s.visitMailbox during p) := by
  unfold State.visitMailbox
  dsimp only
  have h1 := readRecord_effects h.1 s during (mailPoint p) (mailboxBase p) (mailboxBase p + 16) 16
  split
  · split
    · exact h1.trans (State.takeMail_effects h _ during _ p _ _)
    · exact (h1.trans (State.takeMail_effects h _ during _ p _ _)).trans (State.arriveBetween_effects h.1 _ during _ _)
  · exact h1.trans (State.arriveBetween_effects h.1 _ during _ _)

theorem State.surveyTick_effects (during : List Arrival) : Effects U s (s.surveyTick during) := by
  unfold State.surveyTick
  split
  · dsimp only
    exact ((((Effects.one (.survey s _ h.2.1)).trans (Effects.one (.sip _ true h.2.1))).trans
      (State.visitMailbox_effects h _ during .a)).trans (State.visitMailbox_effects h _ during .b)).trans
      (State.requestTogether_effects _ _)
  · exact .refl

end

theorem State.surveyEnd_effects (h : U .survey) (s : State) : Effects U s s.surveyEnd := by
  unfold State.surveyEnd
  split
  · refine ((Effects.one (.survey s _ h ?_)).trans (Effects.one (.sip _ false h))).trans (State.raiseBoth_effects _ _)
    unfold Survey.ended
    split <;> rfl
  · exact .refl

theorem State.windowExpiry_effects (h : U .install) (s : State) : Effects U s s.windowExpiry := by
  unfold State.windowExpiry
  split
  · exact .refl
  · split
    · exact State.dropInstall_effects h s _ (.inl rfl)
    · exact .refl

/-! ## The configuration service -/

/-- What a configuration service may touch. -/
abbrev allowsConfiguration (U : Part → Prop) : Prop :=
  allowsArrivals U ∧ U .claims ∧ U (.lane .a) ∧ U (.lane .b) ∧ U .accepted ∧ U .swap

theorem State.carryClear_effects (h : U .claims) (he : ∀ arm, U (.enf arm)) (s : State) (c : Accepted) (arm : Arm) :
    Effects U s (s.carryClear c arm) := by
  unfold State.carryClear
  split
  · exact State.writeMailResult_effects s _ _ _ _
  · rename_i hs
    exact (Effects.one (.clearStop s arm (he arm) h hs)).trans (State.writeMailResult_effects _ _ _ _ _)

/-- A lane's record after a slot's entry or lists change, seen from the lane. -/
theorem State.endWaiting_lane (s : State) (arm : Arm) (slot : Slot) (st : SlotState) :
    (s.endWaiting arm slot st).lanes.get arm =
      { (s.lanes.get arm) with
        slots := (s.lanes.get arm).slots.set slot.val { ((s.lanes.get arm).slots.get slot) with state := st }
        waitingList := (s.lanes.get arm).waitingList.filter (fun k => k != slot) } := by
  unfold State.endWaiting State.dropWaiting State.writeSlotState State.setEntry State.entry
  simp [State.modLane]

theorem Vector_get_set_slot {α : Type} (v : Vector α 16) (slot k : Slot) (x : α) :
    (v.set slot.val x).get k = if k = slot then x else v.get k := by
  simp only [Vector.get_eq_getElem, Vector.getElem_set]
  by_cases hk : k = slot
  · simp [hk]
  · have : ¬ slot.val = k.val := fun e => hk (Fin.ext e.symm)
    simp [hk, this]

/-- R95, R97: ending waiting traverses one after another. -/
theorem State.withdrawRun_effects (arm : Arm) (h : U (.lane arm)) (r : SlotResult) (l : List Slot) (s : State)
    (hn : l.Nodup) (hw : ∀ k ∈ l, (s.entry arm k).state = .waiting) :
    Effects U s (l.foldl (fun s k => (s.endWaiting arm k .withdrawn).writeResult arm k r none) s) := by
  induction l generalizing s with
  | nil => exact .refl
  | cons k l ih =>
    rw [List.foldl_cons]
    rw [List.nodup_cons] at hn
    refine Relation.ReflTransGen.trans ((Effects.one (.endWaiting s arm k h (hw k (by simp)))).trans
      (State.writeResult_effects _ arm k _ _)) (ih _ hn.2 (fun j hj => ?_))
    unfold State.entry
    simp only [State.writeResult_lanes, State.endWaiting_lane, Vector_get_set_slot]
    have : j ≠ k := fun e => hn.1 (e ▸ hj)
    simp only [this, if_false]
    exact hw j (by simp [hj])

/-- What a run of withdrawals leaves of the lane: the granted list as it was, and no other slot's state changed but to
WITHDRAWN. -/
theorem State.withdrawRun_lane (arm : Arm) (r : SlotResult) (l : List Slot) (s : State) :
    let t := l.foldl (fun s k => (s.endWaiting arm k .withdrawn).writeResult arm k r none) s
    (t.lanes.get arm).grantedList = (s.lanes.get arm).grantedList ∧
      ∀ k : Slot, (t.entry arm k).state = if k ∈ l then .withdrawn else (s.entry arm k).state := by
  induction l generalizing s with
  | nil => simp
  | cons j l ih =>
    obtain ⟨h1, h2⟩ := ih ((s.endWaiting arm j .withdrawn).writeResult arm j r none)
    dsimp only [List.foldl_cons]
    refine ⟨by rw [h1]; simp [State.endWaiting_lane], fun k => ?_⟩
    rw [h2 k]
    unfold State.entry
    simp only [State.writeResult_lanes, State.endWaiting_lane, Vector_get_set_slot, List.mem_cons]
    by_cases hk : k = j <;> by_cases hm : k ∈ l <;> simp [hk, hm]

theorem mem_slotOrder (k : Slot) : k ∈ slotOrder := by revert k; decide

theorem Lane.mem_slotsIn (l : Lane) (st : SlotState) (k : Slot) : k ∈ l.slotsIn st ↔ (l.slots.get k).state = st := by
  unfold Lane.slotsIn
  simp [mem_slotOrder]

theorem Lane.slotsIn_nodup (l : Lane) (st : SlotState) : (l.slotsIn st).Nodup :=
  List.Nodup.filter _ (by decide)

theorem State.endGranted_lane (s : State) (arm : Arm) (slot : Slot) :
    (s.endGranted arm slot).lanes.get arm =
      { (s.lanes.get arm) with
        slots := (s.lanes.get arm).slots.set slot.val { ((s.lanes.get arm).slots.get slot) with state := .done }
        grantedList := (s.lanes.get arm).grantedList.filter (fun k => k != slot) } := by
  unfold State.endGranted State.dropGranted State.writeSlotState State.setEntry State.entry
  simp [State.modLane]

theorem List_filter_ne_of_nodup {α : Type} [DecidableEq α] (x : α) (l : List α) (h : (x :: l).Nodup) :
    (x :: l).filter (fun k => k != x) = l := by
  rw [List.nodup_cons] at h
  simp only [List.filter_cons, bne_self_eq_false, Bool.false_eq_true, if_false]
  rw [List.filter_eq_self]
  intro y hy
  simp only [bne_iff_ne]
  exact fun e => h.1 (e ▸ hy)

/-- R95: the releases of a lane restart, of a list that is the lane's granted list. -/
theorem releaseRun_effects (ha : allowsArrivals U) (during : List Arrival) (arm : Arm) (h : U (.lane arm)) (h' : U .claims)
    (l : List Slot) (point : Nat) (s : State) (hl : (s.lanes.get arm).grantedList = l) (hn : l.Nodup) :
    Effects U s (releaseRun during arm point l s) := by
  induction l generalizing point s with
  | nil => exact .refl
  | cons k l ih =>
    simp only [releaseRun]
    have hx : (s.arriveAt during point).lanes = s.lanes :=
      State.arriveWhen_keeps (fun s => s.lanes) (fun s e => State.arrive_lanes s e) s during _
    refine Relation.ReflTransGen.trans (((State.arriveAt_effects ha s during point).trans
      (Effects.one (.endGranted _ arm k h h' (.inl (by rw [hx, hl]; simp))))).trans
      (State.writeResult_effects _ arm k _ _)) (ih (point + 1) _ ?_ (List.nodup_cons.mp hn).2)
    simp only [State.writeResult_lanes, State.endGranted_lane, hx, hl]
    exact List_filter_ne_of_nodup k l hn

/-- What the releases leave of the lane: an empty granted list, and a waiting slot only where there was one. -/
theorem releaseRun_lane (during : List Arrival) (arm : Arm) (l : List Slot) (point : Nat) (s : State)
    (hl : (s.lanes.get arm).grantedList = l) (hn : l.Nodup) :
    let t := releaseRun during arm point l s
    (t.lanes.get arm).grantedList = [] ∧
      ∀ k : Slot, (t.entry arm k).state = .waiting → (s.entry arm k).state = .waiting := by
  induction l generalizing point s with
  | nil => exact ⟨hl, fun _ h => h⟩
  | cons j l ih =>
    have hx : (s.arriveAt during point).lanes = s.lanes :=
      State.arriveWhen_keeps (fun s => s.lanes) (fun s e => State.arrive_lanes s e) s during _
    simp only [releaseRun]
    obtain ⟨h1, h2⟩ := ih (point + 1) (((s.arriveAt during point).endGranted arm j).writeResult arm j .restarted none)
      (by simp only [State.writeResult_lanes, State.endGranted_lane, hx, hl]; exact List_filter_ne_of_nodup j l hn)
      (List.nodup_cons.mp hn).2
    refine ⟨h1, fun k hk => ?_⟩
    have := h2 k hk
    unfold State.entry at this ⊢
    simp only [State.writeResult_lanes, State.endGranted_lane, hx, Vector_get_set_slot] at this
    by_cases hj : k = j
    · simp [hj] at this
    · simpa [hj] using this

theorem State.absorbSlot_effects (s : State) (arm : Arm) (slot : Slot) : Effects U s (s.absorbSlot arm slot) := by
  unfold State.absorbSlot
  dsimp only
  split
  · exact .refl
  · exact (State.writeResult_effects s arm slot _ _).trans (State.writeTag_effects _ arm slot _)

theorem State.restartLane_effects (ha : allowsArrivals U) (during : List Arrival) (point : Nat) (arm : Arm)
    (h : U (.lane arm)) (h' : U .claims) (s : State) (hn : (s.lanes.get arm).grantedList.Nodup) :
    Effects U s (s.restartLane during point arm) := by
  unfold State.restartLane
  dsimp only
  have w := State.withdrawRun_lane arm .restarted ((s.lanes.get arm).slotsIn .waiting) s
  dsimp only at w
  have r := releaseRun_lane during arm (s.lanes.get arm).grantedList point _ w.1 hn
  dsimp only at r
  refine Relation.ReflTransGen.trans ?_ (Effects.one (.raise _ _ _))
  refine Relation.ReflTransGen.trans ?_ (Effects.foldl _ (fun s k => State.absorbSlot_effects s arm k) _ _)
  refine Relation.ReflTransGen.trans ?_ (Effects.one (.laneClear _ arm h (fun k hk => ?_) r.1))
  · exact (State.withdrawRun_effects arm h _ _ s (Lane.slotsIn_nodup _ _)
      (fun k hk => (Lane.mem_slotsIn _ _ k).mp hk)).trans
      (releaseRun_effects ha during arm h h' _ point _ w.1 hn)
  · have := r.2 k hk
    rw [w.2 k] at this
    split at this
    · cases this
    · rename_i hk'
      exact hk' ((Lane.mem_slotsIn _ _ k).mpr this)

theorem State.testGate_effects (h : U .swap) (s : State) : Effects U s s.testGate := by
  unfold State.testGate
  split
  · exact .refl
  · rename_i p hp
    split
    · rename_i hg
      exact Effects.one (.swap s p h hp hg)
    · exact .refl

/-- No slot stands twice in a lane's granted list. -/
abbrev State.grantedNodup (s : State) : Prop := ∀ arm, (s.lanes.get arm).grantedList.Nodup

theorem releaseRun_lanes_other (during : List Arrival) (arm other : Arm) (h : other ≠ arm) (l : List Slot) (point : Nat)
    (s : State) : (releaseRun during arm point l s).lanes.get other = s.lanes.get other := by
  induction l generalizing point s with
  | nil => rfl
  | cons j l ih =>
    have hx : (s.arriveAt during point).lanes = s.lanes :=
      State.arriveWhen_keeps (fun s => s.lanes) (fun s e => State.arrive_lanes s e) s during _
    simp only [releaseRun]
    rw [ih]
    unfold State.endGranted State.dropGranted State.writeSlotState State.setEntry
    simp [State.modLane, hx, Pair_get_modify_of_ne _ _ _ _ h]

theorem withdrawRun_lanes_other (arm other : Arm) (h : other ≠ arm) (r : SlotResult) (l : List Slot) (s : State) :
    (l.foldl (fun s k => (s.endWaiting arm k .withdrawn).writeResult arm k r none) s).lanes.get other =
      s.lanes.get other := by
  induction l generalizing s with
  | nil => rfl
  | cons j l ih =>
    rw [List.foldl_cons, ih]
    unfold State.endWaiting State.dropWaiting State.writeSlotState State.setEntry
    simp [State.modLane, Pair_get_modify_of_ne _ _ _ _ h]

theorem State.absorbSlot_lanes (s : State) (arm : Arm) (slot : Slot) : (s.absorbSlot arm slot).lanes = s.lanes := by
  unfold State.absorbSlot
  dsimp only
  split <;> simp

theorem absorbRun_lanes (arm : Arm) (l : List Slot) (s : State) :
    (l.foldl (fun s k => s.absorbSlot arm k) s).lanes = s.lanes := by
  induction l generalizing s with
  | nil => rfl
  | cons j l ih => rw [List.foldl_cons, ih, State.absorbSlot_lanes]

/-- A lane restart leaves the other lane as it was and its own lane UNSET with empty lists. -/
theorem State.restartLane_lanes (s : State) (during : List Arrival) (point : Nat) (arm : Arm) :
    ((s.restartLane during point arm).lanes.get arm.other = s.lanes.get arm.other) ∧
      (((s.restartLane during point arm).lanes.get arm).next = none ∧
        ((s.restartLane during point arm).lanes.get arm).waitingList = [] ∧
        ((s.restartLane during point arm).lanes.get arm).grantedList = []) := by
  unfold State.restartLane
  dsimp only
  rw [State.raise_lanes, absorbRun_lanes]
  constructor
  · simp [State.modLane, releaseRun_lanes_other during arm arm.other (by simp),
      withdrawRun_lanes_other arm arm.other (by simp)]
  · simp [State.modLane]

theorem State.carryOut_effects (ha : allowsArrivals U) (during : List Arrival) (point : Nat) (c : Accepted)
    (h : ∀ arm, U (.lane arm)) (h' : U .claims) (s : State) (hn : s.grantedNodup) :
    Effects U s (s.carryOut during point c) := by
  unfold State.carryOut
  split
  · rename_i arm _
    exact ((State.arriveAt_effects ha s during point).trans
      (State.carryClear_effects h' (fun x => (ha.feed x).2.1) _ c arm)).trans (State.arriveBetween_effects ha _ during _ _)
  · rename_i arm _
    exact ((State.restartLane_effects ha during point arm (h arm) h' s (hn arm)).trans
      (State.writeMailResult_effects _ _ _ _ _)).trans (State.arriveBetween_effects ha _ during _ _)

theorem State.carryClear_lanes (s : State) (c : Accepted) (arm : Arm) : (s.carryClear c arm).lanes = s.lanes := by
  unfold State.carryClear
  split <;> simp

theorem State.carryOut_grantedNodup (during : List Arrival) (point : Nat) (c : Accepted) (s : State)
    (hn : s.grantedNodup) : (s.carryOut during point c).grantedNodup := by
  have ka (s : State) (p : Nat → Bool) : (s.arriveWhen during p).lanes = s.lanes :=
    State.arriveWhen_keeps (fun s => s.lanes) (fun s e => State.arrive_lanes s e) s during p
  unfold State.carryOut
  split
  · unfold State.arriveBetween State.arriveAt State.grantedNodup
    simp only [ka, State.carryClear_lanes]
    exact hn
  · rename_i arm _
    unfold State.arriveBetween State.grantedNodup
    simp only [ka, State.writeMailResult_lanes]
    intro x
    have := State.restartLane_lanes s during point arm
    by_cases hx : x = arm
    · subst hx
      rw [this.2.2.2]
      exact List.nodup_nil
    · have e : x = arm.other := by cases x <;> cases arm <;> first | rfl | exact absurd rfl hx
      subst e
      rw [this.1]
      exact hn _

theorem carryOutAll_effects (ha : allowsArrivals U) (during : List Arrival) (h : ∀ arm, U (.lane arm)) (h' : U .claims)
    (l : List Accepted) (point : Nat) (s : State) (hn : s.grantedNodup) :
    Effects U s (carryOutAll during point l s) := by
  induction l generalizing point s with
  | nil => exact State.arriveBetween_effects ha s during _ _
  | cons c l ih =>
    exact (State.carryOut_effects ha during point c h h' s hn).trans
      (ih _ _ (State.carryOut_grantedNodup during point c s hn))

theorem State.configurationBody_effects (h : allowsConfiguration U) (during : List Arrival) (s : State)
    (hn : s.grantedNodup) : Effects U s (s.configurationBody during) := by
  unfold State.configurationBody
  dsimp only
  refine Relation.ReflTransGen.trans ?_ (State.requestTogether_effects _ _)
  refine Relation.ReflTransGen.trans ?_ (State.arriveAt_effects h.1 _ during 41)
  refine Relation.ReflTransGen.trans ?_ (State.testGate_effects h.2.2.2.2.2 _)
  refine Relation.ReflTransGen.trans ?_ (State.arriveAt_effects h.1 _ during 40)
  exact (Effects.one (.accepted s [] h.2.2.2.2.1)).trans (carryOutAll_effects h.1 during
    (fun arm => by cases arm; exact h.2.2.1; exact h.2.2.2.1) h.2.1 _ 0 _ hn)

end Sys2Proof.Machine
end

