-- ==== Sys2Proof/WellFormed.lean ====
section
/-! DEFINITION. Which commands the table's rows stand for: a row that says which write it is (a PLOCK write with
REQUEST, a write to the staging table …) is that write only. The meanings themselves are total: an ill-formed command
does what the spec gives the access that its operands make (log 18). -/

namespace Sys2Proof

/-- The points at which an arrival may fall in a frame evaluation: before each of the seven stages of R126 (1–7). -/
def Arrival.inEvaluation (x : Arrival) : Bool := decide (1 ≤ x.point) && decide (x.point ≤ 7)

/-- The points of a survey tick: for mailbox A from 0 and for mailbox B from 300, 18 reads (R159) and then the 256
reads of an INSTALL's copy (R165). -/
def Arrival.inTick (x : Arrival) : Bool := decide (x.point < 600) && decide (x.point % 300 < 274)

/-- The points of a configuration service: from 0 and from 20 the releases of the first and the second accepted
command, 40 before the gate test, 41 after the swap. -/
def Arrival.inConfiguration (x : Arrival) : Bool := decide (x.point ≤ 41)

/-- The points of a grant phase: ten reads for each of the sixteen slots of lane A and of lane B (R81), 320 before the
grant decision, 321 before the zone view capture. -/
def Arrival.inGrantPhase (x : Arrival) : Bool := decide (x.point ≤ 321)

/-- R178, R179, R182, R185: the operands a row's own words require. -/
def Instr.wellFormed : Instr → Bool
  | .powerOn => true
  | .resetNAssert => true
  | .resetNRelease => true
  | .readyRise => true
  | .frameComplete _ chars => !chars.isEmpty
  | .missTimerExpiry _ => true
  | .lossGraceExpiry _ => true
  | .stateSnapshotWrite _ => true
  | .frameEvaluation _ during => during.all Arrival.inEvaluation
  | .surveyTick during => during.all Arrival.inTick
  | .configurationService during => during.all Arrival.inConfiguration
  | .refillTest => true
  | .surveyGrantPhase during => during.all Arrival.inGrantPhase
  | .surveyEnd => true
  | .rfreqChange _ => true
  | .debounceExpiry => true
  | .stallTimerExpiry => true
  | .installWindowExpiry => true
  | .lockRequest _ value _ => value.getLsbD 0 && !value.getLsbD 1
  | .lockRelease _ value => value.getLsbD 1
  | .pstatRead _ => true
  | .pmaskWrite _ _ => true
  | .pguardRead _ => true
  | .registerWrite _ select _ => decide (select ≠ 2#3) && decide (select ≠ 3#3)
  | .stagingWrite _ _ _ => true
  | .memoryWrite _ addr _ => decide (addr.toNat < 0x300) || decide (0x400 ≤ addr.toNat)
  | .feedIdleSeen _ => true

end Sys2Proof
end

