-- ==== Sys2Proof/Tests/Slice0.lean ====
section
/-! SUPPORT. Tests of the model against figures written in the spec, and for each statement with hypotheses a concrete state
and operands that meet them (`meets_…`, one clause after another, at the boundary values). -/

open Sys2Proof Sys2Proof.Machine

namespace Sys2Proof.Tests

-- One theorem at a time: many kernel evaluations at once ask for more threads than a small machine has.
set_option Elab.async false

/-! ## The tote table of section 1.5 and states built on it -/

/-- A slab of columns lo to hi, every row and every tier. -/
def slab (lo hi : BitVec 4) : Zone := ⟨lo, hi, 0, 0, 0, 0, false, true, true⟩

/-- Arm A's fields in section 3.9, and arm B's in section 3.10. -/
def armA : ArmFields := ⟨200, 100, 2600, false, false, 150, 150, 300, 3, 8, 4, 1000, 3, 2, 20, 3⟩
def armB : ArmFields := ⟨7000, 100, 2600, true, false, 150, 150, 300, 2, 8, 4, 1000, 3, 2, 20, 3⟩

/-- The tote table: four slabs, the top tier as the refill set, and the deep centre pocket. -/
def tote : ZoneTable where
  serial := 1
  px := 400
  py := 300
  pz := 750
  nz := 6
  sc := 3
  rdr := 20
  rdf := 50
  rsl := 200
  refillCount := 1
  refillEntries := 4 :: List.replicate 31 0
  zones := [slab 0 3, slab 4 7, slab 8 11, slab 12 15, ⟨0, 0, 0, 0, 3, 3, true, true, false⟩,
    ⟨6, 9, 6, 9, 0, 1, false, false, false⟩] ++ List.replicate 26 Zone.blank
  arms := ⟨armA, armB⟩

/-- What a command leaves. -/
def after (c : Instr) (s : State) : State :=
  match exec c s with
  | .next t => t
  | .fault _ => s
  | .refused _ => s

/-- The part after READY has risen; with the tote table in force; and with both feeds STEADY and both arms seated. -/
def ready : State := { State.reset with ready := true, survey := { Survey.reset with timer := some 250000 } }
def idleFeed : Feed := { Feed.reset with idleSeen := true }
def live : State := { ready with active := some tote, feeds := ⟨idleFeed, idleFeed⟩ }
def runningFeed (st : FeedState) (good fault : Nat) : Feed :=
  { idleFeed with state := st, goodRun := good, faultRun := fault, lastSeq := some 41, missTimer := some 1500000 }
def steadyFeed : Feed := runningFeed .steady 3 0
def clearEnf : Enforcement := ⟨⟨false, false, false, false, false, false⟩, ⟨false, false, false, false⟩, true, 15, false⟩
def steady : State := { live with feeds := ⟨steadyFeed, steadyFeed⟩, enf := ⟨clearEnf, clearEnf⟩ }

/-- A state with another feed on arm A. -/
def withFeed (s : State) (f : Feed) : State := { s with feeds := { s.feeds with a := f } }
/-- A state in which one request waits. -/
def serving (s : State) (r : Request) : State := { s with waiting := [[r]] }
/-- A state with words put in exchange memory. -/
def withWords (s : State) (ws : List (Nat × Word)) : State := { s with mem := Memory.writeAll s.mem ws }

/-- A lane that holds in slot 0 a WAITING traverse with the number n and these zones. -/
def waitingLane (n : Word) (zones : List Nat) : Lane :=
  { Lane.reset with
    next := some n, waitingList := [0]
    slots := Lane.reset.slots.set 0 ⟨.waiting, some ⟨n, .openEnded, 1, 0, zones⟩⟩ }
/-- A lane that holds in slot 15 a GRANTED traverse with the number n and these zones. -/
def grantedLane (n : Word) (m : Mode) (remaining : Nat) (zones : List Nat) : Lane :=
  { Lane.reset with
    next := some (n + 1), grantedList := [15]
    slots := Lane.reset.slots.set 15 ⟨.granted, some ⟨n, m, 5, remaining, zones⟩⟩ }
/-- Cell records in which arm A holds zone za once and arm B zone zb once. -/
def heldCell (za zb i : Nat) : Cell :=
  if tote.zoneHas za i then ⟨some .a, 1, false⟩ else if tote.zoneHas zb i then ⟨some .b, 1, false⟩ else Cell.unowned
def heldCells (za zb : Nat) : List Cell := (List.range 1024).map (heldCell za zb)
theorem heldCells_get (za zb i : Nat) (h : i < 1024) : (heldCells za zb).getD i Cell.unowned = heldCell za zb i := by
  simp [heldCells, h]
/-- The same records with their tallies. -/
def holding (s : State) (cs : List Cell) : State := { s with cells := cs, tallies := ⟨tallyOf cs .a, tallyOf cs .b⟩ }

/-! ## Figures of the spec -/

theorem test_tote_is_valid : tote.validate = none := by decide +kernel

/-- Section 1.5's second example: the reason after each repair. -/
theorem test_refusals_of_one_staged_table :
    let bad := fun (tier : BitVec 4) (count : Word) (w : Word) (pr : Word) => ({ tote with
      refillCount := count, refillEntries := 4 :: 6 :: List.replicate 30 0
      zones := tote.zones.set 5 ⟨6, 9, 6, 9, 0, tier, false, false, false⟩
      arms := ⟨{ armA with pr := pr }, { armB with w := w }⟩ } : ZoneTable).validate
    bad 4 2 9 0 = some .zoneRange ∧ bad 1 2 9 0 = some .refillZone ∧ bad 1 1 9 0 = some .armWindow ∧
      bad 1 1 4 0 = some .timing ∧ bad 1 1 4 3 = none := by decide +kernel

/-- Section 1.5: zones 1 and 5 together have 272 cells. -/
theorem test_zones_1_and_5_have_272_cells :
    ((List.range 1024).filter (tote.setHas [5, 1, 5])).length = 272 := by decide +kernel

/-- Section 2.3's frame: sequence 42, position (1850, 2230, −400), check byte 0x57. -/
def bytes42 : List Byte := [0x5C, 0x11, 0x2A, 0x3A, 0x07, 0xB6, 0x08, 0x70, 0xFE, 0x57]
def chars42 : List LineChar := bytes42.map (fun b => ⟨b, true⟩)

theorem test_check_byte_of_frame_42 :
    checkByte bytes42 = 0x57 ∧ badFrame .a bytes42 = false ∧ badFrame .b bytes42 = true ∧
      bytes42 = feedBytes .a 1 42 1850 2230 (BitVec.ofInt 16 (-400)) := by decide +kernel

def held42 (brake : Bool) : HeldFrame := ⟨1850, 2230, BitVec.ofInt 16 (-400), true, brake, 42, some 1⟩
def before42 : Reach := { Reach.cleared with position := some ⟨2010, 2330, 2215⟩, firstMark := false }

/-- Section 3.9: position, velocity, stop reach, stop point and the cells of both blocks; and with the brake engaged. -/
theorem test_reach_of_frame_42 :
    let r := before42.run tote armA (held42 false)
    r.position = some ⟨2050, 2330, 2200⟩ ∧ r.velocity = ⟨40, 0, -15⟩ ∧ r.stopReach = ⟨1720, 0, 270⟩ ∧
      r.stopPoint = some ⟨3770, 2330, 1930⟩ ∧
      r.envelope = some ⟨⟨1900, 2200, some (4, 5)⟩, ⟨2180, 2480, some (7, 8)⟩, ⟨1900, 2500, some (2, 3)⟩⟩ ∧
      r.sweep = some ⟨⟨1900, 3920, some (4, 9)⟩, ⟨2180, 2480, some (7, 8)⟩, ⟨1630, 2500, some (2, 3)⟩⟩ := by decide +kernel

theorem test_reach_with_the_brake_engaged :
    let r := before42.run tote armA (held42 true)
    r.velocity = ⟨40, 0, -15⟩ ∧ r.stopReach = ⟨0, 0, 0⟩ ∧ r.stopPoint = some ⟨2050, 2330, 2200⟩ ∧ r.sweep = r.envelope := by
  decide +kernel

/-- Section 3.10: arm B over a gap of 2, mirrored on x. -/
theorem test_reach_of_arm_b_over_a_gap :
    let r := ({ Reach.cleared with position := some ⟨3719, 2100, 2100⟩ }).run tote armB
      ⟨3200, 2000, BitVec.ofInt 16 (-500), true, false, 9, some 2⟩
    r.velocity = ⟨41, 0, 0⟩ ∧ r.stopReach = ⟨1763, 0, 0⟩ ∧ r.position = some ⟨3800, 2100, 2100⟩ ∧
      r.envelope = some ⟨⟨3650, 3950, some (9, 9)⟩, ⟨1950, 2250, some (6, 7)⟩, ⟨1800, 2400, some (2, 3)⟩⟩ ∧
      r.sweep = some ⟨⟨3650, 5713, some (9, 14)⟩, ⟨1950, 2250, some (6, 7)⟩, ⟨1800, 2400, some (2, 3)⟩⟩ := by decide +kernel

/-- Section 3.10: rounding and saturation; section 3.11: trimming, and ranges without cells. -/
theorem test_stop_reach_rounding_and_trimming :
    stopReachAxis { armA with dec := 9 } false 37 = 1328 ∧ stopReachAxis { armA with dec := 1, rf := 0 } false 4095 = 8191 ∧
      transformAxis 30000 5000 false = 32767 ∧ indexRange 6150 9100 400 16 = some (15, 15) ∧
      indexRange (-50) 250 300 16 = some (0, 0) ∧ indexRange 2600 3200 750 4 = some (3, 3) ∧
      indexRange 6850 7150 400 16 = none ∧ indexRange (-800) (-200) 750 4 = none := by decide +kernel

/-- R173: what power-on writes is what a release of RESET_N rewrites over an empty memory; the snapshot of arm A shows its
two causes, the status word all four arm lines. -/
theorem test_reset_memory : rewriteGuardWords [] = resetMemory ∧ resetMemory.wf = true ∧ State.reset.statusWord = 0x00F0 := by
  decide +kernel

/-- R174, R163: a release sets a mailbox's result tag to the post tag found. -/
theorem test_release_takes_the_post_tag :
    let s := after .resetNRelease { (withWords ready [(0x0C0, 0x0107), (0x300, 5), (0x400, 9)]) with resetAsserted := true }
    s.word 0x0D0 = 7 ∧ s.word 0x0C0 = 0x0107 ∧ s.word 0x300 = 5 ∧ s.word 0x400 = 0 ∧ s.ready = false := by decide +kernel

theorem test_ready_rise : (after .readyRise State.reset).survey.timer = some 250000 := by decide +kernel

/-- Section 2.9: the third good frame of an acquisition makes the feed STEADY with the gap 1. -/
theorem test_frame_complete :
    let f := (after (.frameComplete .a chars42) (withFeed live (runningFeed .acquiring 2 0))).feeds.a
    f.state = .steady ∧ f.goodRun = 3 ∧ f.lastSeq = some 42 ∧ f.holding = some (held42 false) := by decide +kernel

/-- Section 2.10: the second miss loses the feed and starts 20 ms of grace; its expiry adds FEED_LOSS. -/
theorem test_miss_and_loss_grace :
    let s := after (.missTimerExpiry .a) (withFeed steady (runningFeed .steady 3 1))
    let t := after (.lossGraceExpiry .a) s
    s.feeds.a.state = .lost ∧ s.feeds.a.graceTimer = some 20000000 ∧ s.stopLine .a = false ∧ s.pauseLine .a = true ∧
      t.stopLine .a = true ∧ t.enf.a.stop.feedLoss = true ∧ t.flagSet .stop .a = true := by decide +kernel

theorem test_snapshot_write :
    let s := after (.stateSnapshotWrite .a) { ready with enf := ⟨{ Enforcement.reset with snapshotOrdered := true }, clearEnf⟩ }
    s.word 0x080 = 2 ∧ s.word 0x082 = 7 ∧ s.enf.a.snapshotOrdered = false := by decide +kernel

/-- R126: an acquisition that begins after the arithmetic (here a fault at FC and then a good frame, before the seating) leaves
the sweep of the frame taken made: a lingering cell outside its sweep block is freed (log 31). -/
theorem test_acquisition_after_the_arithmetic :
    let s := { (serving (withFeed steady { (runningFeed .steady 3 1) with holding := some (held42 false) }) (.evaluation .a)) with
      reach := ⟨before42, Reach.cleared⟩
      cells := Cell.unowned :: ⟨some .a, 0, true⟩ :: List.replicate 1022 Cell.unowned }
    let t := after (.frameEvaluation .a [⟨2, .missExpiry .a⟩, ⟨2, .frameComplete .a chars42⟩]) s
    t.cell 1 = Cell.unowned ∧ (t.feeds.get .a).state = .acquiring ∧ (t.reach.get .a).firstMark = true := by decide +kernel

/-- R157: a PLOCK write that falls between the visits to the two mailboxes takes the lock from port B's INSTALL. -/
theorem test_release_between_the_mailboxes :
    let s := withWords { live with lock := ⟨some .b, none, .b⟩ } [(0x0E0, 7), (0x0E1, 5), (0x0E2, 1)]
    (after (.surveyTick []) s).word 0x0F1 = 1 ∧
      (after (.surveyTick [⟨20, .plockWrite .b 2⟩]) s).word 0x0F1 ≠ 1 := by decide +kernel

/-- Section 7.9: arm B's first STEADY frame over a cell of arm A, its lane empty. -/
def conflicted : State :=
  let at7 : HeldFrame := ⟨3800, 2450, BitVec.ofInt 16 (-2225), true, false, 42, some 1⟩
  let s := { steady with
    feeds := ⟨steadyFeed, { steadyFeed with holding := some at7 }⟩
    reach := ⟨Reach.cleared, { before42 with position := some ⟨3200, 2550, 375⟩ }⟩
    enf := ⟨clearEnf, { clearEnf with seated := false, runCounter := 0, pause := { clearEnf.pause with unseated := true } }⟩ }
  serving (holding s ((List.range 1024).map (fun i => if i = 7 + 16 * 8 then ⟨some .a, 0, true⟩ else Cell.unowned)))
    (.evaluation .b)

theorem test_seating_with_a_conflict :
    let t := after (.frameEvaluation .b []) conflicted
    t.enf.b.seated = true ∧ t.enf.b.pause = ⟨false, false, false, false, true, true⟩ ∧
      t.enf.b.stop = ⟨false, true, false, true⟩ ∧ t.cell (8 + 16 * 8) = ⟨some .b, 0, true⟩ ∧
      t.cell (7 + 16 * 8) = ⟨some .a, 0, true⟩ ∧ t.flagSet .stop .b = true := by decide +kernel

/-- Section 1.5's last sentence: an INSTALL of a staging table never written is refused with PITCH. -/
def staged (ws : List (Nat × Word)) : State :=
  withWords { live with lock := ⟨some .a, none, .a⟩ } ([(0x0C0, 7)] ++ ws)

theorem test_install_of_an_empty_staging_table :
    let t := after (.surveyTick []) (staged [(0x0C1, 1), (0x0C3, 100)])
    t.word 0x008 = 0x0103 ∧ t.word 0x0D0 = 7 ∧ t.word 0x0D1 = 1 ∧ t.install.state = .invalid ∧ t.survey.sip = true := by
  decide +kernel

/-- Sections 9.4 and 9.7: the swap of a pending table whose gate is open. -/
def pendingState (mask : GateMask) : State :=
  { (serving steady .configuration) with
    install := ⟨.pending, none, 1, 0, some ⟨tote, mask⟩, some 100000000⟩, active := none }
def noWaive : GateMask := ⟨false, false, false, false, false⟩

theorem test_swap :
    let t := after (.configurationService []) (pendingState noWaive)
    t.active = some tote ∧ t.word 0x008 = 2 ∧ t.word 0x00A = 1 ∧ t.word 0x401 = 400 ∧ t.feeds.a.state = .absent ∧
      t.enf.b.seated = false ∧ t.waiting = [[.grantPhase]] ∧ t.flagSet .install .b = true := by decide +kernel

/-- Section 6.10: the standoff at SC, with lane B's waiting traverses 61, 62 and 64. -/
def laneB64 : Lane where
  next := some 61
  waitingList := [0, 2, 3]
  grantedList := [15]
  slots := (((Lane.reset.slots.set 0 ⟨.waiting, some ⟨61, .openEnded, 1, 0, [1]⟩⟩).set 2
    ⟨.waiting, some ⟨62, .openEnded, 1, 0, [1]⟩⟩).set 3 ⟨.waiting, some ⟨64, .openEnded, 1, 0, [0]⟩⟩).set 15
    ⟨.granted, some ⟨60, .openEnded, 1, 0, [2]⟩⟩
def laneA31 : Lane :=
  { (grantedLane 30 .openEnded 0 [1]) with
    waitingList := [0], slots := (grantedLane 30 .openEnded 0 [1]).slots.set 0 ⟨.waiting, some ⟨31, .openEnded, 1, 0, [2]⟩⟩ }
def standoffAt (n : Nat) : State :=
  { (serving (holding steady (heldCells 1 2)) .grantPhase) with
    lanes := ⟨laneA31, laneB64⟩, survey := { steady.survey with standoff := n } }

theorem test_standoff :
    let t := after (.surveyGrantPhase []) (standoffAt 2)
    t.lanes.b.next = some 65 ∧ t.lanes.b.waitingList = [] ∧ t.survey.standoff = 0 ∧ t.survey.favoured = .b ∧
      t.flagSet .standoff .a = true ∧ t.flagSet .standoff .b = true ∧ t.lanes.a = laneA31 := by decide +kernel

/-- Section 6.9, survey 1: zone 1 against zones 1 and 2, arm A favoured. -/
def contested (zb : List Nat) : State :=
  { (serving steady .grantPhase) with lanes := ⟨waitingLane 20 [1], waitingLane 50 zb⟩ }

theorem test_contest :
    let t := after (.surveyGrantPhase []) (contested [1, 2])
    t.tallies.a.owned = 256 ∧ t.tallies.b.owned = 0 ∧ t.survey.favoured = .b ∧ t.word 0x061 = 1 ∧ t.word 0x20A = 0x0700 := by
  decide +kernel

/-- Section 8.4: the request at 30 ms, the stall at 230 ms. -/
theorem test_refill_request_and_stall :
    let s := after .debounceExpiry { live with rfreq := true, refill := { Refill.reset with debounceTimer := some 20000000 } }
    let t := after .stallTimerExpiry s
    s.refill = ⟨.requested, true, none, false, some 200000000⟩ ∧ s.flagSet .refill .a = true ∧
      t.refill = ⟨.requested, true, none, true, none⟩ ∧ t.word 0x00B = 0x0071 := by decide +kernel

/-- Section 8.4: the grant at 250.5 ms, and the debounce timer of the fall at 700 ms. -/
def requestedRefill (s : State) : State := { s with refill := ⟨.requested, true, none, true, some 5⟩, rfreq := true }

theorem test_refill_grant_and_fall :
    let s := after .refillTest (serving (requestedRefill steady) .refillTest)
    s.rfgnt = true ∧ s.refill.stalled = false ∧ s.refill.stallTimer = none ∧
      (after (.rfreqChange false) s).refill.debounceTimer = some 50000000 := by decide +kernel

/-- Section 9.6, row by row: holder, pending, last holder. -/
theorem test_lock_example :
    let s1 := after (.lockRequest .a 1 true) ready
    let s2 := after (.lockRequest .b 1 false) s1
    let s3 := after (.lockRelease .a 3) s2
    let s4 := after (.lockRequest .a 1 false) s3
    let s5 := after (.lockRelease .a 2) s4
    let s6 := after (.lockRelease .b 2) s5
    let s7 := after (.lockRequest .a 1 true) s6
    s1.lock = ⟨some .a, some .b, .a⟩ ∧ s2.lock = s1.lock ∧ s3.lock = ⟨some .b, none, .b⟩ ∧ s3.flagSet .lock .b = true ∧
      s4.lock = ⟨some .b, some .a, .b⟩ ∧ s5.lock = ⟨some .b, none, .b⟩ ∧ s6.lock = ⟨none, none, .b⟩ ∧
      s7.lock = ⟨some .a, some .b, .a⟩ := by decide +kernel

/-- Section 9.6's last sentences: B's staging write before and after the handover. -/
theorem test_staging_write :
    let s := after (.stagingWrite .b 0 9) { ready with lock := ⟨some .a, some .b, .a⟩ }
    s.word 0x300 = 0 ∧ s.flagSet .misuse .b = true ∧
      (after (.stagingWrite .b 0 9) { ready with lock := ⟨some .b, none, .b⟩ }).word 0x300 = 9 := by decide +kernel

/-- R182–R186 and R171 at single accesses. -/
theorem test_port_registers :
    (after (.pstatRead .a) (ready.raise .misuse .a)).ports.a = { PortRegs.reset with readData := 0x8400 } ∧
      (after (.pmaskWrite .b 0xF801) ready).ports.b.mask = 1 ∧
      (after (.pguardRead .a) ready).ports.a = ⟨0, 0, .present, 0x0033, 0x8033⟩ ∧
      (after (.registerWrite .a 0 1) ready).flagSet .misuse .a = true ∧
      ready.pid .a = 0xA411 ∧ ready.pid .b = 0xE411 := by decide +kernel

theorem test_memory_write :
    (after (.memoryWrite .a 0x107 5) ready).word 0x107 = 5 ∧ (after (.memoryWrite .a 0x108 5) ready).word 0x108 = 0 ∧
      (after (.memoryWrite .b 0x107 5) ready).flagSet .misuse .b = true := by decide +kernel

/-- R81: a port that writes the post tag between the two reads of it leaves the slot for the next survey. -/
theorem test_torn_post :
    let s := withWords live [(0x100, 1), (0x101, 9)]
    (s.visitSlot [⟨5, .portWrite .a 0x100 2⟩] .a 0).word 0x108 = 0 ∧ (s.visitSlot [] .a 0).word 0x108 = 1 ∧
      (s.visitSlot [] .a 0).word 0x109 = 0x0B02 := by decide +kernel

theorem test_survey_end :
    let t := after .surveyEnd { ready with survey := { ready.survey with sip := true, restart := true } }
    t.survey.sip = false ∧ t.survey.timer = some 250000 ∧ t.flagSet .survey .a = true := by decide +kernel

theorem test_install_window :
    (after .installWindowExpiry (pendingState noWaive)).word 0x008 = 4 := by decide +kernel

/-! ## Ill-formed commands -/

theorem test_ill_formed_commands :
    (Instr.frameComplete .a []).wellFormed = false ∧ (Instr.frameEvaluation .a [⟨0, .missExpiry .a⟩]).wellFormed = false ∧
      (Instr.frameEvaluation .a [⟨8, .missExpiry .a⟩]).wellFormed = false ∧
      (Instr.surveyTick [⟨274, .missExpiry .a⟩]).wellFormed = false ∧
      (Instr.surveyTick [⟨600, .missExpiry .a⟩]).wellFormed = false ∧
      (Instr.configurationService [⟨42, .missExpiry .a⟩]).wellFormed = false ∧
      (Instr.surveyGrantPhase [⟨322, .missExpiry .a⟩]).wellFormed = false ∧
      (Instr.lockRequest .a 0 false).wellFormed = false ∧ (Instr.lockRequest .a 3 false).wellFormed = false ∧
      (Instr.lockRelease .a 1).wellFormed = false ∧ (Instr.registerWrite .a 2 0).wellFormed = false ∧
      (Instr.registerWrite .a 3 0).wellFormed = false ∧ (Instr.memoryWrite .a 0x300 0).wellFormed = false ∧
      (Instr.memoryWrite .a 0x3FF 0).wellFormed = false := by decide

theorem test_well_formed_commands :
    (Instr.frameComplete .a chars42).wellFormed = true ∧ (Instr.surveyTick [⟨573, .missExpiry .a⟩]).wellFormed = true ∧
      (Instr.memoryWrite .a 0x2FF 0).wellFormed = true ∧ (Instr.lockRelease .a 3).wellFormed = true := by decide

/-! ## Hypotheses met: the machine as a whole and the resets -/

def queued (s : State) (c : Instr) : State := { s with pending := [c] }

theorem meets_StepTakesTheFrontCommand : (queued live .surveyEnd).pending = .surveyEnd :: [] ∧ live.pending = [] := by decide +kernel

theorem meets_ResetReleaseRewritesTheGuardWords :
    (({ live with resetAsserted := true } : State).memoryOk ∧ ({ live with resetAsserted := true } : State).resetAsserted = true) ∧
      (portWritten 0x0C0 = true ∧ portWritten 0x0CF = true ∧ portWritten 0x2F7 = true ∧ portWritten 0x3FF = true ∧
        portWritten 0x400 = false ∧ portWritten 0x108 = false) ∧ live.resetAsserted = false := by decide +kernel

theorem meets_ReadyRiseStartsTheSurveyTimer : State.reset.resetAsserted = false ∧ State.reset.ready = false := by decide

theorem meets_FrameNeedsATableAndIdle :
    ready.active = none ∧ (({ live with feeds := ⟨Feed.reset, idleFeed⟩ } : State).feeds.get .a).idleSeen = false ∧
      ready.resetAsserted = false := by decide +kernel

/-! ## Hypotheses met: the feed receivers -/

theorem meets_CheckByteMakesTheSum255 :
    bytes42.length = 10 ∧ byteAt bytes42 9 = checkByte bytes42 ∧ byteAt (bytes42.set 9 0x58) 9 ≠ checkByte (bytes42.set 9 0x58) := by
  decide

/-- A frame that is bad for arm B because it carries arm A's tag, in ACQUIRING and in STEADY one fault below FC; and a duplicate. -/
theorem meets_BadAndDuplicateFramesAreCounted :
    (∀ st ∈ [FeedState.absent, .acquiring, .steady, .lost],
      let s := withFeed live (runningFeed st 2 0)
      s.active = some tote ∧ (s.feeds.get .a).idleSeen = true ∧ (chars42.map (fun c => c.data)).length = 10 ∧
        (byteAt (bytes42.set 1 0x21) 1).toNat / 16 ≠ 1 ∧
        ¬ ((s.feeds.get .a).state = .steady ∧ (tote.arms.get .a).fc.toNat ≤ (s.feeds.get .a).faultRun + 1)) ∧
    (let s := withFeed live { steadyFeed with lastSeq := some 42 }
     s.active = some tote ∧ (s.feeds.get .a).idleSeen = true ∧
       chars42.map (fun c => c.data) = feedBytes .a 1 42 1850 2230 (BitVec.ofInt 16 (-400)) ∧
       (s.feeds.get .a).lastSeq = some 42) := by decide +kernel

theorem meets_GoodFrameBeginsAcquisition :
    ∀ f ∈ [idleFeed, { (runningFeed .lost 0 2) with missTimer := none, graceTimer := some 20000000 }],
      let s := withFeed live f
      s.memoryOk ∧ s.active = some tote ∧ (s.feeds.get .a).idleSeen = true ∧
        chars42.map (fun c => c.data) = feedBytes .a 1 42 1850 2230 (BitVec.ofInt 16 (-400)) ∧
        (s.feeds.get .a).lastSeq ≠ some 42 ∧ ((s.feeds.get .a).state = .absent ∨ (s.feeds.get .a).state = .lost) := by
  decide +kernel

theorem meets_GoodFrameKeepsTheFeedState :
    ∀ f ∈ [steadyFeed, runningFeed .acquiring 1 0, { steadyFeed with holding := some (held42 false) }],
      let s := withFeed live f
      s.active = some tote ∧ (s.feeds.get .a).idleSeen = true ∧
        chars42.map (fun c => c.data) = feedBytes .a 1 42 1850 2230 (BitVec.ofInt 16 (-400)) ∧
        (s.feeds.get .a).lastSeq = some 41 ∧ (41 : Byte) ≠ 42 ∧
        ((s.feeds.get .a).state = .steady ∨
          ((s.feeds.get .a).state = .acquiring ∧ (s.feeds.get .a).goodRun + 1 < (tote.arms.get .a).rc.toNat)) := by
  decide +kernel

theorem meets_RiseCountBringsSteady :
    let s := withFeed live (runningFeed .acquiring 2 0)
    s.memoryOk ∧ s.active = some tote ∧ (s.feeds.get .a).idleSeen = true ∧
      chars42.map (fun c => c.data) = feedBytes .a 1 42 1850 2230 (BitVec.ofInt 16 (-400)) ∧
      (s.feeds.get .a).lastSeq = some 41 ∧ (41 : Byte) ≠ 42 ∧ (s.feeds.get .a).state = .acquiring ∧
      (tote.arms.get .a).rc.toNat ≤ (s.feeds.get .a).goodRun + 1 := by decide +kernel

theorem meets_FeedTimerExpiriesAct :
    (∀ f ∈ [steadyFeed, runningFeed .acquiring 14 0],
      let s := withFeed live f
      s.active = some tote ∧ (s.feeds.get .a).missTimer ≠ none ∧
        ((s.feeds.get .a).state = .acquiring ∨ (s.feeds.get .a).state = .steady) ∧
        ¬ ((s.feeds.get .a).state = .steady ∧ (tote.arms.get .a).fc.toNat ≤ (s.feeds.get .a).faultRun + 1)) ∧
    (live.feeds.get .a).missTimer = none ∧
    (∀ st ∈ [FeedState.lost, .acquiring],
      let s := withFeed live { (runningFeed st 0 2) with graceTimer := some 20000000 }
      s.memoryOk ∧ (s.feeds.get .a).graceTimer ≠ none ∧ (s.feeds.get .a).state ≠ .steady) ∧
    (live.feeds.get .a).graceTimer = none := by decide +kernel

/-- One fault below FC, by a miss and by a bad frame; with LG = 20 and with LG = 0. -/
theorem meets_FallCountLosesTheFeed :
    ∀ t ∈ [tote, { tote with arms := ⟨{ armA with lg := 0 }, armB⟩ }],
      let s := { (withFeed steady (runningFeed .steady 3 1)) with active := some t }
      s.memoryOk ∧ s.active = some t ∧ (s.feeds.get .a).state = .steady ∧
        (t.arms.get .a).fc.toNat ≤ (s.feeds.get .a).faultRun + 1 ∧ (s.feeds.get .a).missTimer ≠ none ∧
        (s.feeds.get .a).idleSeen = true ∧ (bytes42.drop 1).length ≠ 10 := by decide +kernel

def ordered : State := { steady with enf := ⟨{ clearEnf with snapshotOrdered := true }, clearEnf⟩ }

theorem meets_OrderedSnapshotWriteShowsTheEvent :
    (ordered.memoryOk ∧ (ordered.enf.get .a).snapshotOrdered = true) ∧ (ordered.enf.get .b).snapshotOrdered = false := by
  decide +kernel

/-- Each request alone; and one that the group before it holds back. -/
theorem meets_OrderedSnapshotsPrecedeEveryService :
    (∀ r ∈ [Request.evaluation .a, .evaluation .b, .configuration, .refillTest, .grantPhase],
      (serving ordered r).servable r = true) ∧
    ({ ordered with waiting := [[.evaluation .a], [.configuration]] } : State).servable .configuration = false := by decide +kernel

/-! ## Hypotheses met: stop reach and the claim table -/

/-- The three signs of a velocity, and both ends of the coordinate range. -/
theorem meets_StopPointIsStopReachAhead :
    0 < (before42.run tote armA (held42 false)).velocity.x ∧ (before42.run tote armA (held42 false)).velocity.y = 0 ∧
      (before42.run tote armA (held42 false)).velocity.z < 0 ∧ stopPointAxis 32767 1 8191 = 32767 ∧
      stopPointAxis (-32768) (-1) 8191 = -32768 := by decide +kernel

theorem meets_BlocksAreWidenedRanges :
    (before42.run tote armA (held42 false)).velocity.y = 0 ∧ (before42.run tote armA (held42 true)).stopReach.x = 0 := by
  decide +kernel

/-- Below the grid, just above it, and the last coordinate inside. -/
theorem meets_IndexRangeHoldsEveryTouchedIndex :
    (0 < 400 ∧ 0 < 16 ∧ (-9 : Int) ≤ -1 ∧ (-1 : Int) < 0) ∧
      ((6400 : Int) ≤ 6400 ∧ (0 : Int) ≤ 6400 ∧ ((16 : Nat) : Int) - 1 < 6400 / ((400 : Nat) : Int)) ∧
      ((0 : Int) ≤ 6399 ∧ ¬ ((0 : Int) ≤ 6399 ∧ ((16 : Nat) : Int) - 1 < 6399 / ((400 : Nat) : Int))) := by decide

theorem meets_VelocityAndStopReachNeverUnderstate :
    0 < armA.dec.toNat ∧ (held42 false).gap = some 1 ∧ before42.position = some ⟨2010, 2330, 2215⟩ ∧
      (before42.run tote armA (held42 false)).position = some ⟨2050, 2330, 2200⟩ ∧
      ({ (held42 true) with gap := none } : HeldFrame).gap = none ∧ (held42 true).brake = true ∧ (held42 false).brake = false := by
  decide +kernel

/-- A cell held twice, one held once outside and one inside the sweep block, a lingering one, an unowned one. -/
def cellCases : State :=
  { steady with
    reach := ⟨before42.run tote armA (held42 false), Reach.cleared⟩
    cells := (List.range 1024).map (fun i =>
      if i = 0 then ⟨some .a, 2, false⟩ else if i = 1 then ⟨some .a, 1, false⟩ else if i = 2 then ⟨some .a, 0, true⟩
      else if i = 4 + 16 * 7 + 256 * 2 then ⟨some .a, 1, false⟩ else Cell.unowned) }

theorem meets_CellOperationsChangeTheirCells :
    (∀ i ∈ [0, 1023], i < cellCases.cells.length) ∧
      ((cellCases.cell 0).owner = some .a ∧ 1 < (cellCases.cell 0).count) ∧
      (∀ i ∈ [1, 628], (cellCases.cell i).owner = some .a ∧ (cellCases.cell i).count = 1) ∧
      blockHas (cellCases.reach.get .a).sweep 1 = false ∧ blockHas (cellCases.reach.get .a).sweep 628 = true ∧
      ((cellCases.cell 2).owner = some .a ∧ (cellCases.cell 2).linger = true) ∧
      (blockHas (cellCases.reach.get .a).envelope 629 = true ∧ (cellCases.cell 629).owner = none) := by decide +kernel

/-- The envelope block of section 3.9 covered by lingering cells, a held cell, and a cell of the other arm. -/
def coveredState : State :=
  { cellCases with cells := (List.range 1024).map (fun i =>
      if blockHas (cellCases.reach.get .a).envelope i then ⟨some .a, 0, true⟩ else if i = 0 then ⟨some .a, 1, false⟩
      else if i = 1023 then ⟨some .b, 0, true⟩ else Cell.unowned) }

theorem meets_LingerSweepNeverUncovers :
    coveredState.cells.length = 1024 ∧
      (∀ i < 1024, blockHas (coveredState.reach.get .a).envelope i = true → blockHas (coveredState.reach.get .a).sweep i = true) ∧
      coveredIn coveredState.cell (coveredState.reach.get .a).envelope .a ∧
      (coveredState.cell 1023).owner ≠ some .a ∧ (coveredState.cell 0).linger = false := by decide +kernel

/-! ## Hypotheses met: the frame evaluation -/

/-- Arm A with the frame of section 3.9 held and its evaluation waiting. -/
def evaluating (s : State) (gap : Option Nat) : State :=
  { (serving (withFeed s { s.feeds.a with holding := some { (held42 false) with gap := gap } }) (.evaluation .a)) with
    reach := ⟨before42, Reach.cleared⟩ }

/-- Out of STEADY, acquiring and lost; and a marked frame of a seated arm, with a current status word and a stale one. -/
theorem meets_EvaluationOutsideSteadyOnlyShows :
    (∀ f ∈ [runningFeed .acquiring 1 0, runningFeed .lost 0 2],
      let s := evaluating (withFeed live f) (some 1)
      s.readyFor (.evaluation .a) ∧ s.active = some tote ∧ (s.feeds.get .a).holding = some (held42 false) ∧
        (s.feeds.get .a).state ≠ .steady) ∧
    ∀ x ∈ [(evaluating steady none, false), ({ (evaluating steady none) with mem := steady.mem.write 0x004 steady.statusWord }, true)],
      x.1.readyFor (.evaluation .a) ∧ x.1.memoryOk ∧ x.1.active = some tote ∧
        (x.1.feeds.get .a).holding = some { (held42 false) with gap := none } ∧ (x.1.feeds.get .a).state = .steady ∧
        (x.1.enf.get .a).seated = true ∧ (x.2 = true → x.1.word 0x004 = x.1.statusWord) := by decide +kernel

/-- A fully evaluated frame of `s`, in the terms of the statements; and one of a seated arm. -/
abbrev fullyTaken (s : State) (f : HeldFrame) (k : Nat) : Prop :=
  s.readyFor (.evaluation .a) ∧ s.cells.length = 1024 ∧ s.active = some tote ∧ (s.feeds.get .a).holding = some f ∧
    (s.feeds.get .a).state = .steady ∧ f.gap = some k
abbrev fully (s : State) (f : HeldFrame) (k : Nat) : Prop := fullyTaken s f k ∧ (s.enf.get .a).seated = true

/-- Zones 1 and 2, which cover the sweep block; zone 1, which covers the envelope block alone; neither. -/
def evaluatingOver (l : Lane) (za zb : Nat) : State :=
  { (holding (evaluating steady (some 1)) (heldCells za zb)) with lanes := ⟨l, Lane.reset⟩ }
def allA : List Cell := List.replicate 1024 ⟨some .a, 1, false⟩

/-- Arm A unseated, with its frame held and its evaluation waiting. -/
def seating (s : State) (gap : Option Nat) : State :=
  let t := evaluating s gap
  { t with enf := ⟨{ clearEnf with seated := false, pause := { clearEnf.pause with unseated := true } }, clearEnf⟩ }

/-- Seated: ahead uncovered, the envelope uncovered, both covered. Unseated: nothing in the way, the other arm's cells, a fence. -/
theorem meets_SteadyEvaluationChecksCoverage :
    let swept := fun (s : State) (r : Reach) (i : Nat) => sweepCell .a r.sweep i (s.cell i)
    (∀ s ∈ [evaluatingOver Lane.reset 1 3, evaluatingOver (waitingLane 5 [1]) 0 3, holding (evaluating steady (some 1)) allA],
      fully s (held42 false) 1) ∧
    (∀ s ∈ [seating steady (some 1), seating (holding steady (heldCells 3 1)) (some 1), { (seating steady (some 1)) with fence := [1] }],
      fullyTaken s (held42 false) 1 ∧ (s.enf.get .a).seated = false ∧ s.current .a = none ∧ s.memoryOk) ∧
    (let r := (evaluating steady (some 1)).reachAfter tote .a (held42 false)
     ¬ coveredIn (swept (evaluatingOver Lane.reset 1 3) r) r.sweep .a ∧
       coveredIn (swept (evaluatingOver Lane.reset 1 3) r) r.envelope .a ∧
       ¬ coveredIn (swept (evaluatingOver (waitingLane 5 [1]) 0 3) r) r.envelope .a ∧
       coveredIn (swept (holding (evaluating steady (some 1)) allA) r) r.sweep .a) := by decide +kernel

/-- No current traverse, an OPEN one, one with a frame more than the gap, and one whose last frame this is. -/
theorem meets_EvaluationCountsTheCurrentTraverseDown :
    (∀ l ∈ [Lane.reset, grantedLane 9 .openEnded 0 [1], grantedLane 9 .counted 2 [1], grantedLane 9 .counted 1 [1]],
      fully (evaluatingOver l 1 3) (held42 false) 1 ∧ (evaluatingOver l 1 3).memoryOk ∧ (evaluatingOver l 1 3).claimTableOk) ∧
    (let s := { (seating (holding steady (heldCells 1 3)) (some 1)) with lanes := ⟨grantedLane 9 .counted 1 [1], Lane.reset⟩ }
     fullyTaken s (held42 false) 1 ∧ (s.enf.get .a).seated = false ∧ s.memoryOk ∧ s.claimTableOk) ∧
    (evaluatingOver Lane.reset 1 3).current .a = none ∧
    (evaluatingOver (grantedLane 9 .openEnded 0 [1]) 1 3).current .a = some ⟨9, .openEnded, 5, 0, [1]⟩ ∧
    (∀ n ∈ [1, 2], let s := evaluatingOver (grantedLane 9 .counted n [1]) 1 3
      s.currentSlot .a = some 15 ∧ (s.entry .a 15).traverse = some ⟨9, .counted, 5, n, [1]⟩ ∧ (s.entry .a 15).state = .granted) ∧
    (∀ i < 1024, tote.setHas [1] i = true →
      ((heldCells 1 3).getD i Cell.unowned).owner = some .a ∧ 0 < ((heldCells 1 3).getD i Cell.unowned).count) := by
  refine ⟨by decide +kernel, by decide +kernel, by decide +kernel, by decide +kernel, by decide +kernel, fun i h => ?_⟩
  rw [heldCells_get 1 3 i h]; revert i; decide +kernel

/-- With and without the first-frame mark; with nothing in the way, over the other arm's cells, and over a fence. -/
theorem meets_SeatingTakesTheFreeEnvelope :
    ∀ g ∈ [none, some 1], ∀ s ∈ [seating steady g, seating (holding steady (heldCells 3 1)) g, { (seating steady g) with fence := [1] }],
      s.readyFor (.evaluation .a) ∧ s.cells.length = 1024 ∧ s.active = some tote ∧
        (s.feeds.get .a).holding = some { (held42 false) with gap := g } ∧ (s.feeds.get .a).state = .steady ∧
        (s.enf.get .a).seated = false ∧ s.memoryOk := by decide +kernel

theorem meets_EvaluationSnapshotShowsTheState :
    let s := evaluating steady (some 1)
    s.readyFor (.evaluation .a) ∧ s.memoryOk ∧ s.active = some tote ∧ (s.feeds.get .a).holding = some (held42 false) := by
  decide +kernel

/-! ## Hypotheses met: the survey tick and the mailboxes -/

theorem meets_TickRaisesSipAndRequestsServices :
    (live.memoryOk ∧ live.tickDue ∧ ¬ live.mailNew .a ∧ ¬ live.mailNew .b) ∧
      ¬ State.reset.tickDue ∧ ¬ ({ live with survey := { live.survey with sip := true } } : State).tickDue ∧
      -- both mailboxes new; a post tag and the first and last other words of a request half rewritten during the reads
      (let s := withWords live [(0x0C0, 7), (0x0C1, 7), (0x0E0, 9), (0x0E1, 8), (0x0E2, 1)]
       s.memoryOk ∧ s.tickDue ∧ s.mailNew .a ∧ s.mailNew .b ∧ tagOf (8 : Word) ≠ tagOf (s.word (mailboxBase .a)) ∧
         (0x0C0 : BitVec 11).toNat = mailboxBase .a ∧ (0x0C1 : BitVec 11).toNat = mailboxBase .a + 1 ∧
         (0x0EF : BitVec 11).toNat = mailboxBase .b + 15) := by decide +kernel

/-- A tick at which mailbox A, and no other, holds a new command. -/
abbrev tickA (s : State) : Prop := s.memoryOk ∧ s.tickDue ∧ s.mailNew .a ∧ ¬ s.mailNew .b
/-- Mailbox A's command, of a port that holds the lock (or, with `free`, does not). -/
def mailed (free : Bool) (ws : List Word) : State :=
  let s := staged ((List.range ws.length).map (fun k => (0x0C1 + k, ws.getD k 0)))
  if free then { s with lock := Lock.reset } else s

theorem meets_RefusedMailCommandChangesOnlyItsResult :
    (∀ x ∈ [(mailed false [9], MailResult.badCommand), (mailed false [5, 2], .badArg), (mailed true [5, 1], .noLock),
        (mailed false [8, 1], .notOwn), ({ (mailed false [1, 0, 1]) with install := { Install.reset with state := .pending } }, .busy)],
      tickA x.1 ∧ x.1.mailRefusal .a (x.1.mailCommand .a) = some x.2) ∧
    (List.replicate 16 (0 : Word)).length = 16 := by decide +kernel

/-- HOLD, PERIOD 7, PRIORITY, FENCE with its largest zone, ABANDON out of and in PENDING, CLEAR_STOP and RESTART_LANE. -/
theorem meets_CommandsCarriedOutAtTheTick :
    (∀ x ∈ [(mailed false [5, 1], MailCommand.hold 1), (mailed false [5, 0], .hold 0), (mailed false [6, 7], .period 7),
        (mailed false [4, 2, 2], .priority 2 2), (mailed false [3, 1, 5], .fence 1 [5]), (mailed false [2], .abandon),
        ({ (mailed false [2]) with install := { Install.reset with state := .pending, window := some 5 } }, .abandon),
        (mailed true [7, 0], .clearStop 0), (mailed true [8, 0], .restartLane 0)],
      tickA x.1 ∧ x.1.mailRefusal .a (x.1.mailCommand .a) = none ∧ x.1.mailCommand .a = x.2) ∧
    armOfCode 0 = some .a ∧ armOfCode 1 = some .b := by decide +kernel

/-- An empty staging table, which validation refuses, and the tote table, which it lets through. -/
def stagedTote : State :=
  withWords (mailed false [1, 0, 1]) ((List.range 256).map (fun k => (0x300 + k, tote.image.getD k 0)))

theorem meets_InstallCopiesTheStagingTable :
    (∀ s ∈ [mailed false [1, 0, 1], stagedTote],
      tickA s ∧ s.mailCommand .a = .install noWaive 1 ∧ s.mailRefusal .a (s.mailCommand .a) = none) ∧
    (ZoneTable.ofWords ((List.range 256).map (fun k => (mailed false [1, 0, 1]).word (0x300 + k)))).validate = some .pitch ∧
    (ZoneTable.ofWords ((List.range 256).map (fun k => stagedTote.word (0x300 + k)))).validate = none := by decide +kernel

theorem meets_ValidationReportsTheFirstReason :
    tote.validate = none ∧ ({ tote with sc := 16, px := 4096 } : ZoneTable).validate = some .pitch := by decide +kernel

theorem meets_TableImageCarriesTheTable :
    tote.zones.length = 32 ∧ tote.refillEntries.length = 32 ∧ tote.image.length = 256 := by decide +kernel

/-! ## Hypotheses met: the configuration service -/

/-- One accepted command and no pending install, in the terms of the statements. -/
abbrev serviced (s : State) (c : Accepted) : Prop :=
  s.readyFor .configuration ∧ s.memoryOk ∧ s.cells.length = 1024 ∧ s.install.pendingTable = none ∧ s.accepted = [c]
def accepting (s : State) (c : Accepted) : State := { (serving s .configuration) with accepted := [c] }
/-- Arm A stopped by FEED_LOSS with the frame of section 3.9 behind it. -/
def stoppedA (s : State) : State :=
  { s with
    reach := ⟨before42.run tote armA (held42 false), Reach.cleared⟩
    enf := ⟨{ clearEnf with pause := { clearEnf.pause with stopped := true }, stop := { clearEnf.stop with feedLoss := true } },
      clearEnf⟩ }

theorem meets_ClearStopInTheService :
    (∀ x ∈ [(stoppedA live, some HeldReason.feed), (stoppedA (holding steady (heldCells 3 1)), some .otherArm),
        ({ (stoppedA steady) with fence := [1] }, some .fence), (requestedRefill (stoppedA steady), some .refill),
        (stoppedA steady, none)],
      serviced (accepting x.1 ⟨.b, 7, .clearStop .a⟩) ⟨.b, 7, .clearStop .a⟩ ∧
        (accepting x.1 ⟨.b, 7, .clearStop .a⟩).stopHeld .a = x.2 ∧ x.1.cells.length = 1024) ∧
    -- two commands, and one with an install that waits for its gate
    (∀ s ∈ [{ (accepting (stoppedA steady) ⟨.a, 7, .clearStop .a⟩) with accepted := [⟨.a, 7, .clearStop .a⟩, ⟨.b, 8, .restartLane .b⟩] },
        { (pendingState noWaive) with accepted := [⟨.a, 7, .clearStop .a⟩] }],
      s.readyFor .configuration ∧ s.memoryOk ∧ s.accepted.head? = some ⟨.a, 7, .clearStop .a⟩) := by decide +kernel

/-- Lane A with a GRANTED traverse on zone 1 and a WAITING one on zone 2, and slot 5's command not yet taken. -/
def restarting : State :=
  accepting { (withWords (holding steady (heldCells 1 2)) [(0x150, 40)]) with
      lanes := ⟨laneA31, grantedLane 60 .openEnded 0 [2]⟩ } ⟨.a, 7, .restartLane .a⟩

theorem restarting_ownership : restarting.ownershipOk := by
  have e : restarting.cells = heldCells 1 2 := by decide +kernel
  have cell : ∀ i < 1024, restarting.cell i = heldCell 1 2 i := fun i h => by
    unfold State.cell; rw [e]; exact heldCells_get 1 2 i h
  show tote.validate = none ∧ bothSides (restarting.grantsOk tote)
  refine ⟨by decide +kernel, ⟨by decide +kernel, by decide +kernel, fun i h => ?_⟩, by decide +kernel, by decide +kernel, fun i h => ?_⟩
  · rw [cell i h]; revert i; decide +kernel
  · rw [cell i h]; revert i; decide +kernel

/-- A lane to be restarted while no table is active. -/
def bare : State := accepting ready ⟨.a, 7, .restartLane .a⟩

theorem bare_ownership : bare.ownershipOk := by
  show bothSides (fun arm => (bare.lanes.get arm).waitingList = [] ∧ (bare.lanes.get arm).grantedList = []) ∧
    ∀ c ∈ bare.cells, c.count = 0
  decide +kernel

/-- With the tote table; and without a table, where no cell has a claim. -/
theorem meets_RestartLaneInTheService :
    (serviced restarting ⟨.a, 7, .restartLane .a⟩ ∧ restarting.claimsOk ∧ restarting.slotNew .a 5) ∧
      serviced bare ⟨.a, 7, .restartLane .a⟩ ∧ bare.claimsOk :=
  ⟨⟨by decide +kernel, ⟨by decide +kernel, by decide +kernel, restarting_ownership, by decide +kernel⟩, by decide +kernel⟩,
    by decide +kernel, by decide +kernel, by decide +kernel, bare_ownership, by decide +kernel⟩

/-- An install that waits for its gate with every condition waived but those of the cells and of GRANTED. -/
def waived : GateMask := ⟨true, true, true, true, true⟩
def pendingOver (s : State) (t : ZoneTable) : State :=
  { s with install := { s.install with pendingTable := some ⟨t, waived⟩ } }
/-- The tote table without a refill set. -/
def noSet : ZoneTable := { tote with refillCount := 0 }

/-- A closed gate (an owned cell); open ones at IDLE, with the debounced RFREQ low and high, and at REQUESTED, each with a
refill set and without; and one without an active table. -/
theorem meets_QuietGateOpensTheSwap :
    (∀ x ∈ [(holding (pendingState noWaive) (heldCells 1 2), tote, noWaive, false), (pendingState noWaive, tote, noWaive, true),
        (pendingOver (requestedRefill (pendingState noWaive)) tote, tote, waived, true),
        (pendingOver (requestedRefill (pendingState noWaive)) noSet, noSet, waived, true),
        ({ (pendingState noWaive) with active := some noSet, rfreq := true, refill := ⟨.idle, true, none, false, none⟩ },
          tote, noWaive, true)],
      x.1.readyFor .configuration ∧ x.1.memoryOk ∧ x.1.accepted = [] ∧ Install.Ok x.1.install ∧
        x.1.install.pendingTable = some ⟨x.2.1, x.2.2.1⟩ ∧ x.1.gateOpen x.2.2.1 = x.2.2.2) ∧
    noSet.refillCount = 0 ∧ tote.refillCount ≠ 0 := by
  decide +kernel

/-! ## Hypotheses met: the refill interlock -/

theorem meets_RefillTestGrantsTheUnownedSet :
    (∀ s ∈ [steady, requestedRefill steady, requestedRefill (holding steady (heldCells 1 2))],
      (serving s .refillTest).readyFor .refillTest ∧ (serving s .refillTest).memoryOk ∧ s.cells.length = 1024) ∧
    (∀ i < 1024, (requestedRefill steady).refillCell i = true → ((requestedRefill steady).cell i).owner = none) ∧
    (steady.refillCell 1023 = true ∧ ((holding steady (heldCells 1 3)).cell 1023).owner = some .b) := by
  refine ⟨by decide +kernel, fun i h _ => ?_, by decide +kernel⟩
  have e : (requestedRefill steady).cells = List.replicate 1024 Cell.unowned := rfl
  unfold State.cell
  rw [e, List.getD_eq_getElem?_getD, List.getElem?_replicate, if_pos h]
  rfl

theorem meets_RefillLineAndStallTimerAct :
    ready.active = none ∧ (live.active = some tote ∧ true ≠ live.rfreq) ∧
      ((requestedRefill live).memoryOk ∧ (requestedRefill live).refill.stallTimer ≠ none ∧
        (requestedRefill live).refill.state = .requested) ∧ live.refill.stallTimer = none := by decide +kernel

theorem meets_DebounceExpiryMovesTheRefillState :
    (∀ st ∈ [RefillState.idle, .requested, .granted], ∀ high ∈ [true, false],
      let s := { live with rfreq := high, refill := ⟨st, !high, some 5, false, none⟩ }
      s.memoryOk ∧ s.active = some tote ∧ s.refill.debounceTimer ≠ none) ∧ tote.refillCount ≠ 0 ∧
    live.refill.debounceTimer = none := by decide +kernel

/-! ## Hypotheses met: the survey grant phase -/

theorem meets_GrantPhaseUnderHoldOnlyReports :
    let s := { (serving steady .grantPhase) with survey := { steady.survey with hold := true } }
    s.readyFor .grantPhase ∧ s.memoryOk ∧ s.cells.length = 1024 ∧ s.survey.hold = true := by decide +kernel

/-- A grant phase in which no slot command is new, in the terms of the statements. -/
abbrev deciding (s : State) : Prop :=
  s.readyFor .grantPhase ∧ s.memoryOk ∧ s.cells.length = 1024 ∧ s.survey.hold = false ∧ s.active = some tote ∧
    ((∀ k : Slot, ¬ s.slotNew .a k) ∧ ∀ k : Slot, ¬ s.slotNew .b k) ∧ Lane.Ok s.lanes.a ∧ Lane.Ok s.lanes.b

/-- A head in each of the six cases of R106 and R109. -/
def lone (s : State) (zs : List Nat) : State := { (serving s .grantPhase) with lanes := ⟨waitingLane 20 zs, Lane.reset⟩ }

theorem meets_BlockersAreTestedInOrder :
    ∀ x ∈ [(lone live [1], [1], some (Blocker.unseated, none)),
        ({ (lone steady [1]) with
           lanes := ⟨{ (waitingLane 20 [1]) with grantedList := [4, 5, 6, 7] }, Lane.reset⟩ }, [1], some (.window, none)),
        ({ (lone steady [0, 1]) with fence := [1] }, [0, 1], some (.fence, some 1)),
        (requestedRefill (lone steady [5, 1]), [5, 1], some (.refill, some 1)),
        (lone (holding steady (heldCells 0 2)) [1, 2], [1, 2], some (.otherArm, some 2)), (lone steady [1], [1], none)],
      x.1.cells.length = 1024 ∧ x.1.blockerOf tote x.1.refillFence .a ⟨20, .openEnded, 1, 0, x.2.1⟩ = x.2.2 := by
  decide +kernel

/-- A decision of two heads, arm A's on the zones za and arm B's on zb. -/
def versus (s : State) (za zb : List Nat) : State :=
  { (serving s .grantPhase) with lanes := ⟨waitingLane 20 za, waitingLane 50 zb⟩ }

set_option synthInstance.maxSize 1024 in
/-- Arm A's head grantable with no head and with a blocked one in lane B; no head grantable: none at all, one blocked, two that are
not both blocked by OTHER_ARM; and no table. -/
theorem meets_LoneHeadIsGrantedOrWaits :
    (let s := lone steady [1]
     deciding s ∧ (s.lanes.get .a).head = some 0 ∧ (s.entry .a 0).traverse = some ⟨20, .openEnded, 1, 0, [1]⟩ ∧
       s.blockerOf tote s.refillFence .a ⟨20, .openEnded, 1, 0, [1]⟩ = none ∧ (s.lanes.get .b).head = none) ∧
    (let s := versus (holding steady (heldCells 1 3)) [2] [1]
     deciding s ∧ (s.lanes.get .a).head = some 0 ∧ (s.entry .a 0).traverse = some ⟨20, .openEnded, 1, 0, [2]⟩ ∧
       s.blockerOf tote s.refillFence .a ⟨20, .openEnded, 1, 0, [2]⟩ = none ∧ (s.lanes.get .b).head = some 0 ∧
       (s.entry .b 0).traverse = some ⟨50, .openEnded, 1, 0, [1]⟩ ∧
       s.blockerOf tote s.refillFence .b ⟨50, .openEnded, 1, 0, [1]⟩ = some (.otherArm, some 1)) ∧
    (let s := serving steady .grantPhase
     deciding s ∧ (s.lanes.get .a).head = none ∧ (s.lanes.get .b).head = none) ∧
    (let s := lone (holding steady (heldCells 0 2)) [2]
     deciding s ∧ (s.lanes.get .b).head = none ∧
       s.blockerOf tote s.refillFence .a ⟨20, .openEnded, 1, 0, [2]⟩ = some (.otherArm, some 2)) ∧
    (let s := { (versus (holding steady (heldCells 1 3)) [2] [1]) with fence := [2] }
     deciding s ∧ s.blockerOf tote s.refillFence .a ⟨20, .openEnded, 1, 0, [2]⟩ = some (.fence, some 2) ∧
       s.blockerOf tote s.refillFence .b ⟨50, .openEnded, 1, 0, [1]⟩ = some (.otherArm, some 1)) ∧
    (let s := serving ready .grantPhase
     s.readyFor .grantPhase ∧ s.memoryOk ∧ s.cells.length = 1024 ∧ s.survey.hold = false ∧ s.active = none ∧
       ((∀ k : Slot, ¬ s.slotNew .a k) ∧ ∀ k : Slot, ¬ s.slotNew .b k) ∧ s.lanes.a.waitingList = [] ∧ s.lanes.b.waitingList = []) := by
  refine ⟨?_, ?_, ?_, ?_, ?_, ?_⟩ <;> decide +kernel

set_option synthInstance.maxSize 1024 in
/-- Sets that meet in unowned cells, and sets that do not. -/
theorem meets_ContestIsSettledByPriority :
    ∀ zb ∈ [[1, 2], [2]], let s := contested zb
      deciding s ∧ (s.lanes.get .a).head = some 0 ∧ (s.lanes.get .b).head = some 0 ∧
        (s.entry .a 0).traverse = some ⟨20, .openEnded, 1, 0, [1]⟩ ∧ (s.entry .b 0).traverse = some ⟨50, .openEnded, 1, 0, zb⟩ ∧
        s.blockerOf tote s.refillFence .a ⟨20, .openEnded, 1, 0, [1]⟩ = none ∧
        s.blockerOf tote s.refillFence .b ⟨50, .openEnded, 1, 0, zb⟩ = none := by decide +kernel

set_option synthInstance.maxSize 1024 in
/-- Section 6.10 one below SC and at SC. -/
theorem meets_StandoffEndsInAYield :
    ∀ n ∈ [1, 2], let s := standoffAt n
      deciding s ∧ (s.lanes.get .a).head = some 0 ∧ (s.lanes.get .b).head = some 0 ∧
        (s.entry .a 0).traverse = some ⟨31, .openEnded, 1, 0, [2]⟩ ∧ (s.entry .b 0).traverse = some ⟨61, .openEnded, 1, 0, [1]⟩ ∧
        s.blockerOf tote s.refillFence .a ⟨31, .openEnded, 1, 0, [2]⟩ = some (.otherArm, some 2) ∧
        s.blockerOf tote s.refillFence .b ⟨61, .openEnded, 1, 0, [1]⟩ = some (.otherArm, some 1) := by decide +kernel

/-! ## Hypotheses met: slot commands -/

/-- A POST with one flaw each, in R82's order, against lane A with number 31 waiting in slot 0. -/
def posted (armTag : Nat) (m : Option Mode) (n : Word) (zs : List Nat) : SlotRequest := ⟨.post, armTag, m, n, 1, zs.length, zs⟩
def laned : State := { steady with lanes := ⟨laneA31, laneB64⟩ }

theorem meets_RefusedSlotCommandsChangeOnlyTheResult :
    laned.memoryOk ∧
    (∀ x ∈ [((0 : Slot), posted 1 (some .counted) 33 [1], some SlotReason.slotBusy), (1, posted 2 (some .counted) 33 [1], some .wrongArm),
        (1, posted 1 none 33 [1], some .badMode), (1, posted 1 (some .counted) 33 [6], some .badZone),
        (1, posted 1 (some .counted) 31 [1], some .duplicate), (1, posted 1 (some .counted) 32799 [1], some .stale),
        (1, posted 1 (some .counted) 47 [1], some .far), (1, posted 1 (some .counted) 46 [5], none)],
      x.2.1.command = .post ∧ laned.postRefusal .a x.1 x.2.1 = x.2.2) ∧
    ready.postRefusal .a 1 (posted 1 (some .counted) 33 [1]) = some .noTable ∧
    (laned.entry .a 0).state = .waiting ∧ (laned.entry .a 1).state = .free ∧
    (withWords laned [(0x100, 1)]).slotNew .a 0 ∧ ¬ laned.slotNew .a 0 ∧
    (let s := serving (withWords laned [(0x100, 1), (0x2F0, 1)]) .grantPhase
     s.readyFor .grantPhase ∧ s.memoryOk ∧ s.survey.hold = false ∧ s.slotNew .a 0 ∧ s.slotNew .b 15 ∧ s.ready = true ∧
       tagOf (2 : Word) ≠ tagOf (s.word (slotBase .b 15)) ∧ (0x2F0 : BitVec 11).toNat = slotBase .b 15 ∧
       (0x2F1 : BitVec 11).toNat = slotBase .b 15 + 1 ∧ (0x107 : BitVec 11).toNat = slotBase .a 0 + 7) := by decide +kernel

/-- Into an UNSET lane, as the head of a lane, and behind its head. -/
theorem meets_TakenPostWaitsInOrder :
    (∀ x ∈ [(steady, (9 : Word)), (laned, 32)],
      x.1.memoryOk ∧ (posted 1 (some .counted) x.2 [1]).command = .post ∧
        x.1.postRefusal .a 1 (posted 1 (some .counted) x.2 [1]) = none ∧ (1 : Slot) ∉ (x.1.lanes.get .a).waitingList) ∧
    (List.replicate 8 (0 : Word)).length = 8 := by
  decide +kernel

theorem meets_FinishAndWithdrawEndTheTraverse :
    laned.memoryOk ∧ laned.active = some tote ∧
      ((laned.entry .a 15).traverse = some ⟨30, .openEnded, 5, 0, [1]⟩ ∧ (laned.entry .a 15).state = .granted) ∧
      ((laned.entry .a 0).traverse = some ⟨31, .openEnded, 1, 0, [2]⟩ ∧ (laned.entry .a 0).state = .waiting) := by decide +kernel

/-! ## Hypotheses met: the end of a survey, the install window, the ports -/

theorem meets_SurveyEndsWhenItsServicesHave :
    (∀ w ∈ [[], [[Request.evaluation .a]]],
      let s := { live with survey := { live.survey with sip := true }, waiting := w }
      s.memoryOk ∧ s.survey.sip = true ∧ ∀ q ∈ s.waiting.flatten, q = .evaluation .a ∨ q = .evaluation .b) ∧
    live.survey.sip = false ∧ Request.grantPhase ∈ (serving live .grantPhase).waiting.flatten := by decide +kernel

theorem meets_InstallWindowEndsAPendingInstall :
    ((pendingState noWaive).memoryOk ∧ (pendingState noWaive).install.state = .pending ∧
      (pendingState noWaive).install.window ≠ none) ∧ live.install.window = none := by decide +kernel

theorem meets_PlockWritesFollowTheTable :
    (ready.memoryOk ∧ ready.ready = true) ∧ ((1 : Word).getLsbD 0 = true ∧ (1 : Word).getLsbD 1 = false) ∧
      ((2 : Word).getLsbD 1 = true ∧ (3 : Word).getLsbD 1 = true) ∧
      (ready.lock.holder = none ∧ ready.lock.pendingPort = none) ∧
      (({ ready with lock := ⟨some .a, some .b, .a⟩ } : State).lock.holder ≠ none) ∧ State.reset.ready = false := by decide +kernel

theorem meets_PstatAndPmaskFollowTheFlags :
    ready.ready = true ∧ State.reset.ready = false ∧ ∀ k ∈ [(5 : BitVec 3), 7], 5 ≤ k.toNat := by decide +kernel

theorem meets_PguardReportsInTwoStages :
    (ready.ports.get .a).stage = .history ∧ ((after (.pguardRead .a) ready).ports.get .a).stage = .present := by decide +kernel

/-- First and last words of the areas that port A may write, and their neighbours; the staging table with and without the lock. -/
theorem meets_PortWritesFollowTheMap :
    (ready.memoryOk ∧ ready.ready = true) ∧
      (∀ a ∈ [0x0C0, 0x0CF, 0x100, 0x107, 0x1F0, 0x1F7], ready.mayWrite .a a = true) ∧
      (∀ a ∈ [0x0BF, 0x0D0, 0x0E0, 0x108, 0x1F8, 0x1FF, 0x200, 0x300, 0x3FF, 0x400, 0x500, 0x7FF], ready.mayWrite .a a = false) ∧
      (∀ a ∈ [0x300, 0x3FF], ({ ready with lock := ⟨some .a, none, .a⟩ } : State).mayWrite .a a = true) ∧
      State.reset.ready = false ∧ (∀ k ∈ [(0 : BitVec 3), 1, 4, 5, 7], k ≠ 2 ∧ k ≠ 3) ∧
      State.reset.memBefore.wf = true ∧
      (let s := { State.reset with memBefore := [(0x0C0, 7), (0x0D0, 9)] }
       s.memBefore.wf = true ∧ s.ready = false ∧ portWritten 0x0D0 = false ∧ mailboxBase .a + 16 = 0x0D0) := by decide +kernel

/-! ## Hypotheses met: the invariants, each at a state about to take a command -/

def rising : State := queued State.reset .readyRise

theorem meets_EveryStepKeepsTheHeaderTrue :
    (rising.memoryOk ∧ rising.headerOk ∧ rising.snapshotsOk ∧ Lock.Ok rising.lock) ∧ step rising = exec .readyRise State.reset :=
  ⟨by decide +kernel, rfl⟩

theorem meets_EveryStepKeepsTheClaims :
    restarting.claimsOk ∧ (queued restarting (.configurationService [])).refillOk :=
  ⟨meets_RestartLaneInTheService.1.2.1, by decide +kernel⟩

theorem meets_EveryStepKeepsTheCauses :
    let s := queued (evaluatingOver (grantedLane 9 .counted 1 [1]) 1 3) (.frameEvaluation .a [])
    bothSides s.causesOk ∧ bothSides s.guardReportOk := by decide +kernel

theorem meets_EveryStepKeepsTheFeeds :
    let s := queued (evaluating steady (some 1)) (.frameEvaluation .a [])
    bothSides s.requestsOk ∧ bothSides s.feedOk := by decide +kernel

theorem meets_GuardNeverWritesAPortsWords :
    portWritten 0x107 = true ∧ (after (.memoryWrite .a 0x107 5) ready).word 0x107 ≠ ready.word 0x107 := by decide +kernel

theorem meets_ActiveTableChangesOnlyOverUnownedCells :
    (pendingState noWaive).claimTableOk ∧
      (after (.configurationService []) (pendingState noWaive)).active ≠ (pendingState noWaive).active ∧
      (after .powerOn live).active ≠ live.active := by decide +kernel

end Sys2Proof.Tests
end

section
/-! SUPPORT. R8, R168: what can change the active table. Every command but a reset and a configuration service leaves it,
and the work of a configuration service before its gate test leaves it too, with the install record, and keeps the tallies
those of the cell records; so an open gate means that no cell has an owner. -/

namespace Sys2Proof.Machine

/-- A figure that no step of a fold changes is not changed by the fold. -/
theorem State.foldl_keeps {α β : Type} (f : State → β) (g : State → α → State) (h : ∀ s x, f (g s x) = f s)
    (l : List α) (s : State) : f (l.foldl g s) = f s := by
  induction l generalizing s with
  | nil => rfl
  | cons x l ih => rw [List.foldl_cons, ih, h]

/-! ## Commands that make no swap -/

/-- R89: a yield leaves the active table. -/
@[simp] theorem State.yieldLane_active (s : State) (arm : Arm) : (s.yieldLane arm).active = s.active :=
  State.foldl_keeps State.active _ (fun s k => State.endWaiting_active s arm k .yielded) _ _

/-- Every part but the swap. -/
abbrev NoSwap (p : Part) : Prop := p ≠ .swap

/-- The swap is the one effect that changes the active table. -/
theorem Effect.active_of_noSwap {s t : State} (e : Effect NoSwap s t) : t.active = s.active := by
  cases e with
  | swap p h => exact absurd rfl h
  | _ => simp

theorem Effects.active_of_noSwap {s t : State} (e : Effects NoSwap s t) : t.active = s.active := by
  induction e with
  | refl => rfl
  | tail _ x ih => exact x.active_of_noSwap.trans ih

/-- R70: a service whose work makes no swap leaves the active table. -/
theorem State.serve_active_of_noSwap (s : State) (r : Request) (body : State → State)
    (h : ∀ x, Effects NoSwap x (body x)) : (s.serve r body).active = s.active :=
  (State.serve_effects ⟨nofun, nofun⟩ s r body h).active_of_noSwap

/-- R8: the commands that can change the active table. -/
theorem exec_active_changes {c : Instr} {s t : State} (e : exec c s = .next t) (ha : t.active ≠ s.active) :
    (c = .powerOn ∨ c = .resetNAssert ∨ c = .resetNRelease) ∨ ∃ during, c = .configurationService during := by
  have arrivals : allowsArrivals NoSwap := by simp [allowsArrivals, allowsFeed]
  cases c with
  | powerOn => simp
  | resetNAssert => simp
  | resetNRelease => simp
  | configurationService during => simp
  | frameEvaluation arm during =>
    exact absurd (execFrameEvaluation_effects ⟨arrivals, nofun, nofun⟩ s during t e).active_of_noSwap ha
  | surveyTick during =>
    cases e
    exact absurd (State.surveyTick_effects ⟨arrivals, nofun, nofun, nofun, nofun⟩ s during).active_of_noSwap ha
  | refillTest =>
    cases e
    exact absurd (State.serve_active_of_noSwap s _ _ (State.refillTestBody_effects nofun)) ha
  | surveyGrantPhase during =>
    cases e
    exact absurd (State.serve_active_of_noSwap s _ _
      (fun x => State.grantPhaseBody_effects ⟨arrivals, nofun, nofun, nofun, nofun⟩ x during)) ha
  | surveyEnd => cases e; exact absurd (State.surveyEnd_effects nofun s).active_of_noSwap ha
  | debounceExpiry => cases e; exact absurd (State.debounceExpiry_effects nofun s).active_of_noSwap ha
  | stallTimerExpiry => cases e; exact absurd (State.stallExpiry_effects nofun s).active_of_noSwap ha
  | installWindowExpiry => cases e; exact absurd (State.windowExpiry_effects nofun s).active_of_noSwap ha
  | readyRise => cases e; exact absurd (by unfold State.readyRise; split <;> rfl) ha
  | rfreqChange high => cases e; exact absurd (by unfold State.rfreqChange; (repeat' split) <;> rfl) ha
  | lockRequest p v m => cases e; exact absurd (by split <;> simp) ha
  | feedIdleSeen arm => cases e; exact absurd (by split <;> rfl) ha
  | _ => cases e; exact absurd (by simp) ha

/-! ## Before the gate test -/

/-- R57: the tallies are those of the cell records. -/
abbrev State.talliesOk (s : State) : Prop := s.tallies = ⟨tallyOf s.cells .a, tallyOf s.cells .b⟩

/-- What the work of a configuration service before its gate test keeps. -/
structure State.TablesKept (s t : State) : Prop where
  active : t.active = s.active
  install : t.install = s.install
  tallies : s.talliesOk → t.talliesOk

theorem State.TablesKept.refl (s : State) : s.TablesKept s := ⟨rfl, rfl, id⟩

theorem State.TablesKept.trans {s t u : State} (h : s.TablesKept t) (k : t.TablesKept u) : s.TablesKept u :=
  ⟨k.active.trans h.active, k.install.trans h.install, k.tallies ∘ h.tallies⟩

theorem State.TablesKept.foldl {α : Type} (g : State → α → State) (h : ∀ (s : State) (x : α), s.TablesKept (g s x)) (l : List α)
    (s : State) : s.TablesKept (l.foldl g s) := by
  induction l generalizing s with
  | nil => exact .refl s
  | cons x l ih => exact (h s x).trans (ih _)

/-- Work that leaves the cell records and the tallies keeps their agreement. -/
theorem State.TablesKept.of_frame {s t : State} (ha : t.active = s.active) (hi : t.install = s.install)
    (hc : t.cells = s.cells) (ht : t.tallies = s.tallies) : s.TablesKept t :=
  ⟨ha, hi, fun h => by rw [State.talliesOk, hc, ht]; exact h⟩

/-- R57: each claim-table operation brings the tallies up to date. -/
theorem State.putCells_tablesKept (s : State) (cs : List Cell) : s.TablesKept (s.putCells cs) := ⟨rfl, rfl, fun _ => rfl⟩

section
variable (s : State) (during : List Arrival) (arm : Arm) (slot : Slot)

theorem State.arriveWhen_tablesKept (p : Nat → Bool) : s.TablesKept (s.arriveWhen during p) := by
  refine State.TablesKept.foldl _ (fun s x => ?_) during s
  split
  · exact .of_frame (by simp) (by simp) (by simp) (by simp)
  · exact .refl s

theorem State.endWaiting_tablesKept (st : SlotState) : s.TablesKept (s.endWaiting arm slot st) :=
  .of_frame (by simp) (by simp) (by simp) (by simp)

theorem State.writeResult_tablesKept (r : SlotResult) (x : Option SlotReason) :
    s.TablesKept (s.writeResult arm slot r x) :=
  .of_frame (by simp) (by simp) (by simp) (by simp)

theorem State.writeMailResult_tablesKept (p : Port) (r : MailResult) (x : Option HeldReason) (tag : Byte) :
    s.TablesKept (s.writeMailResult p r x tag) :=
  .of_frame (by simp) (by simp) (by simp) (by simp)

theorem State.endGranted_tablesKept : s.TablesKept (s.endGranted arm slot) := by
  have h : s.TablesKept ((s.writeSlotState arm slot .done).dropGranted arm slot) :=
    .of_frame (by simp) (by simp) (by simp) (by simp)
  refine h.trans ?_
  unfold State.endGranted State.releaseTraverse
  split
  · exact State.putCells_tablesKept _ _
  · exact .refl _

theorem State.absorbSlot_tablesKept : s.TablesKept (s.absorbSlot arm slot) := by
  unfold State.absorbSlot
  dsimp only
  split
  · exact .refl s
  · exact .of_frame (by simp) (by simp) (by simp) (by simp)

theorem releaseRun_tablesKept (l : List Slot) (point : Nat) : s.TablesKept (releaseRun during arm point l s) := by
  induction l generalizing s point with
  | nil => exact .refl s
  | cons k l ih =>
    exact (((s.arriveWhen_tablesKept during _).trans (State.endGranted_tablesKept _ arm k)).trans
      (State.writeResult_tablesKept _ arm k _ _)).trans (ih _ (point + 1))

/-- R95, R97: ending waiting traverses one after another. -/
theorem State.withdrawRun_tablesKept (r : SlotResult) (l : List Slot) :
    s.TablesKept (l.foldl (fun s k => (s.endWaiting arm k .withdrawn).writeResult arm k r none) s) :=
  .foldl _ (fun s k => (s.endWaiting_tablesKept arm k .withdrawn).trans (State.writeResult_tablesKept _ arm k r none)) l s

theorem State.restartLane_tablesKept (point : Nat) : s.TablesKept (s.restartLane during point arm) := by
  have frame : ∀ (x : State) (g : Lane → Lane), x.TablesKept (x.modLane arm g) := fun _ _ => .of_frame rfl rfl rfl rfl
  have flag : ∀ x : State, x.TablesKept (x.raise .lane arm) := fun _ => .of_frame rfl rfl rfl rfl
  unfold State.restartLane
  refine State.TablesKept.trans ?_ (flag _)
  refine State.TablesKept.trans ?_ (.foldl _ (fun s k => s.absorbSlot_tablesKept arm k) _ _)
  refine State.TablesKept.trans ?_ (frame _ _)
  exact (s.withdrawRun_tablesKept arm .restarted _).trans (releaseRun_tablesKept _ during arm _ point)

/-- R138: a CLEAR_STOP seizes, and then leaves the cell records. -/
theorem State.clearStop_tablesKept : s.TablesKept (s.clearStop arm) := by
  have seized : s.TablesKept (s.seize arm (fun _ => false)) := s.putCells_tablesKept _
  exact seized.trans (.of_frame (by simp) (by simp) (by simp [State.clearStop]) (by simp [State.clearStop]))

theorem State.carryClear_tablesKept (c : Accepted) : s.TablesKept (s.carryClear c arm) := by
  unfold State.carryClear
  split
  · exact s.writeMailResult_tablesKept _ _ _ _
  · exact (s.clearStop_tablesKept arm).trans (State.writeMailResult_tablesKept _ _ _ _ _)

/-- R164 step 1: an accepted command. -/
theorem State.carryOut_tablesKept (point : Nat) (c : Accepted) : s.TablesKept (s.carryOut during point c) := by
  unfold State.carryOut
  split
  · exact ((s.arriveWhen_tablesKept during _).trans (State.carryClear_tablesKept _ _ c)).trans
      (State.arriveWhen_tablesKept _ during _)
  · exact ((s.restartLane_tablesKept during _ point).trans (State.writeMailResult_tablesKept _ _ _ _ _)).trans
      (State.arriveWhen_tablesKept _ during _)

theorem carryOutAll_tablesKept (l : List Accepted) (point : Nat) : s.TablesKept (carryOutAll during point l s) := by
  induction l generalizing s point with
  | nil =>
    unfold carryOutAll
    exact s.arriveWhen_tablesKept during _
  | cons c l ih => exact (s.carryOut_tablesKept during point c).trans (ih _ (point + 20))

end

/-! ## The gate test -/

/-- No record that meets the condition, when none is counted. -/
theorem countCells_eq_zero (p : Nat → Cell → Bool) (k : Nat) (cs : List Cell) (h : countCells p k cs = 0) :
    anyCell p k cs = false := by
  induction cs generalizing k with
  | nil => rfl
  | cons c cs ih =>
    obtain ⟨hc, hcs⟩ := Nat.add_eq_zero_iff.mp h
    simp only [ite_eq_right_iff, Nat.one_ne_zero, imp_false] at hc
    simp [anyCell, ih _ hcs, hc]

/-- R57: an arm whose owned tally is 0 owns no cell. -/
theorem owner_ne_of_owned_eq_zero {cs : List Cell} {arm : Arm} (h : (tallyOf cs arm).owned = 0) {c : Cell} (hc : c ∈ cs) :
    c.owner ≠ some arm := by
  intro ho
  obtain ⟨i, hi, rfl⟩ := List.mem_iff_getElem.mp hc
  have uncounted : ¬ anyCell (fun _ c => c.ownedBy arm) 0 cs = true := by simp [countCells_eq_zero _ _ _ h]
  exact uncounted ((anyCell_eq_true _ 0 cs).mpr ⟨i, hi, by simp [Cell.ownedBy, ho]⟩)

/-- R56: no cell has an owner. -/
abbrev State.unowned (s : State) : Prop := ∀ i < 1024, (s.cell i).owner = none

/-- R167: an open gate means that no cell has an owner. -/
theorem State.unowned_of_gateOpen {s : State} {k : GateMask} (ht : s.talliesOk) (h : s.gateOpen k = true) : s.unowned := by
  simp only [State.gateOpen, Bool.and_eq_true, decide_eq_true_eq, ht] at h
  obtain ⟨⟨⟨⟨⟨⟨⟨ha, hb⟩, -⟩, -⟩, -⟩, -⟩, -⟩, -⟩ := h
  intro i _
  by_cases hi : i < s.cells.length
  · have hm : s.cell i ∈ s.cells := by simp [State.cell, hi]
    cases ho : (s.cell i).owner with
    | none => rfl
    | some arm =>
      cases arm with
      | a => exact absurd ho (owner_ne_of_owned_eq_zero ha hm)
      | b => exact absurd ho (owner_ne_of_owned_eq_zero hb hm)
  · rw [State.cell, List.getD_eq_default _ _ (Nat.le_of_not_lt hi)]
    rfl

theorem State.swapArm_cells (s : State) (arm : Arm) : (s.swapArm arm).cells = s.cells := by
  have h : ∀ (s : State) (k : Slot),
      ((s.endWaiting arm k .withdrawn).writeResult arm k .tableChanged none).cells = s.cells := by simp
  simp [State.swapArm, State.swapLane, State.foldl_keeps State.cells _ h]

/-- R168: a swap leaves the cell records. -/
theorem State.swap_cells (s : State) (t : ZoneTable) : (s.swap t).cells = s.cells := by
  simp [State.swap, State.swapArm_cells]

/-- R168: a swap puts its table in force. -/
theorem State.swap_active (s : State) (t : ZoneTable) : (s.swap t).active = some t := by
  simp [State.swap]

/-- R166, R168: after a swap the install is INSTALLED. -/
theorem State.swap_installed (s : State) (t : ZoneTable) : (s.swap t).install.state = .installed := rfl

/-- R164, R168: a configuration service that changes the active table puts the pending one in force, over unowned cells. -/
theorem State.configurationBody_active {s : State} (ht : s.talliesOk) (during : List Arrival)
    (h : (s.configurationBody during).active ≠ s.active) :
    (s.configurationBody during).unowned ∧ ∃ p, s.install.pendingTable = some p ∧
      (s.configurationBody during).active = some p.table ∧ (s.configurationBody during).install.state = .installed := by
  unfold State.configurationBody at h ⊢
  dsimp only at h ⊢
  generalize hx : (carryOutAll during 0 s.accepted (s.setAccepted [])).arriveAt during 40 = x at h ⊢
  have before : s.TablesKept x := by
    rw [← hx]
    have taken : s.TablesKept (s.setAccepted []) := .of_frame rfl rfl rfl rfl
    exact (taken.trans (carryOutAll_tablesKept _ during s.accepted 0)).trans (State.arriveWhen_tablesKept _ during _)
  have ka : ∀ y : State, (y.arriveAt during 41).active = y.active := fun y =>
    State.arriveWhen_keeps State.active (fun s e => State.arrive_active s e) y during _
  have ki : ∀ y : State, (y.arriveAt during 41).install = y.install := fun y =>
    State.arriveWhen_keeps State.install (fun s e => State.arrive_install s e) y during _
  have kc : ∀ y : State, (y.arriveAt during 41).cells = y.cells := fun y =>
    State.arriveWhen_keeps State.cells (fun s e => State.arrive_cells s e) y during _
  simp only [State.unowned, State.cell, State.requestTogether_active, State.requestTogether_install,
    State.requestTogether_cells, ka, ki, kc, ← before.active, ← before.install] at h ⊢
  unfold State.testGate at h ⊢
  cases hp : x.install.pendingTable with
  | none => simp [hp] at h
  | some p =>
    by_cases hg : x.gateOpen p.mask = true
    · simp only [hg, if_true]
      refine ⟨?_, p, rfl, State.swap_active x p.table, State.swap_installed x p.table⟩
      rw [State.swap_cells]
      exact State.unowned_of_gateOpen (before.tallies ht) hg
    · simp [hp, hg] at h

/-- The same for the command, whether or not its service is due. -/
theorem execConfigurationService_active {s t : State} {during : List Arrival} (ht : s.talliesOk)
    (e : exec (.configurationService during) s = .next t) (h : t.active ≠ s.active) :
    t.unowned ∧ ∃ p, s.install.pendingTable = some p ∧ t.active = some p.table ∧ t.install.state = .installed := by
  cases e
  unfold State.serve at h ⊢
  split at h
  · rename_i due
    simp only [due, if_true]
    have flushed : s.TablesKept (((s.dropRequest .configuration).flushSnapshot .a).flushSnapshot .b) :=
      .of_frame (by simp) (by simp) (by simp) (by simp)
    rw [← flushed.active] at h
    rw [← flushed.install]
    exact State.configurationBody_active (flushed.tallies ht) during h
  · exact absurd rfl h

/-! ## Resets -/

theorem State.reset_unowned : State.reset.unowned := by
  intro i hi
  have h : State.reset.cells = List.replicate 1024 Cell.unowned := rfl
  rw [State.cell, h, List.getD_replicate _ hi]
  rfl

/-- R56, R173, R174: a command that resets the part and changes the active table leaves no table, and no cell owned. -/
theorem exec_reset_active {c : Instr} {s t : State} (hc : c = .powerOn ∨ c = .resetNAssert ∨ c = .resetNRelease)
    (e : exec c s = .next t) (h : t.active ≠ s.active) : t.unowned ∧ t.active = none := by
  obtain rfl | rfl | rfl := hc
  · cases e; exact ⟨State.reset_unowned, rfl⟩
  · cases e; exact ⟨State.reset_unowned, rfl⟩
  · cases e
    unfold State.resetRelease at h ⊢
    split at h
    · rename_i asserted
      simp only [asserted, if_true]
      exact ⟨State.reset_unowned, rfl⟩
    · exact absurd rfl h

end Sys2Proof.Machine

open Sys2Proof Sys2Proof.Machine

/-- Settles O60: the table changes at a reset or in a configuration service whose gate test found no cell owned. -/
theorem activeTableChangesOnlyOverUnownedCells : Obligations.ActiveTableChangesOnlyOverUnownedCells := by
  intro c s t ok e h
  obtain ⟨-, -, tallies⟩ := ok
  rcases exec_active_changes e h with reset | ⟨during, rfl⟩
  · obtain ⟨hu, ha⟩ := exec_reset_active reset e h
    exact ⟨hu, .inl ⟨reset, ha⟩⟩
  · obtain ⟨hu, p, hp, ha, hi⟩ := execConfigurationService_active tallies e h
    exact ⟨hu, .inr ⟨during, p, rfl, hp, ha, hi⟩⟩
end

section
/-! SUPPORT. R18, R19: validation as the first of the nine reasons, in the order of their codes, whose condition holds. -/

namespace Sys2Proof.Machine

/-- What a search finds in a list that rises strictly in a key: the member with the least key that meets the condition. -/
theorem find?_eq_some_iff_least {α : Type} (key : α → Nat) (p : α → Bool) (l : List α) (r : α)
    (hl : l.Pairwise (fun x y => key x < key y)) :
    l.find? p = some r ↔ r ∈ l ∧ p r = true ∧ ∀ x ∈ l, key x < key r → ¬ p x = true := by
  induction l with
  | nil => simp
  | cons c l ih =>
    obtain ⟨hc, hl⟩ := List.pairwise_cons.mp hl
    by_cases hp : p c = true
    · rw [List.find?_cons_of_pos hp]
      constructor
      · rintro ⟨⟩
        refine ⟨by simp, hp, fun x hx hlt => ?_⟩
        rcases List.mem_cons.mp hx with rfl | hx
        · exact absurd hlt (Nat.lt_irrefl _)
        · exact absurd hlt (Nat.lt_asymm (hc x hx))
      · rintro ⟨hr, -, least⟩
        rcases List.mem_cons.mp hr with rfl | hr
        · rfl
        · exact absurd hp (least c (by simp) (hc r hr))
    · rw [List.find?_cons_of_neg hp, ih hl]
      constructor
      · rintro ⟨hr, hpr, least⟩
        refine ⟨by simp [hr], hpr, fun x hx hlt => ?_⟩
        rcases List.mem_cons.mp hx with rfl | hx
        · exact hp
        · exact least x hx hlt
      · rintro ⟨hr, hpr, least⟩
        rcases List.mem_cons.mp hr with rfl | hr
        · exact absurd hpr hp
        · exact ⟨hr, hpr, fun x hx => least x (by simp [hx])⟩

/-- R19, R180: the reasons are tested in the order of their codes, each of them. -/
theorem Reason.order_pairwise : Reason.order.Pairwise (fun x y => x.code < y.code) := by decide

theorem Reason.mem_order (r : Reason) : r ∈ Reason.order := by cases r <;> decide

/-- R18: no reason is reported exactly when no condition holds. -/
theorem ZoneTable.validate_eq_none (t : ZoneTable) : t.validate = none ↔ ∀ r, ¬ t.fails r = true := by
  simp [ZoneTable.validate, List.find?_eq_none, Reason.mem_order]

/-- R18: the reason reported is the one with the least code whose condition holds. -/
theorem ZoneTable.validate_eq_some (t : ZoneTable) (r : Reason) :
    t.validate = some r ↔ t.fails r = true ∧ ∀ x : Reason, x.code < r.code → ¬ t.fails x = true := by
  unfold ZoneTable.validate
  rw [find?_eq_some_iff_least Reason.code t.fails Reason.order r Reason.order_pairwise]
  simp [Reason.mem_order]

/-! ## The conditions -/

theorem outside_iff (lo hi : Nat) (w : Word) : outside lo hi w = true ↔ w.toNat < lo ∨ hi < w.toNat := by
  simp [outside]

theorem outside_one_iff (hi : Nat) (w : Word) : outside 1 hi w = true ↔ w.toNat = 0 ∨ hi < w.toNat := by
  rw [outside_iff, Nat.lt_one_iff]

theorem ZoneTable.eitherArm_iff (t : ZoneTable) (p : ArmFields → Bool) :
    t.eitherArm p = true ↔ ∃ arm : Arm, p (t.arms.get arm) = true := by
  rw [ZoneTable.eitherArm, Bool.or_eq_true]
  constructor
  · rintro (h | h)
    · exact ⟨.a, h⟩
    · exact ⟨.b, h⟩
  · rintro ⟨arm | arm, h⟩
    · exact .inl h
    · exact .inr h

theorem Zone.badRange_iff (z : Zone) : z.badRange = true ↔
    (z.wildX = false ∧ z.colHi < z.colLo) ∨ (z.wildY = false ∧ z.rowHi < z.rowLo) ∨
      (z.wildZ = false ∧ (z.tierHi < z.tierLo ∨ 3 < z.tierHi)) := by
  simp [Zone.badRange, BitVec.lt_def, or_assoc]

end Sys2Proof.Machine

open Sys2Proof Sys2Proof.Machine

/-- R19: each reason's test is its condition in the rule's own figures. -/
theorem fails_iff_reasonHolds (t : ZoneTable) (r : Reason) : t.fails r = true ↔ reasonHolds t r := by
  cases r with
  | pitch => simp [ZoneTable.fails, reasonHolds, outside_one_iff, or_assoc]
  | zoneCount => exact outside_one_iff 32 t.nz
  | zoneRange => simp only [ZoneTable.fails, reasonHolds, List.any_eq_true, Zone.badRange_iff]
  | refillZone => simp [ZoneTable.fails, reasonHolds, ZoneTable.refillList, -List.map_take]
  | armDec => simp [ZoneTable.fails, reasonHolds, ZoneTable.eitherArm_iff, BitVec.toNat_eq]
  | armWindow => simp [ZoneTable.fails, reasonHolds, ZoneTable.eitherArm_iff, outside_one_iff]
  | feedPeriod => simp [ZoneTable.fails, reasonHolds, ZoneTable.eitherArm_iff, outside_iff]
  | feedCount => simp [ZoneTable.fails, reasonHolds, ZoneTable.eitherArm_iff, outside_iff, or_assoc]
  | timing => simp [ZoneTable.fails, reasonHolds, ZoneTable.eitherArm_iff, outside_one_iff, or_assoc]

/-- Settles O32: validation searches the reasons in the order of their codes, and each test is its condition. -/
theorem validationReportsTheFirstReason : Obligations.ValidationReportsTheFirstReason := by
  refine ⟨fun t => ?_, fun t r => ?_⟩
  · simp only [ZoneTable.validate_eq_none, fails_iff_reasonHolds]
  · simp only [ZoneTable.validate_eq_some, fails_iff_reasonHolds]
end

section
/-! SUPPORT. R17, R181: the zone table as words. The words of a zone record and of an arm block against their fields, the
places of the parts in the image, and the copy read back from it. -/

namespace Sys2Proof.Machine

/-! ## Words and their bits -/

@[simp] theorem wordOf_toNat (n : Nat) : (wordOf n).toNat = n % 65536 := rfl

theorem bitAt_eq (w : Word) (i : Nat) : bitAt w i = decide (w.toNat / 2 ^ i % 2 = 1) := by
  rw [bitAt, BitVec.getLsbD, Nat.testBit_eq_decide_div_mod_eq]

theorem bitAt_of_toNat {w : Word} {i : Nat} {b : Bool} (h : w.toNat / 2 ^ i % 2 = b.toNat) : bitAt w i = b := by
  rw [bitAt_eq, h]
  cases b <;> rfl

theorem markAt_eq (b : Bool) (i : Nat) : markAt b i = b.toNat * 2 ^ i := by
  cases b <;> simp [markAt]

theorem markAt_bitAt (w : Word) (i : Nat) : markAt (bitAt w i) i = w.toNat / 2 ^ i % 2 * 2 ^ i := by
  rw [markAt_eq, bitAt_eq]
  rcases Nat.mod_two_eq_zero_or_one (w.toNat / 2 ^ i) with h | h <;> simp [h]

/-- The lowest bits of a word, as a field of their width. -/
theorem ofNat_bitsAt_zero (w : Word) (n : Nat) : BitVec.ofNat n (bitsAt w 0 n) = w.setWidth n :=
  BitVec.eq_of_toNat_eq (by simp [bitsAt])

/-- A mask of the lowest bits keeps the remainder. -/
theorem toNat_and_low (w m : Word) (n : Nat) (h : m.toNat = 2 ^ n - 1) : (w &&& m).toNat = w.toNat % 2 ^ n := by
  rw [BitVec.toNat_and, h, Nat.and_two_pow_sub_one_eq_mod]

theorem and_full (w : Word) : w &&& 65535#16 = w := BitVec.and_allOnes

/-- A field of the lowest bits, written as a word of its own. -/
theorem wordOf_setWidth (w m : Word) (n : Nat) (hn : n ≤ 16) (h : m.toNat = 2 ^ n - 1) :
    wordOf (w.setWidth n).toNat = w &&& m := by
  apply BitVec.eq_of_toNat_eq
  have : w.toNat % 2 ^ n < 65536 := lt_of_lt_of_le (Nat.mod_lt _ (by positivity)) (Nat.pow_le_pow_right (by omega) hn)
  rw [toNat_and_low w m n h, wordOf_toNat, BitVec.toNat_setWidth, Nat.mod_eq_of_lt this]

theorem setWidth_wordOf {n : Nat} (x : BitVec n) (hn : n ≤ 16) : (wordOf x.toNat).setWidth n = x := by
  apply BitVec.eq_of_toNat_eq
  have : x.toNat < 65536 := lt_of_lt_of_le x.isLt (Nat.pow_le_pow_right (by omega) hn)
  rw [BitVec.toNat_setWidth, wordOf_toNat, Nat.mod_eq_of_lt this, Nat.mod_eq_of_lt x.isLt]

/-- A word of two lists in a row. -/
theorem getD_append_ite (l r : List Word) (k : Nat) :
    (l ++ r).getD k 0 = if k < l.length then l.getD k 0 else r.getD (k - l.length) 0 := by
  split_ifs with h
  · exact List.getD_append _ _ _ _ h
  · exact List.getD_append_right _ _ _ _ (Nat.le_of_not_lt h)

/-! ## A zone record -/

theorem Zone.toWords_ofWords (w v : Word) : (Zone.ofWords w v).toWords = [w, v &&& 0x07FF] := by
  have hw := w.isLt
  simp only [Zone.toWords, Zone.ofWords, bitsAt, markAt_bitAt, BitVec.toNat_ofNat, List.cons.injEq, and_true]
  constructor <;> apply BitVec.eq_of_toNat_eq <;> rw [wordOf_toNat]
  · omega
  · rw [toNat_and_low v _ 11 rfl]
    omega

theorem Zone.ofWords_toWords (z : Zone) : Zone.ofWords (z.toWords.getD 0 0) (z.toWords.getD 1 0) = z := by
  obtain ⟨cl, ch, rl, rh, tl, th, wx, wy, wz⟩ := z
  have hcl := cl.isLt; have hch := ch.isLt; have hrl := rl.isLt; have hrh := rh.isLt
  have htl := tl.isLt; have hth := th.isLt
  have hx := wx.toNat_le; have hy := wy.toNat_le; have hz := wz.toNat_le
  simp only [Zone.toWords, Zone.ofWords, List.getD_cons_zero, List.getD_cons_succ, bitsAt, markAt_eq, wordOf_toNat,
    Zone.mk.injEq, ← BitVec.toNat_inj, BitVec.toNat_ofNat]
  refine ⟨by omega, by omega, by omega, by omega, by omega, by omega, bitAt_of_toNat ?_, bitAt_of_toNat ?_,
    bitAt_of_toNat ?_⟩
  all_goals rw [wordOf_toNat]; omega

/-! ## An arm block -/

theorem ArmFields.ofWords_congr {f g : Nat → Word} (h : ∀ k < 16, f k = g k) : ArmFields.ofWords f = ArmFields.ofWords g := by
  simp [ArmFields.ofWords, h]

theorem mirror_word (w : Word) : wordOf (markAt (bitAt w 0) 0 + markAt (bitAt w 1) 1) = w &&& 3 := by
  apply BitVec.eq_of_toNat_eq
  rw [toNat_and_low w 3 2 rfl, wordOf_toNat, markAt_bitAt, markAt_bitAt]
  omega

theorem ArmFields.ofWords_toWords (m : ArmFields) : ArmFields.ofWords (fun k => m.toWords.getD k 0) = m := by
  have mirror : ∀ x y : Bool, bitAt (wordOf (markAt x 0 + markAt y 1)) 0 = x ∧ bitAt (wordOf (markAt x 0 + markAt y 1)) 1 = y := by
    decide
  simp [ArmFields.ofWords, ArmFields.toWords, ofNat_bitsAt_zero, setWidth_wordOf, mirror]

/-! ## The parts of the image -/

/-- The words of a table before its refill list. -/
def ZoneTable.header (t : ZoneTable) : List Word :=
  [t.serial, t.px, t.py, t.pz, t.nz, t.sc, t.rdr, t.rdf, t.rsl, t.refillCount]

theorem ZoneTable.image_eq (t : ZoneTable) : t.image = t.header ++ List.replicate 22 0 ++ t.refillEntries ++
    t.zones.flatMap Zone.toWords ++ t.arms.a.toWords ++ t.arms.b.toWords ++ List.replicate 96 0 := rfl

theorem flatMap_toWords_length (zs : List Zone) : (zs.flatMap Zone.toWords).length = 2 * zs.length := by
  induction zs with
  | nil => rfl
  | cons z zs ih => simp [Zone.toWords] at ih ⊢; omega

/-- Two words stand for each zone record. -/
theorem flatMap_toWords_getD (zs : List Zone) (z j : Nat) (hj : j < 2) :
    (zs.flatMap Zone.toWords).getD (2 * z + j) 0 = (zs.getD z Zone.blank).toWords.getD j 0 := by
  induction zs generalizing z with
  | nil =>
    have blank : Zone.blank.toWords = [0, 0] := rfl
    rw [List.getD_nil, blank]
    interval_cases j <;> rfl
  | cons x zs ih =>
    cases z with
    | zero => interval_cases j <;> rfl
    | succ z =>
      rw [show 2 * (z + 1) + j = 2 * z + j + 1 + 1 by omega]
      exact ih z

theorem ZoneTable.image_length {t : ZoneTable} (hz : t.zones.length = 32) (hr : t.refillEntries.length = 32) :
    t.image.length = 256 := by
  simp only [ZoneTable.image_eq, ZoneTable.header, ArmFields.toWords, List.length_append, List.length_cons, List.length_nil,
    List.length_replicate, flatMap_toWords_length, hz, hr]

/-- R181: the image of a table with 32 zone records and 32 refill entries, read part by part. -/
theorem ZoneTable.image_getD {t : ZoneTable} (hz : t.zones.length = 32) (hr : t.refillEntries.length = 32) (k : Nat) :
    t.image.getD k 0 =
      if k < 0x0A then t.header.getD k 0
      else if k - 0x0A < 22 then 0
      else if k - 0x20 < 32 then t.refillEntries.getD (k - 0x20) 0
      else if k - 0x40 < 64 then (t.zones.flatMap Zone.toWords).getD (k - 0x40) 0
      else if k - 0x80 < 16 then t.arms.a.toWords.getD (k - 0x80) 0
      else if k - 0x90 < 16 then t.arms.b.toWords.getD (k - 0x90) 0
      else 0 := by
  have hh : t.header.length = 10 := rfl
  have arm : ∀ m : ArmFields, m.toWords.length = 16 := fun _ => rfl
  have zero : ∀ n j, (List.replicate n (0 : Word)).getD j 0 = 0 := fun n j => by
    rw [List.getD_eq_getElem?_getD, List.getElem?_replicate]
    split <;> rfl
  simp only [ZoneTable.image_eq, List.append_assoc, getD_append_ite, List.length_replicate, flatMap_toWords_length, hz, hr,
    hh, arm, zero, Nat.sub_sub]

section
variable {t : ZoneTable} (hz : t.zones.length = 32) (hr : t.refillEntries.length = 32)
include hz hr

theorem ZoneTable.image_getD_refill {k : Nat} (hk : k < 32) : t.image.getD (0x20 + k) 0 = t.refillEntries.getD k 0 := by
  rw [ZoneTable.image_getD hz hr, if_neg (by omega), if_neg (by omega), if_pos (by omega), Nat.add_sub_cancel_left]

theorem ZoneTable.image_getD_zone {z j : Nat} (h : z < 32) (hj : j < 2) :
    t.image.getD (0x40 + 2 * z + j) 0 = (t.zones.getD z Zone.blank).toWords.getD j 0 := by
  rw [Nat.add_assoc, ZoneTable.image_getD hz hr, if_neg (by omega), if_neg (by omega), if_neg (by omega),
    if_pos (by omega), Nat.add_sub_cancel_left, flatMap_toWords_getD _ _ _ hj]

theorem ZoneTable.image_getD_armA {k : Nat} (hk : k < 16) : t.image.getD (0x80 + k) 0 = t.arms.a.toWords.getD k 0 := by
  rw [ZoneTable.image_getD hz hr, if_neg (by omega), if_neg (by omega), if_neg (by omega), if_neg (by omega),
    if_pos (by omega), Nat.add_sub_cancel_left]

theorem ZoneTable.image_getD_armB {k : Nat} (hk : k < 16) : t.image.getD (0x90 + k) 0 = t.arms.b.toWords.getD k 0 := by
  rw [ZoneTable.image_getD hz hr, if_neg (by omega), if_neg (by omega), if_neg (by omega), if_neg (by omega),
    if_neg (by omega), if_pos (by omega), Nat.add_sub_cancel_left]

end

/-! ## The copy -/

theorem getD_map_range {α : Type} (f : Nat → α) {n k : Nat} (h : k < n) (d : α) : ((List.range n).map f).getD k d = f k := by
  simp [List.getD_eq_getElem?_getD, h]

theorem map_range_getD {α : Type} (l : List α) (d : α) {n : Nat} (h : l.length = n) :
    (List.range n).map (fun k => l.getD k d) = l := by
  subst h
  refine List.ext_getElem (by simp) (fun k _ hk => ?_)
  simp [List.getD_eq_getElem?_getD, hk]

theorem ZoneTable.ofWords_header (ws : List Word) :
    (ZoneTable.ofWords ws).header = (List.range 10).map (fun k => ws.getD k 0) := rfl

theorem ZoneTable.ofWords_refillEntry (ws : List Word) {k : Nat} (h : k < 32) :
    (ZoneTable.ofWords ws).refillEntries.getD k 0 = ws.getD (0x20 + k) 0 :=
  getD_map_range (fun k => ws.getD (0x20 + k) 0) h 0

theorem ZoneTable.ofWords_zone (ws : List Word) {z : Nat} (h : z < 32) :
    (ZoneTable.ofWords ws).zones.getD z Zone.blank = Zone.ofWords (ws.getD (0x40 + 2 * z) 0) (ws.getD (0x41 + 2 * z) 0) :=
  getD_map_range (fun z => Zone.ofWords (ws.getD (0x40 + 2 * z) 0) (ws.getD (0x41 + 2 * z) 0)) h Zone.blank

/-- R17, R181: a table with 32 zone records and 32 refill entries is copied whole from its image. -/
theorem ZoneTable.ofWords_image {t : ZoneTable} (hz : t.zones.length = 32) (hr : t.refillEntries.length = 32) :
    ZoneTable.ofWords t.image = t := by
  have refill : (List.range 32).map (fun k => t.image.getD (0x20 + k) 0) = t.refillEntries := by
    refine Eq.trans (List.map_congr_left fun k hk => ?_) (map_range_getD t.refillEntries 0 hr)
    exact ZoneTable.image_getD_refill hz hr (List.mem_range.mp hk)
  have zones : (List.range 32).map (fun z => Zone.ofWords (t.image.getD (0x40 + 2 * z) 0) (t.image.getD (0x41 + 2 * z) 0)) =
      t.zones := by
    refine Eq.trans (List.map_congr_left fun z hk => ?_) (map_range_getD t.zones Zone.blank hz)
    have low := ZoneTable.image_getD_zone hz hr (List.mem_range.mp hk) (j := 0) (by omega)
    have high := ZoneTable.image_getD_zone hz hr (List.mem_range.mp hk) (j := 1) (by omega)
    rw [Nat.add_zero] at low
    rw [show 0x41 + 2 * z = 0x40 + 2 * z + 1 by omega, low, high, Zone.ofWords_toWords]
  have armA : ArmFields.ofWords (fun k => t.image.getD (0x80 + k) 0) = t.arms.a :=
    (ArmFields.ofWords_congr fun k hk => ZoneTable.image_getD_armA hz hr hk).trans (ArmFields.ofWords_toWords _)
  have armB : ArmFields.ofWords (fun k => t.image.getD (0x90 + k) 0) = t.arms.b :=
    (ArmFields.ofWords_congr fun k hk => ZoneTable.image_getD_armB hz hr hk).trans (ArmFields.ofWords_toWords _)
  simp only [ZoneTable.ofWords, refill, zones, armA, armB]
  rfl

end Sys2Proof.Machine

open Sys2Proof Sys2Proof.Machine

/-! ## The masks of the copy -/

/-- R181: the arm block of copied words shows them under the mask. -/
theorem armFields_toWords_ofWords (f : Nat → Word) {k : Nat} (hk : k < 16) :
    (ArmFields.ofWords f).toWords.getD k 0 = f k &&& readMask (0x80 + k) := by
  simp only [ArmFields.ofWords, ArmFields.toWords, ofNat_bitsAt_zero, mirror_word, wordOf_setWidth _ 0x0FFF 12 (by omega) rfl,
    wordOf_setWidth _ 0x001F 5 (by omega) rfl, wordOf_setWidth _ 0x00FF 8 (by omega) rfl]
  interval_cases k <;> simp [readMask, and_full]

/-- R181: the two words of a copied zone record show the words copied under the mask. -/
theorem zone_toWords_ofWords (f : Nat → Word) {z j : Nat} (hz : z < 32) (hj : j < 2) :
    (Zone.ofWords (f (0x40 + 2 * z)) (f (0x41 + 2 * z))).toWords.getD j 0 =
      f (0x40 + 2 * z + j) &&& readMask (0x40 + 2 * z + j) := by
  have mask : ∀ z < 32, readMask (0x40 + 2 * z) = 65535#16 ∧ readMask (0x41 + 2 * z) = 0x07FF := by decide
  have next : 0x40 + 2 * z + 1 = 0x41 + 2 * z := by omega
  rw [Zone.toWords_ofWords]
  interval_cases j
  · simp [mask z hz, and_full]
  · simp [next, mask z hz]

/-- R181: the image of a copied table shows the copied words, with every bit that the copy did not read zero. -/
theorem image_ofWords_getD (ws : List Word) (k : Nat) :
    (ZoneTable.ofWords ws).image.getD k 0 = ws.getD k 0 &&& readMask k := by
  have hz := ZoneTable.ofWords_zones_length ws
  have hr := ZoneTable.ofWords_refillEntries_length ws
  have sameMask : ∀ j < 16, readMask (0x90 + j) = readMask (0x80 + j) := by decide
  by_cases h1 : k < 0x0A
  · rw [ZoneTable.image_getD hz hr, if_pos h1, ZoneTable.ofWords_header, getD_map_range _ h1]
    simp [readMask, h1, and_full]
  by_cases h2 : k < 0x20
  · rw [ZoneTable.image_getD hz hr, if_neg h1, if_pos (by omega)]
    simp [readMask, h1, h2]
  by_cases h3 : k < 0x40
  · obtain ⟨j, rfl⟩ := Nat.exists_eq_add_of_le (Nat.le_of_not_lt h2)
    rw [ZoneTable.image_getD_refill hz hr (by omega), ZoneTable.ofWords_refillEntry ws (by omega)]
    simp [readMask, h1, h3, and_full]
  by_cases h4 : k < 0x80
  · obtain ⟨z, j, hz', hj, rfl⟩ : ∃ z j, z < 32 ∧ j < 2 ∧ k = 0x40 + 2 * z + j :=
      ⟨(k - 0x40) / 2, (k - 0x40) % 2, by omega, by omega, by omega⟩
    rw [ZoneTable.image_getD_zone hz hr hz' hj, ZoneTable.ofWords_zone ws hz']
    exact zone_toWords_ofWords (fun k => ws.getD k 0) hz' hj
  by_cases h5 : k < 0x90
  · obtain ⟨j, rfl⟩ := Nat.exists_eq_add_of_le (Nat.le_of_not_lt h4)
    rw [ZoneTable.image_getD_armA hz hr (by omega)]
    exact armFields_toWords_ofWords (fun k => ws.getD (0x80 + k) 0) (by omega)
  by_cases h6 : k < 0xA0
  · obtain ⟨j, rfl⟩ := Nat.exists_eq_add_of_le (Nat.le_of_not_lt h5)
    rw [ZoneTable.image_getD_armB hz hr (by omega), sameMask j (by omega)]
    exact armFields_toWords_ofWords (fun k => ws.getD (0x90 + k) 0) (by omega)
  · rw [ZoneTable.image_getD hz hr, if_neg h1, if_neg (by omega), if_neg (by omega), if_neg (by omega), if_neg (by omega),
      if_neg (by omega)]
    simp [readMask, h1, h2, h3, h4, h6]

/-- R181: the copy takes each field of an arm block from its place. -/
theorem armLayout_ofWords (f : Nat → Word) : armLayout (ArmFields.ofWords f) f := by
  simp [armLayout, ArmFields.ofWords, ofNat_bitsAt_zero, bitAt]

/-- R181: the copy takes each field of a zone record from its place. -/
theorem zoneLayout_ofWords (w v : Word) : zoneLayout (Zone.ofWords w v) w v := by
  have hw := w.isLt
  simp only [zoneLayout, Zone.ofWords, bitsAt, BitVec.toNat_ofNat]
  exact ⟨by omega, by omega, by omega, by omega, by omega, by omega, rfl, rfl, rfl⟩

/-- Settles O33: the image part by part, each part read back by the copy and masked as it is read. -/
theorem tableImageCarriesTheTable : Obligations.TableImageCarriesTheTable := by
  refine ⟨fun t hz hr => ⟨ZoneTable.ofWords_image hz hr, ZoneTable.image_length hz hr⟩, fun ws _ => ?_⟩
  refine ⟨fun k _ => image_ofWords_getD ws k, rfl, rfl, rfl, rfl, rfl, rfl, rfl, rfl, rfl, rfl,
    ZoneTable.ofWords_refillEntries_length ws, ZoneTable.ofWords_zones_length ws, fun k hk => ⟨?_, ?_⟩,
    armLayout_ofWords _, armLayout_ofWords _⟩
  · exact ZoneTable.ofWords_refillEntry ws hk
  · rw [ZoneTable.zone, ZoneTable.ofWords_zone ws hk]
    exact zoneLayout_ofWords _ _
end

section
/-! SUPPORT. R2, R5–R7: the cells of the grid and of the table's sets. R68, R106, R109: a zone test as the first listed zone
with a cell that meets its condition, and the blockers of a head in their order. -/

namespace Sys2Proof.Machine

/-! ## Cells and cell sets -/

theorem within_iff (lo hi x : Nat) : within lo hi x = true ↔ lo ≤ x ∧ x ≤ hi := by simp [within]

/-- R2: the place of a cell lies in the grid. -/
theorem place_lt {i : Nat} (h : i < 1024) : columnOf i < 16 ∧ rowOf i < 16 ∧ tierOf i < 4 := by
  unfold columnOf rowOf tierOf
  omega

/-- R2, R56: the cell of a place, the records being indexed column first, then row, then tier. -/
theorem cell_of_place {c r h : Nat} (hc : c < 16) (hr : r < 16) (hh : h < 4) :
    ∃ i < 1024, columnOf i = c ∧ rowOf i = r ∧ tierOf i = h ∧
      ∀ j < 1024, columnOf j = c → rowOf j = r → tierOf j = h → j = i := by
  unfold columnOf rowOf tierOf
  exact ⟨c + 16 * r + 256 * h, by omega, by omega, by omega, by omega, by omega⟩

/-- R5: on each axis the index lies in the zone's bound, or the axis is wildcarded. -/
theorem Zone.contains_iff (z : Zone) (i : Nat) : z.contains i = true ↔
    (z.wildX = true ∨ (z.colLo.toNat ≤ columnOf i ∧ columnOf i ≤ z.colHi.toNat)) ∧
      (z.wildY = true ∨ (z.rowLo.toNat ≤ rowOf i ∧ rowOf i ≤ z.rowHi.toNat)) ∧
      (z.wildZ = true ∨ (z.tierLo.toNat ≤ tierOf i ∧ tierOf i ≤ z.tierHi.toNat)) := by
  simp only [Zone.contains, Bool.and_eq_true, Bool.or_eq_true, within_iff, and_assoc]

theorem ZoneTable.zoneHas_iff (t : ZoneTable) (z i : Nat) :
    t.zoneHas z i = true ↔ z < t.nz.toNat ∧ (t.zone z).contains i = true := by
  simp [ZoneTable.zoneHas]

theorem ZoneTable.setHas_iff (t : ZoneTable) (zs : List Nat) (i : Nat) :
    t.setHas zs i = true ↔ ∃ z ∈ zs, t.zoneHas z i = true := by
  simp [ZoneTable.setHas]

theorem ZoneTable.refillHas_iff (t : ZoneTable) (i : Nat) :
    t.refillHas i = true ↔ ∃ w ∈ t.refillEntries.take t.refillCount.toNat, t.zoneHas w.toNat i = true := by
  simp only [ZoneTable.refillHas, ZoneTable.setHas_iff, ZoneTable.refillList, List.mem_map, exists_exists_and_eq_and]

theorem ZoneTable.hasRefillSet_iff (t : ZoneTable) : t.hasRefillSet = true ↔ t.refillCount ≠ 0 := by
  simp [ZoneTable.hasRefillSet, BitVec.toNat_eq]

/-! ## Blockers -/

/-- R56: a pass over the 1024 records meets a condition in some cell. -/
theorem State.anyCell_iff {s : State} (hs : s.cells.length = 1024) (p : Nat → Cell → Bool) :
    anyCell p 0 s.cells = true ↔ ∃ i < 1024, p i (s.cell i) = true := by
  rw [anyCell_eq_true]
  constructor
  · rintro ⟨i, hi, hp⟩
    exact ⟨i, hs ▸ hi, by simpa [State.cell, hi] using hp⟩
  · rintro ⟨i, hi, hp⟩
    exact ⟨i, hs ▸ hi, by simpa [State.cell, hs, hi] using hp⟩

theorem State.blockerOf_unseated {s : State} {arm : Arm} (h : (s.enf.get arm).seated = false) (t : ZoneTable) (up : Bool)
    (tr : Traverse) : s.blockerOf t up arm tr = some (.unseated, none) := by
  simp [State.blockerOf, h]

theorem State.blockerOf_window {s : State} {arm : Arm} (h : (s.enf.get arm).seated = true) {t : ZoneTable}
    (hw : (t.arms.get arm).w.toNat ≤ (s.lanes.get arm).grantedList.length) (up : Bool) (tr : Traverse) :
    s.blockerOf t up arm tr = some (.window, none) := by
  simp [State.blockerOf, h, hw]

/-- R106, R108, R109: with the arm seated and the window open, the first zone with a fenced cell blocks the head, then
under the refill fence the first with a refill-set cell, then the first with a cell of the other arm. -/
theorem State.blockerOf_zones {s : State} {arm : Arm} (h : (s.enf.get arm).seated = true) {t : ZoneTable}
    (hw : ¬ (t.arms.get arm).w.toNat ≤ (s.lanes.get arm).grantedList.length) (up : Bool) (tr : Traverse) :
    s.blockerOf t up arm tr =
      ((s.zoneTest t tr.zones (fun i _ => t.setHas s.fence i)).map (fun z => (Blocker.fence, some z))).or
      (((s.zoneTest t tr.zones (fun i _ => up && t.refillHas i)).map (fun z => (Blocker.refill, some z))).or
      ((s.zoneTest t tr.zones (fun _ c => c.ownedBy arm.other)).map (fun z => (Blocker.otherArm, some z)))) := by
  have off : s.zoneTest t tr.zones (fun _ _ => false) = none := by simp [State.zoneTest_none]
  simp only [State.blockerOf, h, hw, Bool.not_true, Bool.false_eq_true, if_false]
  cases s.zoneTest t tr.zones (fun i _ => t.setHas s.fence i) with
  | some z => rfl
  | none =>
    cases up with
    | false =>
      simp only [Bool.false_and, off, Bool.false_eq_true, if_false]
      cases s.zoneTest t tr.zones (fun _ c => c.ownedBy arm.other) <;> rfl
    | true =>
      simp only [Bool.true_and, if_true]
      cases s.zoneTest t tr.zones (fun i _ => t.refillHas i) with
      | some z => rfl
      | none => cases s.zoneTest t tr.zones (fun _ c => c.ownedBy arm.other) <;> rfl

end Sys2Proof.Machine

open Sys2Proof Sys2Proof.Machine

/-- R68, R109: a zone test answers the first listed zone with a cell that meets the condition. -/
theorem zoneTest_eq_some_of_firstZone {s : State} (hs : s.cells.length = 1024) {t : ZoneTable} {p : Nat → Cell → Bool}
    {P : Nat → Prop} (hP : ∀ z, P z ↔ ∃ i < 1024, t.zoneHas z i = true ∧ p i (s.cell i) = true) {zs : List Nat} {z : Nat}
    (h : firstZone zs P z) : s.zoneTest t zs p = some z := by
  obtain ⟨before, after, rfl, hz, hb⟩ := h
  simp only [hP] at hz hb
  have test : ∀ z, anyCell (fun i c => t.zoneHas z i && p i c) 0 s.cells = true ↔
      ∃ i < 1024, t.zoneHas z i = true ∧ p i (s.cell i) = true := fun z => by
    simp only [State.anyCell_iff hs, Bool.and_eq_true]
  refine List.find?_eq_some_iff_append.mpr ⟨(test z).mpr hz, before, after, rfl, fun y hy => ?_⟩
  rw [Bool.not_eq_true', ← Bool.not_eq_true, test]
  exact hb y hy

/-- R68: a zone test answers none where no listed zone has such a cell. -/
theorem zoneTest_eq_none_of_forall {s : State} (hs : s.cells.length = 1024) {t : ZoneTable} {p : Nat → Cell → Bool}
    {P : Nat → Prop} (hP : ∀ z, P z ↔ ∃ i < 1024, t.zoneHas z i = true ∧ p i (s.cell i) = true) {zs : List Nat}
    (h : ∀ z ∈ zs, ¬ P z) : s.zoneTest t zs p = none := by
  refine List.find?_eq_none.mpr (fun z hz => ?_)
  rw [State.anyCell_iff hs]
  simpa only [Bool.and_eq_true, ← hP] using h z hz

/-- R2, R5–R7: the cells of the grid, of a zone, of a list of zones and of the refill set. -/
theorem cellSetRule_holds (t : ZoneTable) : cellSetRule t :=
  ⟨fun _ h => place_lt h, fun _ hc _ hr _ hh => cell_of_place hc hr hh,
    fun z i => by rw [ZoneTable.zoneHas_iff, Zone.contains_iff],
    t.setHas_iff, t.refillHas_iff, t.hasRefillSet_iff⟩

/-- Settles O41: the blockers are three zone tests in a row, behind the seated mark and the window. -/
theorem blockersAreTestedInOrder : Obligations.BlockersAreTestedInOrder := by
  refine ⟨cellSetRule_holds, fun s t arm tr hs => ?_⟩
  intro x full fenced refill others
  have hf : ∀ z, fenced z ↔ ∃ i < 1024, t.zoneHas z i = true ∧ t.setHas s.fence i = true := fun _ => Iff.rfl
  have hr : ∀ z, refill z ↔ ∃ i < 1024, t.zoneHas z i = true ∧ (s.refillFence && t.refillHas i) = true := fun z => by
    simp only [refill, State.refillFence, Bool.and_eq_true, decide_eq_true_eq]
    tauto
  have ho : ∀ z, others z ↔ ∃ i < 1024, t.zoneHas z i = true ∧ (s.cell i).ownedBy arm.other = true := fun z => by
    simp only [others, Cell.ownedBy, decide_eq_true_eq]
  refine ⟨fun hu => State.blockerOf_unseated hu t _ tr, fun seated => ⟨fun hw => State.blockerOf_window seated hw _ tr,
    fun hw => ?_⟩⟩
  have hx : x = _ := State.blockerOf_zones seated hw s.refillFence tr
  rw [hx]
  refine ⟨fun z hz => ?_, fun hnf => ⟨fun z hz => ?_, fun hnr => ⟨fun z hz => ?_, fun hno => ?_⟩⟩⟩
  · rw [zoneTest_eq_some_of_firstZone hs hf hz]
    rfl
  · rw [zoneTest_eq_none_of_forall hs hf hnf, zoneTest_eq_some_of_firstZone hs hr hz]
    rfl
  · rw [zoneTest_eq_none_of_forall hs hf hnf, zoneTest_eq_none_of_forall hs hr hnr,
      zoneTest_eq_some_of_firstZone hs ho hz]
    rfl
  · rw [zoneTest_eq_none_of_forall hs hf hnf, zoneTest_eq_none_of_forall hs hr hnr, zoneTest_eq_none_of_forall hs ho hno]
    rfl
end

section
/-! SUPPORT. R26–R37: what the operations of a feed receiver do to the feed's own record, and what a completed frame is
judged to be. -/

namespace Sys2Proof.Machine

/-! ## Changes of one side -/

theorem Pair_modify_modify {α : Type} (p : Pair α) (x : Side) (f g : α → α) :
    (p.modify x f).modify x g = p.modify x (fun v => g (f v)) := by
  cases x <;> rfl

/-- A change of one side is known by what it makes of that side's value. -/
theorem Pair_modify_congr {α : Type} {p : Pair α} {x : Side} {f g : α → α} (h : f (p.get x) = g (p.get x)) :
    p.modify x f = p.modify x g := by
  rw [Pair.modify, h, Pair.modify]

theorem Pair_modify_eq_self {α : Type} {p : Pair α} {x : Side} {f : α → α} (h : f (p.get x) = p.get x) :
    p.modify x f = p := by
  rw [Pair.modify, h]
  cases x <;> rfl

/-! ## The feed's record (R29–R37) -/

/-- R35, R37: a feed's record when the feed is lost. -/
def Feed.lost (f : Feed) (m : ArmFields) : Feed :=
  { f with
    state := .lost, goodRun := 0, missTimer := none
    graceTimer := if m.lg.toNat = 0 then f.graceTimer else some (ms m.lg.toNat) }

/-- R33, R34: a feed's record after a fault. -/
def Feed.faulted (f : Feed) (m : ArmFields) : Feed :=
  match f.state with
  | .absent => f
  | .acquiring => { f with goodRun := 0 }
  | .steady =>
    if m.fc.toNat ≤ f.faultRun + 1 then ({ f with faultRun := f.faultRun + 1 } : Feed).lost m
    else { f with faultRun := f.faultRun + 1 }
  | .lost => f

/-- R32–R37: a feed's state and run counters after a good frame. -/
def Feed.ranGood (f : Feed) (m : ArmFields) : Feed :=
  match f.state with
  | .absent => { f with state := .acquiring, goodRun := 1, faultRun := 0 }
  | .lost => { f with state := .acquiring, goodRun := 1, faultRun := 0 }
  | .acquiring =>
    if m.rc.toNat ≤ f.goodRun + 1 then
      { f with state := .steady, goodRun := f.goodRun + 1, faultRun := 0, graceTimer := none }
    else { f with goodRun := f.goodRun + 1 }
  | .steady => { f with faultRun := 0 }

/-- R28, R36: a good frame counted, its sequence kept and the miss timer restarted. -/
def Feed.countedGood (f : Feed) (m : ArmFields) (q : Byte) : Feed :=
  { f with good := f.good + 1, lastSeq := some q, missTimer := some (missTime m) }

/-- R30: the gap that a frame is held with. -/
def Feed.joined (f : Feed) (gap : Option Nat) : Option Nat :=
  match f.holding with
  | none => gap
  | some h => joinGaps h.gap gap

/-- R29, R30: a good frame in the holding slot. -/
def Feed.placed (f : Feed) (bs : List Byte) (gap : Option Nat) : Feed :=
  { f with
    holding := some (heldFrame bs (f.joined gap))
    overrun := if f.holding.isSome then f.overrun + 1 else f.overrun }

/-- R29, R69: the requests after a good frame: one more where the holding slot was empty. -/
def State.waitingAfterFrame (s : State) (arm : Arm) : List (List Request) :=
  if (s.feeds.get arm).holding.isSome then s.waiting else s.waiting ++ [[.evaluation arm]]

section
variable (s : State) (arm : Arm) (m : ArmFields)

theorem State.changeFeed_feeds (new : FeedState) :
    (s.changeFeed arm new).feeds = s.feeds.modify arm (fun f => { f with state := new }) := by
  unfold State.changeFeed
  split
  · rename_i same
    exact (Pair_modify_eq_self (by simp only [← same])).symm
  · dsimp only
    split <;> simp

theorem State.enterLost_feeds : (s.enterLost arm m).feeds = s.feeds.modify arm (fun f => f.lost m) := by
  unfold State.enterLost
  dsimp only
  split <;> rename_i grace
  · simp only [State.addFeedLoss_feeds, State.orderSnapshot_feeds, State.modFeed_feeds, State.changeFeed_feeds,
      Pair_modify_modify]
    exact Pair_modify_congr (by simp [Feed.lost, grace])
  · simp only [State.orderSnapshot_feeds, State.modFeed_feeds, State.changeFeed_feeds, Pair_modify_modify]
    exact Pair_modify_congr (by simp [Feed.lost, grace])

theorem State.fault_feeds : (s.fault arm m).feeds = s.feeds.modify arm (fun f => f.faulted m) := by
  unfold State.fault
  split <;> rename_i state
  · exact (Pair_modify_eq_self (by simp [Feed.faulted, state])).symm
  · rw [State.modFeed_feeds]
    exact Pair_modify_congr (by simp [Feed.faulted, state])
  · dsimp only
    split <;> rename_i reached <;> simp at reached
    · rw [State.enterLost_feeds, State.modFeed_feeds, Pair_modify_modify]
      exact Pair_modify_congr (by simp [Feed.faulted, state, reached])
    · rw [State.modFeed_feeds]
      exact Pair_modify_congr (by simp [Feed.faulted, state, reached])
  · exact (Pair_modify_eq_self (by simp [Feed.faulted, state])).symm

theorem State.goodRunStep_feeds : (s.goodRunStep arm m).feeds = s.feeds.modify arm (fun f => f.ranGood m) := by
  unfold State.goodRunStep
  split <;> rename_i state
  · simp only [State.modReach_feeds, State.changeFeed_feeds, State.modFeed_feeds, Pair_modify_modify]
    exact Pair_modify_congr (by simp [Feed.ranGood, state])
  · simp only [State.modReach_feeds, State.changeFeed_feeds, State.modFeed_feeds, Pair_modify_modify]
    exact Pair_modify_congr (by simp [Feed.ranGood, state])
  · dsimp only
    split <;> rename_i reached <;> simp at reached
    · simp only [State.changeFeed_feeds, State.modFeed_feeds, Pair_modify_modify]
      exact Pair_modify_congr (by simp [Feed.ranGood, state, reached])
    · rw [State.modFeed_feeds]
      exact Pair_modify_congr (by simp [Feed.ranGood, state, reached])
  · rw [State.modFeed_feeds]
    exact Pair_modify_congr (by simp [Feed.ranGood, state])

/-- R29, R30: placing a frame in the holding slot, in both cases. -/
theorem State.hold_eq (bs : List Byte) (gap : Option Nat) :
    s.hold arm bs gap = (s.modFeed arm (fun f => f.placed bs gap)).setWaiting (s.waitingAfterFrame arm) := by
  unfold State.hold State.waitingAfterFrame
  split <;> rename_i held <;> simp only [held, Option.isSome_none, Option.isSome_some, Bool.false_eq_true, if_false, if_true]
  · simp only [State.requestTogether, List.isEmpty_cons, Bool.false_eq_true, if_false, State.modFeed]
    rw [Pair_modify_congr (g := fun f => f.placed bs gap)]
    · rfl
    · simp [Feed.placed, Feed.joined, held]
  · simp only [State.modFeed]
    rw [Pair_modify_congr (g := fun f => f.placed bs gap)]
    · rfl
    · simp [Feed.placed, Feed.joined, held]

end

end Sys2Proof.Machine
end

section
/-! SUPPORT. R25, R29–R37, R69: the receivers in order (one evaluation request for each held frame, timers and runs as the
state requires) through every command. Most work leaves the receivers' view alone; the rest is the feed events, the taking of
a held frame, the swap and the resets. -/

namespace Sys2Proof.Machine

/-! ## The invariant and what it reads -/

/-- R32–R37: the timers and runs of a feed as its state requires. -/
def Feed.timersOk (f : Feed) : Prop :=
  (f.state = .absent → f.missTimer = none ∧ f.graceTimer = none) ∧
  (f.state = .lost → f.missTimer = none ∧ f.goodRun = 0) ∧
  (f.state = .acquiring ∨ f.state = .steady → f.missTimer.isSome = true ∧ f.lastSeq.isSome = true) ∧
  (f.state = .steady → f.graceTimer = none)

/-- R25, R29, R30, R32–R37, R69: one receiver is in order. -/
structure State.receiverOk (s : State) (arm : Arm) : Prop where
  requests : s.waiting.flatten.count (.evaluation arm) = (s.feeds.get arm).holding.isSome.toNat
  timers : (s.feeds.get arm).timersOk
  noTable : s.active = none → (s.feeds.get arm).holding = none ∧ (s.feeds.get arm).state = .absent

/-- Both receivers are in order. -/
def State.receiversOk (s : State) : Prop := ∀ arm, s.receiverOk arm

theorem State.receiverOk_iff (s : State) (arm : Arm) : s.receiverOk arm ↔ s.requestsOk arm ∧ s.feedOk arm := by
  have count : ∀ b : Bool, b.toNat = if b = true then 1 else 0 := by decide
  constructor
  · rintro ⟨requests, ⟨absent, lost, runs, steady⟩, noTable⟩
    exact ⟨⟨requests.trans (count _), fun h => (noTable h).1⟩, absent, lost, runs, steady, fun h => (noTable h).2⟩
  · rintro ⟨⟨requests, noFrame⟩, absent, lost, runs, steady, noTable⟩
    exact ⟨requests.trans (count _).symm, ⟨absent, lost, runs, steady⟩, fun h => ⟨noFrame h, noTable h⟩⟩

theorem State.receiversOk_iff (s : State) : s.receiversOk ↔ bothSides s.requestsOk ∧ bothSides s.feedOk := by
  simp only [State.receiversOk, State.receiverOk_iff]
  exact ⟨fun h => ⟨⟨(h .a).1, (h .b).1⟩, (h .a).2, (h .b).2⟩, fun ⟨r, f⟩ arm => by
    cases arm
    · exact ⟨r.1, f.1⟩
    · exact ⟨r.2, f.2⟩⟩

/-- What the invariant reads. -/
def State.receiverView (s : State) : Pair Feed × List (List Request) × Option ZoneTable := (s.feeds, s.waiting, s.active)

/-- Work that keeps the receivers in order. -/
def State.ReceiversKept (s t : State) : Prop := s.receiversOk → t.receiversOk

theorem State.ReceiversKept.refl (s : State) : s.ReceiversKept s := id

theorem State.ReceiversKept.trans {s t u : State} (h : s.ReceiversKept t) (k : t.ReceiversKept u) : s.ReceiversKept u :=
  k ∘ h

theorem State.ReceiversKept.of_view {s t : State} (h : t.receiverView = s.receiverView) : s.ReceiversKept t := by
  simp only [State.receiverView, Prod.mk.injEq] at h
  obtain ⟨feeds, waiting, active⟩ := h
  intro ok arm
  obtain ⟨requests, timers, noTable⟩ := ok arm
  rw [← feeds, ← waiting] at requests
  rw [← feeds] at timers
  rw [← feeds, ← active] at noTable
  exact ⟨requests, timers, noTable⟩

theorem State.ReceiversKept.foldl {α : Type} (g : State → α → State) (h : ∀ (s : State) (x : α), s.ReceiversKept (g s x))
    (l : List α) (s : State) : s.ReceiversKept (l.foldl g s) := by
  induction l generalizing s with
  | nil => exact .refl s
  | cons x l ih => exact (h s x).trans (ih _)

/-! ## Changes of one feed's record -/

/-- A change of one feed's record that leaves its holding slot alone. -/
theorem State.ReceiversKept.of_modFeed {s : State} {arm : Arm} {g : Feed → Feed}
    (held : (g (s.feeds.get arm)).holding = (s.feeds.get arm).holding)
    (timers : (s.feeds.get arm).timersOk → (g (s.feeds.get arm)).timersOk)
    (absent : s.active = none → (s.feeds.get arm).state = .absent → (g (s.feeds.get arm)).state = .absent) :
    s.ReceiversKept (s.modFeed arm g) := by
  intro ok x
  obtain ⟨requests, intime, noTable⟩ := ok x
  by_cases hx : x = arm
  · subst hx
    refine ⟨?_, ?_, fun h => ?_⟩ <;> rw [State.modFeed_feeds, Pair_get_modify_same]
    · rw [held]
      exact requests
    · exact timers intime
    · rw [held]
      exact ⟨(noTable h).1, absent h (noTable h).2⟩
  · refine ⟨?_, ?_, fun h => ?_⟩ <;> rw [State.modFeed_feeds, Pair_get_modify_of_ne _ _ _ _ hx]
    · exact requests
    · exact intime
    · exact noTable h

theorem Feed.lost_timersOk (f : Feed) (m : ArmFields) : (f.lost m).timersOk := by
  simp [Feed.timersOk, Feed.lost]

theorem Feed.faulted_timersOk {f : Feed} (m : ArmFields) (h : f.timersOk) : (f.faulted m).timersOk := by
  unfold Feed.faulted
  split <;> rename_i state
  · exact h
  · simpa [Feed.timersOk, state] using h
  · split
    · exact Feed.lost_timersOk _ m
    · simpa [Feed.timersOk, state] using h
  · exact h

@[simp] theorem Feed.faulted_holding (f : Feed) (m : ArmFields) : (f.faulted m).holding = f.holding := by
  unfold Feed.faulted
  (repeat' split) <;> rfl

theorem Feed.faulted_absent {f : Feed} (m : ArmFields) (h : f.state = .absent) : f.faulted m = f := by
  simp [Feed.faulted, h]

/-- R32–R36: with the miss timer started and the sequence kept, every good frame leaves a feed in order. -/
theorem Feed.ranGood_timersOk {f : Feed} (m : ArmFields) (q : Byte) (h : f.timersOk) :
    ((f.countedGood m q).ranGood m).timersOk := by
  unfold Feed.ranGood
  split <;> rename_i state
  · simp [Feed.timersOk, Feed.countedGood]
  · simp [Feed.timersOk, Feed.countedGood]
  · split
    · simp [Feed.timersOk, Feed.countedGood]
    · simp [Feed.timersOk, Feed.countedGood, show f.state = .acquiring from state]
  · obtain ⟨-, -, -, grace⟩ := h
    simp [Feed.timersOk, Feed.countedGood, show f.state = .steady from state, grace state]

theorem Feed.ranGood_holding (f : Feed) (m : ArmFields) : (f.ranGood m).holding = f.holding := by
  unfold Feed.ranGood
  (repeat' split) <;> rfl

/-! ## Feed events -/

section
variable (s : State) (arm : Arm) (m : ArmFields)

/-- A fault is, for the receivers, the change of the feed's record. -/
theorem State.fault_view : (s.fault arm m).receiverView = (s.modFeed arm (fun f => f.faulted m)).receiverView := by
  simp [State.receiverView, State.fault_feeds]

theorem State.fault_receiversKept : s.ReceiversKept (s.fault arm m) :=
  State.ReceiversKept.trans
    (.of_modFeed (Feed.faulted_holding _ m) (Feed.faulted_timersOk m) (fun _ h => by rw [Feed.faulted_absent m h]; exact h))
    (.of_view (State.fault_view s arm m))

theorem State.takeBad_receiversKept : s.ReceiversKept (s.takeBad arm m) :=
  State.ReceiversKept.trans (.of_modFeed rfl id (fun _ => id)) (State.fault_receiversKept _ arm m)

/-- R29, R30, R69: a frame placed in an empty slot is requested, one placed over a held frame is not. -/
theorem State.hold_receiversKept (bs : List Byte) (gap : Option Nat) (ha : s.active ≠ none) :
    s.ReceiversKept (s.hold arm bs gap) := by
  intro ok x
  obtain ⟨requests, intime, -⟩ := ok x
  rw [State.hold_eq]
  by_cases hx : x = arm
  · subst hx
    refine ⟨?_, ?_, fun h => absurd h ha⟩ <;>
      rw [State.setWaiting_feeds, State.modFeed_feeds, Pair_get_modify_same]
    · rw [State.setWaiting_waiting]
      unfold State.waitingAfterFrame
      split <;> rename_i held <;> simp [held, Feed.placed] at requests ⊢ <;> exact requests
    · exact intime
  · refine ⟨?_, ?_, fun h => absurd h ha⟩ <;>
      rw [State.setWaiting_feeds, State.modFeed_feeds, Pair_get_modify_of_ne _ _ _ _ hx]
    · have other : Request.evaluation arm ≠ .evaluation x := fun e => hx (Request.evaluation.inj e).symm
      rw [State.setWaiting_waiting]
      unfold State.waitingAfterFrame
      split
      · exact requests
      · simpa [other] using requests
    · exact intime

theorem State.takeGood_receiversKept (bs : List Byte) (ha : s.active ≠ none) : s.ReceiversKept (s.takeGood arm m bs) := by
  refine State.ReceiversKept.trans ?_ (State.hold_receiversKept _ arm bs _ (by simpa using ha))
  have ran : s.ReceiversKept (s.modFeed arm (fun f => (f.countedGood m (byteAt bs 2)).ranGood m)) :=
    .of_modFeed (Feed.ranGood_holding _ m) (Feed.ranGood_timersOk m _) (fun h => absurd h ha)
  refine ran.trans (.of_view ?_)
  simp only [State.receiverView, State.goodRunStep_feeds, State.goodRunStep_waiting, State.goodRunStep_active,
    State.modFeed_feeds, State.modFeed_waiting, State.modFeed_active, Pair_modify_modify]
  rfl

theorem State.frameComplete_receiversKept (chars : List LineChar) : s.ReceiversKept (s.frameComplete arm chars) := by
  unfold State.frameComplete
  split
  · exact .refl s
  · rename_i t ht
    dsimp only
    split
    · exact .refl s
    split
    · exact State.takeBad_receiversKept s arm _
    split
    · exact .of_modFeed rfl id (fun _ => id)
    · exact State.takeGood_receiversKept s arm _ _ (by simp [ht])

/-- R36: the miss timer restarts only where it runs, which it does in ACQUIRING and STEADY alone. -/
theorem State.missExpiry_receiversKept : s.ReceiversKept (s.missExpiry arm) := by
  unfold State.missExpiry
  split
  · rename_i t k ht running
    refine State.ReceiversKept.trans ?_ (State.fault_receiversKept _ arm _)
    refine .of_modFeed rfl (fun ⟨absent, lost, runs, steady⟩ => ?_) (fun _ => id)
    exact ⟨fun h => by simp [(absent h).1] at running, fun h => by simp [(lost h).1] at running,
      fun h => ⟨rfl, (runs h).2⟩, steady⟩
  · exact .refl s

theorem State.lossGraceExpiry_receiversKept : s.ReceiversKept (s.lossGraceExpiry arm) := by
  unfold State.lossGraceExpiry
  split
  · exact .refl s
  · have stopped : s.ReceiversKept (s.modFeed arm (fun f => { f with graceTimer := none })) :=
      .of_modFeed rfl (fun ⟨absent, lost, runs, _⟩ => ⟨fun h => ⟨(absent h).1, rfl⟩, lost, runs, fun _ => rfl⟩)
        (fun _ => id)
    dsimp only
    split
    · exact stopped
    · exact stopped.trans (.of_view (by simp [State.receiverView]))

end

/-! ## Arrivals -/

section
variable (s : State) (during : List Arrival)

theorem State.arrive_receiversKept (e : Event) : s.ReceiversKept (s.arrive e) := by
  cases e with
  | portWrite p addr v => exact .of_view (by simp [State.receiverView, State.arrive])
  | plockWrite p v => exact .of_view (by simp [State.receiverView, State.arrive])
  | frameComplete arm chars => exact s.frameComplete_receiversKept arm chars
  | missExpiry arm => exact s.missExpiry_receiversKept arm
  | lossGraceExpiry arm => exact s.lossGraceExpiry_receiversKept arm

theorem State.arriveWhen_receiversKept (p : Nat → Bool) : s.ReceiversKept (s.arriveWhen during p) := by
  refine .foldl _ (fun s x => ?_) during s
  split
  · exact s.arrive_receiversKept x.event
  · exact .refl s

theorem State.arriveAt_receiversKept (k : Nat) : s.ReceiversKept (s.arriveAt during k) :=
  s.arriveWhen_receiversKept during _

theorem State.arriveBetween_receiversKept (lo hi : Nat) : s.ReceiversKept (s.arriveBetween during lo hi) :=
  s.arriveWhen_receiversKept during _

theorem readRun_receiversKept (n point a : Nat) : s.ReceiversKept (readRun during n point a s).2 := by
  induction n generalizing point a s with
  | zero => exact .refl s
  | succ n ih => exact (s.arriveAt_receiversKept during _).trans (ih _ _ _)

theorem readRecord_receiversKept (point base result n : Nat) :
    s.ReceiversKept (readRecord during point base result n s).after :=
  ((s.arriveAt_receiversKept during _).trans (readRun_receiversKept _ during n _ base)).trans
    (State.arriveAt_receiversKept _ during _)

end

/-! ## The arbiter (R69, R70) -/

/-- A list of requests without an evaluation. -/
def noEvaluation (rs : List Request) : Prop := ∀ arm, Request.evaluation arm ∉ rs

theorem State.requestTogether_receiversKept (s : State) {rs : List Request} (h : noEvaluation rs) :
    s.ReceiversKept (s.requestTogether rs) := by
  intro ok arm
  obtain ⟨requests, timers, noTable⟩ := ok arm
  refine ⟨?_, by simpa using timers, by simpa using noTable⟩
  have none : rs.count (.evaluation arm) = 0 := List.count_eq_zero.mpr (h arm)
  rw [State.requestTogether_feeds, ← requests]
  unfold State.requestTogether
  split
  · rfl
  · simp [none]

/-- R69: how often each request waits after one is taken out. -/
theorem State.dropRequest_count (s : State) (r q : Request) :
    (s.dropRequest r).waiting.flatten.count q = if q = r then 0 else s.waiting.flatten.count q := by
  unfold State.dropRequest
  simp only [State.setWaiting_waiting]
  induction s.waiting with
  | nil => simp
  | cons g gs ih =>
    have group : (g.filter (fun x => x != r)).count q = if q = r then 0 else g.count q := by
      split
      · rename_i h; simp [h, List.count_eq_zero]
      · rename_i h; exact List.count_filter (by simpa using h)
    rw [List.map_cons, List.filter_cons]
    split
    · rw [List.flatten_cons, List.count_append, ih, group, List.flatten_cons, List.count_append]
      split <;> rfl
    · rename_i empty
      have none : g.filter (fun x => x != r) = [] := by simpa using empty
      rw [ih, List.flatten_cons, List.count_append]
      rw [none, List.count_nil] at group
      split at group <;> simp_all

theorem State.dropRequest_receiversKept (s : State) {r : Request} (h : ∀ arm, r ≠ .evaluation arm) :
    s.ReceiversKept (s.dropRequest r) := by
  intro ok arm
  obtain ⟨requests, timers, noTable⟩ := ok arm
  refine ⟨?_, timers, noTable⟩
  rw [State.dropRequest_count, if_neg (h arm).symm]
  exact requests

/-- R128: the ordered snapshot writes leave the receivers. -/
theorem State.flushSnapshots_view (s : State) :
    ((s.flushSnapshot .a).flushSnapshot .b).receiverView = s.receiverView := by
  simp [State.receiverView]

/-- R70: a service other than an evaluation. -/
theorem State.serve_receiversKept (s : State) {r : Request} (h : ∀ arm, r ≠ .evaluation arm) {body : State → State}
    (hb : ∀ x : State, x.ReceiversKept (body x)) : s.ReceiversKept (s.serve r body) := by
  unfold State.serve
  split
  · exact ((s.dropRequest_receiversKept h).trans (.of_view (State.flushSnapshots_view _))).trans (hb _)
  · exact .refl s

/-! ## Work that the receivers do not see -/

section
variable (s : State) (arm : Arm)

theorem State.modEnf_receiversKept (g : Enforcement → Enforcement) : s.ReceiversKept (s.modEnf arm g) := .of_view rfl

theorem State.modReach_receiversKept (g : Reach → Reach) : s.ReceiversKept (s.modReach arm g) := .of_view rfl

theorem State.lingerSweep_receiversKept : s.ReceiversKept (s.lingerSweep arm) := .of_view rfl

theorem State.applyGathered_receiversKept (g : Gathered) : s.ReceiversKept (s.applyGathered arm g) :=
  .of_view (by simp [State.receiverView])

theorem State.writeSnapshot_receiversKept : s.ReceiversKept (s.writeSnapshot arm) :=
  .of_view (by simp [State.receiverView])

theorem State.countdown_receiversKept (gap : Option Nat) : s.ReceiversKept (s.countdown arm gap) := by
  refine .of_view ?_
  unfold State.countdown
  (repeat' split) <;> simp [State.receiverView]

theorem State.seatingStage_receiversKept : s.ReceiversKept (s.seatingStage arm).1 := by
  unfold State.seatingStage
  split
  · exact .refl s
  · exact .of_view rfl

end

/-! ## The frame evaluation (R126) -/

section
variable (s : State) (during : List Arrival) (arm : Arm)

theorem State.fullStages_receiversKept (t : ZoneTable) (gap : Option Nat) (marked : Bool) (g : Gathered) :
    s.ReceiversKept (s.fullStages during t arm gap marked g).1 := by
  unfold State.fullStages
  refine State.ReceiversKept.trans ?_ (State.countdown_receiversKept _ arm gap)
  refine State.ReceiversKept.trans ?_ (State.arriveAt_receiversKept _ during _)
  refine State.ReceiversKept.trans ?_ (State.modEnf_receiversKept _ arm _)
  refine State.ReceiversKept.trans ?_ (State.arriveAt_receiversKept _ during _)
  refine State.ReceiversKept.trans ?_ (State.arriveAt_receiversKept _ during _)
  refine State.ReceiversKept.trans (s.arriveAt_receiversKept during 3) ?_
  split
  · exact .refl _
  · exact State.lingerSweep_receiversKept _ arm

/-- The stages after the taking of the frame keep the receivers in order. -/
theorem State.evaluationStages_receiversKept (t : ZoneTable) (f : HeldFrame) (steady : Bool) :
    (s.takeFrame arm f).ReceiversKept (s.evaluationStages during t arm f steady) := by
  unfold State.evaluationStages
  refine State.ReceiversKept.trans ?_ (State.writeSnapshot_receiversKept _ arm)
  refine State.ReceiversKept.trans ?_ (State.arriveAt_receiversKept _ during _)
  have staged : (s.takeFrame arm f).ReceiversKept
      ((((s.takeFrame arm f).arriveAt during 1).arithmetic t arm f).arriveAt during 2) :=
    ((State.arriveAt_receiversKept _ during _).trans (State.modReach_receiversKept _ arm _)).trans
      (State.arriveAt_receiversKept _ during _)
  refine staged.trans ?_
  cases steady with
  | false => exact State.arriveBetween_receiversKept _ during 3 7
  | true =>
    simp only [if_true]
    refine State.ReceiversKept.trans ?_ (State.applyGathered_receiversKept _ arm _)
    split
    · exact (State.seatingStage_receiversKept _ arm).trans (State.fullStages_receiversKept _ during arm t _ _ _)
    · exact (State.seatingStage_receiversKept _ arm).trans (State.arriveBetween_receiversKept _ during 3 7)

/-- R29, R69: a held frame and its request go together. -/
theorem State.takeFrame_receiversOk {s x : State} (ok : s.receiversOk)
    (view : x.receiverView = (s.dropRequest (.evaluation arm)).receiverView) (f : HeldFrame) :
    (x.takeFrame arm f).receiversOk := by
  simp only [State.receiverView, Prod.mk.injEq] at view
  obtain ⟨feeds, waiting, active⟩ := view
  intro y
  obtain ⟨requests, timers, noTable⟩ := ok y
  have taken : (x.takeFrame arm f).feeds = s.feeds.modify arm (fun d => { d with holding := none }) := by
    rw [State.takeFrame, State.modReach_feeds, State.modFeed_feeds, feeds]
    rfl
  have left : (x.takeFrame arm f).waiting.flatten.count (.evaluation y) =
      if Request.evaluation y = .evaluation arm then 0 else s.waiting.flatten.count (.evaluation y) := by
    rw [State.takeFrame_waiting, waiting, State.dropRequest_count]
  have table : (x.takeFrame arm f).active = s.active := active
  by_cases hy : y = arm
  · subst hy
    rw [if_pos rfl] at left
    refine ⟨?_, ?_, fun h => ?_⟩ <;> rw [taken, Pair_get_modify_same]
    · rw [left]
      rfl
    · exact timers
    · exact ⟨rfl, (noTable (table ▸ h)).2⟩
  · rw [if_neg (fun e => hy (Request.evaluation.inj e))] at left
    refine ⟨?_, ?_, fun h => ?_⟩ <;> rw [taken, Pair_get_modify_of_ne _ _ _ _ hy]
    · rw [left]
      exact requests
    · exact timers
    · exact noTable (table ▸ h)

/-- R29, R69: an evaluation is served only where a frame is held. -/
theorem State.holding_of_servable {s : State} {arm : Arm} (ok : s.receiversOk) (h : s.servable (.evaluation arm) = true) :
    ∃ t f, s.active = some t ∧ (s.feeds.get arm).holding = some f := by
  obtain ⟨requests, -, noTable⟩ := ok arm
  have waits : Request.evaluation arm ∈ s.waiting.flatten := by
    unfold State.servable at h
    split at h
    · simp at h
    · rename_i g gs first
      rw [first]
      simp only [List.contains_iff_mem] at h
      simp [h]
  cases held : (s.feeds.get arm).holding with
  | none =>
    rw [held] at requests
    exact absurd waits (List.count_eq_zero.mp requests)
  | some f =>
    cases table : s.active with
    | none => simp [(noTable table).1] at held
    | some t => exact ⟨t, f, rfl, rfl⟩

theorem State.serveEvaluation_receiversKept :
    s.ReceiversKept (s.serve (.evaluation arm) (fun s => s.evaluationBody during arm)) := by
  intro ok
  unfold State.serve
  split
  · rename_i due
    obtain ⟨t, f, table, held⟩ := State.holding_of_servable ok due
    have view := State.flushSnapshots_view (s.dropRequest (.evaluation arm))
    generalize ((s.dropRequest (.evaluation arm)).flushSnapshot .a).flushSnapshot .b = x at view
    have taken := State.takeFrame_receiversOk arm ok view f
    simp only [State.receiverView, Prod.mk.injEq] at view
    obtain ⟨feeds, -, active⟩ := view
    unfold State.evaluationBody
    dsimp only
    rw [active, feeds, State.dropRequest_active, State.dropRequest_feeds, table, held]
    exact State.evaluationStages_receiversKept x during arm t f _ taken
  · exact ok

end
end Sys2Proof.Machine
end

section
/-! SUPPORT. R25, R29–R37, R69: the receivers in order through the grant phase, the survey tick, the configuration service
with its swap, and the resets; and so through every step. -/

namespace Sys2Proof.Machine

/-! ## Lane commands and the grant phase (R80–R118) -/

section
variable (s : State) (during : List Arrival) (arm : Arm) (slot : Slot)

theorem State.takeCommand_receiversKept (q : SlotRequest) (tag : Byte) :
    s.ReceiversKept (s.takeCommand arm slot q tag) := by
  refine .of_view ?_
  unfold State.takeCommand
  split
  · unfold State.takePost
    split <;> simp [State.receiverView]
  · unfold State.takeFinish
    split <;> simp [State.receiverView]
  · unfold State.takeWithdraw
    split <;> simp [State.receiverView]
  · simp [State.receiverView]

theorem State.intakeLane_receiversKept : s.ReceiversKept (s.intakeLane during arm) := by
  refine .foldl _ (fun s slot => ?_) _ s
  unfold State.visitSlot
  dsimp only
  split
  · exact (readRecord_receiversKept s during _ _ _ _).trans (State.takeCommand_receiversKept _ arm slot _ _)
  · exact readRecord_receiversKept s during _ _ _ _

theorem State.writeBlockers_receiversKept (f : Finding) : s.ReceiversKept (s.writeBlockers arm f) :=
  .foldl _ (fun s k => .of_view (by simp [State.receiverView])) _ s

theorem State.modLane_receiversKept (g : Lane → Lane) : s.ReceiversKept (s.modLane arm g) := .of_view rfl

theorem State.endWaiting_receiversKept (st : SlotState) : s.ReceiversKept (s.endWaiting arm slot st) :=
  .of_view (by simp [State.receiverView])

theorem State.yieldLane_receiversKept : s.ReceiversKept (s.yieldLane arm) :=
  (s.modLane_receiversKept arm Lane.afterYield).trans
    (.foldl _ (fun x k => x.endWaiting_receiversKept arm k .yielded) _ _)

theorem State.updateStandoff_receiversKept (t : ZoneTable) (b : Bool) : s.ReceiversKept (s.updateStandoff t b) := by
  unfold State.updateStandoff
  split
  · split
    · exact (State.yieldLane_receiversKept s _).trans (.of_view rfl)
    · exact .of_view rfl
  · exact .of_view rfl

theorem State.decideGrants_receiversKept : s.ReceiversKept s.decideGrants := by
  unfold State.decideGrants
  split
  · exact .of_view rfl
  · have found : ∀ (x : State) (t : ZoneTable) (arm : Arm) (f : Finding), x.ReceiversKept (x.grantFound t arm f) :=
      fun x t arm f => .of_view (by simp [State.receiverView])
    refine State.ReceiversKept.trans ?_ (State.updateStandoff_receiversKept _ _ _)
    refine State.ReceiversKept.trans ?_ ((found _ _ .a _).trans (found _ _ .b _))
    refine State.ReceiversKept.trans ?_ (State.writeBlockers_receiversKept _ .b _)
    refine State.ReceiversKept.trans ?_ (State.writeBlockers_receiversKept _ .a _)
    exact .of_view rfl

theorem State.grantPhaseBody_receiversKept : s.ReceiversKept (s.grantPhaseBody during) := by
  have shown : ∀ x : State, x.ReceiversKept x.captureView.endGrantPhase := fun x => .of_view (by simp [State.receiverView])
  unfold State.grantPhaseBody
  refine State.ReceiversKept.trans ?_ (shown _)
  refine State.ReceiversKept.trans ?_ (State.arriveWhen_receiversKept _ during _)
  split
  · exact s.arriveWhen_receiversKept during _
  · exact (((s.intakeLane_receiversKept during .a).trans (State.intakeLane_receiversKept _ during .b)).trans
      (State.arriveAt_receiversKept _ during 320)).trans (State.decideGrants_receiversKept _)

/-! ## The survey tick (R102, R159–R162) -/

theorem State.writeMailResult_receiversKept (p : Port) (r : MailResult) (x : Option HeldReason) (tag : Byte) :
    s.ReceiversKept (s.writeMailResult p r x tag) :=
  .of_view (by simp [State.receiverView])

theorem State.takeMail_receiversKept (point : Nat) (p : Port) (tag : Byte) (c : MailCommand) :
    s.ReceiversKept (s.takeMail during point p tag c) := by
  unfold State.takeMail
  split
  · exact s.writeMailResult_receiversKept p _ _ tag
  · cases c with
    | install k window =>
      refine State.ReceiversKept.trans (readRun_receiversKept s during 256 point 0x300) (.of_view ?_)
      unfold State.carryOutAtOnce State.beginInstall
      dsimp only
      split <;> simp [State.receiverView]
    | clearStop a =>
      unfold State.carryOutAtOnce
      dsimp only
      split
      · exact .of_view rfl
      · exact .refl s
    | restartLane a =>
      unfold State.carryOutAtOnce
      dsimp only
      split
      · exact .of_view rfl
      · exact .refl s
    | priority m o =>
      unfold State.carryOutAtOnce
      dsimp only
      split
      · exact .of_view rfl
      · exact .refl s
    | unknown => exact .refl s
    | abandon => exact .of_view (by simp [State.receiverView, State.carryOutAtOnce])
    | _ => exact .of_view rfl

theorem State.visitMailbox_receiversKept (p : Port) : s.ReceiversKept (s.visitMailbox during p) := by
  unfold State.visitMailbox
  have read := readRecord_receiversKept s during (mailPoint p) (mailboxBase p) (mailboxBase p + 16) 16
  dsimp only
  split
  · split
    · exact read.trans (State.takeMail_receiversKept _ during _ p _ _)
    · exact (read.trans (State.takeMail_receiversKept _ during _ p _ _)).trans
        (State.arriveBetween_receiversKept _ during _ _)
  · exact read.trans (State.arriveBetween_receiversKept _ during _ _)

theorem State.tickRequests_noEvaluation : noEvaluation s.tickRequests := by
  intro arm
  unfold State.tickRequests
  (repeat' split) <;> simp

theorem State.surveyTick_receiversKept : s.ReceiversKept (s.surveyTick during) := by
  unfold State.surveyTick
  split
  · refine State.ReceiversKept.trans ?_ (State.requestTogether_receiversKept _ (State.tickRequests_noEvaluation _))
    refine State.ReceiversKept.trans ?_ (State.visitMailbox_receiversKept _ during .b)
    refine State.ReceiversKept.trans ?_ (State.visitMailbox_receiversKept _ during .a)
    exact .of_view rfl
  · exact .refl s

/-! ## The configuration service (R137, R138, R164) -/

theorem State.writeResult_receiversKept (r : SlotResult) (x : Option SlotReason) :
    s.ReceiversKept (s.writeResult arm slot r x) :=
  .of_view (by simp [State.receiverView])

/-- R95, R97: ending waiting traverses one after another. -/
theorem State.withdrawRun_receiversKept (r : SlotResult) (l : List Slot) :
    s.ReceiversKept (l.foldl (fun s k => (s.endWaiting arm k .withdrawn).writeResult arm k r none) s) :=
  .foldl _ (fun s k => (s.endWaiting_receiversKept arm k .withdrawn).trans
    (State.writeResult_receiversKept _ arm k r none)) l s

theorem releaseRun_receiversKept (l : List Slot) (point : Nat) :
    s.ReceiversKept (releaseRun during arm point l s) := by
  induction l generalizing s point with
  | nil => exact .refl s
  | cons k l ih =>
    refine State.ReceiversKept.trans (s.arriveAt_receiversKept during point) (State.ReceiversKept.trans ?_ (ih _ (point + 1)))
    exact .of_view (by simp [State.receiverView])

theorem State.restartLane_receiversKept (point : Nat) : s.ReceiversKept (s.restartLane during point arm) := by
  have absorbed : ∀ (x : State) (k : Slot), x.ReceiversKept (x.absorbSlot arm k) := fun x k => by
    refine .of_view ?_
    unfold State.absorbSlot
    dsimp only
    split <;> simp [State.receiverView]
  have flagged : ∀ x : State, x.ReceiversKept (x.raise .lane arm) := fun _ => .of_view rfl
  unfold State.restartLane
  refine State.ReceiversKept.trans ?_ (flagged _)
  refine State.ReceiversKept.trans ?_ (.foldl _ absorbed _ _)
  refine State.ReceiversKept.trans ?_ (State.modLane_receiversKept _ arm _)
  exact (s.withdrawRun_receiversKept arm .restarted _).trans (releaseRun_receiversKept _ during arm _ point)

theorem State.carryClear_receiversKept (c : Accepted) : s.ReceiversKept (s.carryClear c arm) := by
  refine .of_view ?_
  unfold State.carryClear
  split <;> simp [State.receiverView]

theorem State.carryOut_receiversKept (point : Nat) (c : Accepted) : s.ReceiversKept (s.carryOut during point c) := by
  unfold State.carryOut
  split
  · rename_i x _
    exact ((s.arriveAt_receiversKept during point).trans (State.carryClear_receiversKept _ x c)).trans
      (State.arriveBetween_receiversKept _ during _ _)
  · rename_i x _
    exact ((s.restartLane_receiversKept during x point).trans (State.writeMailResult_receiversKept _ _ _ _ _)).trans
      (State.arriveBetween_receiversKept _ during _ _)

theorem carryOutAll_receiversKept (l : List Accepted) (point : Nat) : s.ReceiversKept (carryOutAll during point l s) := by
  induction l generalizing s point with
  | nil => exact s.arriveBetween_receiversKept during point 40
  | cons c l ih => exact (s.carryOut_receiversKept during point c).trans (ih _ (point + 20))

/-! ## The install swap (R41, R168) -/

/-- R41: at a swap the held frame and its request are dropped together, and the feed is ABSENT with its timers stopped. -/
theorem State.swapFeed_receiversKept : s.ReceiversKept (s.swapFeed arm) := by
  refine State.ReceiversKept.trans (t := (s.modFeed arm Feed.swapped).dropRequest (.evaluation arm)) ?_
    (.of_view (by simp [State.receiverView, State.swapFeed]))
  intro ok x
  obtain ⟨requests, timers, noTable⟩ := ok x
  by_cases hx : x = arm
  · subst hx
    refine ⟨?_, ?_, fun _ => ?_⟩ <;> rw [State.dropRequest_feeds, State.modFeed_feeds, Pair_get_modify_same]
    · rw [State.dropRequest_count, if_pos rfl]
      rfl
    · simp [Feed.timersOk, Feed.swapped]
    · exact ⟨rfl, rfl⟩
  · refine ⟨?_, ?_, fun h => ?_⟩ <;> rw [State.dropRequest_feeds, State.modFeed_feeds, Pair_get_modify_of_ne _ _ _ _ hx]
    · rw [State.dropRequest_count, if_neg (fun e => hx (Request.evaluation.inj e))]
      exact requests
    · exact timers
    · exact noTable h

theorem State.swapArm_receiversKept : s.ReceiversKept (s.swapArm arm) := by
  have lane : s.ReceiversKept (s.swapLane arm) :=
    (s.withdrawRun_receiversKept arm .tableChanged _).trans (.of_view rfl)
  have causes : ∀ x : State, x.ReceiversKept (x.swapCauses arm) := fun x => .of_view (by simp [State.receiverView])
  exact ((lane.trans (State.swapFeed_receiversKept _ arm)).trans (State.modReach_receiversKept _ arm _)).trans (causes _)

/-- R25: a table that becomes active asks nothing of the receivers. -/
theorem State.setActive_receiversKept (t : ZoneTable) : s.ReceiversKept (s.setActive (some t)) := fun ok x =>
  ⟨(ok x).requests, (ok x).timers, fun h => absurd h (by simp)⟩

theorem State.swap_receiversKept (t : ZoneTable) : s.ReceiversKept (s.swap t) := by
  have sides : s.ReceiversKept ((s.swapArm .a).swapArm .b) :=
    (s.swapArm_receiversKept .a).trans (State.swapArm_receiversKept _ .b)
  refine sides.trans (State.ReceiversKept.trans (State.setActive_receiversKept _ t) (.of_view ?_))
  simp [State.receiverView, State.swap]

theorem State.testGate_receiversKept : s.ReceiversKept s.testGate := by
  unfold State.testGate
  split
  · exact .refl s
  · split
    · exact s.swap_receiversKept _
    · exact .refl s

theorem State.configurationBody_receiversKept : s.ReceiversKept (s.configurationBody during) := by
  unfold State.configurationBody
  refine State.ReceiversKept.trans ?_ (State.requestTogether_receiversKept _ (by simp [noEvaluation]))
  refine State.ReceiversKept.trans ?_ (State.arriveAt_receiversKept _ during 41)
  refine State.ReceiversKept.trans ?_ (State.testGate_receiversKept _)
  refine State.ReceiversKept.trans ?_ (State.arriveAt_receiversKept _ during 40)
  have taken : s.ReceiversKept (s.setAccepted []) := .of_view rfl
  exact taken.trans (carryOutAll_receiversKept _ during s.accepted 0)

end

/-! ## Every command -/

/-- R40: both receivers are in order after a reset, whatever a reset leaves of the rest. -/
theorem State.receiversOk_of_resetView {s : State} (h : s.receiverView = State.reset.receiverView) : s.receiversOk :=
  State.ReceiversKept.of_view h (fun arm => by
    cases arm <;> exact ⟨rfl, ⟨fun _ => ⟨rfl, rfl⟩, nofun, nofun, nofun⟩, fun _ => ⟨rfl, rfl⟩⟩)

theorem exec_receiversKept {c : Instr} {s t : State} (e : exec c s = .next t) : s.ReceiversKept t := by
  cases c with
  | powerOn => cases e; exact fun _ => State.receiversOk_of_resetView rfl
  | resetNAssert => cases e; exact fun _ => State.receiversOk_of_resetView rfl
  | resetNRelease =>
    cases e
    unfold State.resetRelease
    split
    · exact fun _ => State.receiversOk_of_resetView rfl
    · exact .refl s
  | frameComplete arm chars => cases e; exact s.frameComplete_receiversKept arm chars
  | missTimerExpiry arm => cases e; exact s.missExpiry_receiversKept arm
  | lossGraceExpiry arm => cases e; exact s.lossGraceExpiry_receiversKept arm
  | frameEvaluation arm during => cases e; exact State.serveEvaluation_receiversKept s during arm
  | surveyTick during => cases e; exact s.surveyTick_receiversKept during
  | configurationService during =>
    cases e; exact s.serve_receiversKept (r := .configuration) nofun (fun x => x.configurationBody_receiversKept during)
  | refillTest =>
    cases e
    refine s.serve_receiversKept (r := .refillTest) nofun (fun x => .of_view ?_)
    unfold State.refillTestBody
    split <;> simp [State.receiverView]
  | surveyGrantPhase during =>
    cases e; exact s.serve_receiversKept (r := .grantPhase) nofun (fun x => x.grantPhaseBody_receiversKept during)
  | feedIdleSeen arm =>
    cases e
    split
    · exact .refl s
    · exact .of_modFeed rfl id (fun _ => id)
  | readyRise => cases e; exact .of_view (by unfold State.readyRise; split <;> rfl)
  | surveyEnd => cases e; exact .of_view (by unfold State.surveyEnd; split <;> rfl)
  | rfreqChange high => cases e; exact .of_view (by unfold State.rfreqChange; (repeat' split) <;> rfl)
  | debounceExpiry => cases e; exact .of_view (by unfold State.debounceExpiry; split <;> simp [State.receiverView])
  | stallTimerExpiry => cases e; exact .of_view (by unfold State.stallExpiry; (repeat' split) <;> rfl)
  | installWindowExpiry => cases e; exact .of_view (by unfold State.windowExpiry; (repeat' split) <;> rfl)
  | lockRequest p v m => cases e; exact .of_view (by split <;> simp [State.receiverView])
  | _ => cases e; exact .of_view (by simp [State.receiverView])

/-- The receivers stay in order through a step. -/
theorem step_receiversKept {s t : State} (e : step s = .next t) : s.ReceiversKept t := by
  unfold step at e
  split at e
  · cases e
    exact .refl s
  · rename_i c rest _
    have taken : s.ReceiversKept (s.setPending rest) := .of_view rfl
    exact taken.trans (exec_receiversKept e)

end Sys2Proof.Machine

open Sys2Proof Sys2Proof.Machine

/-- Settles O57: every command keeps the receivers in order, its events one by one. -/
theorem everyStepKeepsTheFeeds : Obligations.EveryStepKeepsTheFeeds := by
  intro s t requests feeds e
  exact t.receiversOk_iff.mp (step_receiversKept e (s.receiversOk_iff.mpr ⟨requests, feeds⟩))
end

section
/-! SUPPORT. R23–R28: the check byte, the bytes of a frame of correct form, and the judging of a completed frame. -/

namespace Sys2Proof.Machine

/-! ## The check byte (R24) -/

theorem foldl_add_toNat (bs : List Byte) (b : Byte) :
    (bs.foldl (· + ·) b).toNat = (b.toNat + (bs.map BitVec.toNat).sum) % 256 := by
  induction bs generalizing b with
  | nil => exact (Nat.mod_eq_of_lt b.isLt).symm
  | cons c bs ih =>
    rw [List.foldl_cons, ih, List.map_cons, List.sum_cons, BitVec.toNat_add]
    omega

/-- R24: 255 less the sum of bytes 1–8, modulo 256. -/
theorem checkByte_toNat (bs : List Byte) :
    (checkByte bs).toNat = 255 - (((bs.drop 1).take 8).map BitVec.toNat).sum % 256 := by
  have sum := foldl_add_toNat ((bs.drop 1).take 8) 0
  simp only [BitVec.ofNat_eq_ofNat, BitVec.toNat_ofNat, Nat.zero_mod, Nat.zero_add] at sum
  rw [checkByte, BitVec.toNat_sub, BitVec.ofNat_eq_ofNat, sum]
  simp only [BitVec.ofNat_eq_ofNat, BitVec.toNat_ofNat]
  omega

/-- Bytes 1–9 of a ten-byte frame are bytes 1–8 and byte 9. -/
theorem sum_drop_one_of_length {bs : List Byte} (h : bs.length = 10) :
    ((bs.drop 1).map BitVec.toNat).sum = (((bs.drop 1).take 8).map BitVec.toNat).sum + (byteAt bs 9).toNat := by
  have last : (bs.drop 1).drop 8 = [byteAt bs 9] := by
    rw [List.drop_drop, List.drop_eq_getElem_cons (by omega), List.drop_eq_nil_of_le (by omega), byteAt,
      List.getD_eq_getElem _ _ (by omega)]
  calc ((bs.drop 1).map BitVec.toNat).sum
    _ = (((bs.drop 1).take 8 ++ (bs.drop 1).drop 8).map BitVec.toNat).sum := by rw [List.take_append_drop]
    _ = _ := by rw [last]; simp

/-- R24: the check byte makes the sum of bytes 1–9 equal to 255 modulo 256, and no other byte does. -/
theorem byteAt_eq_checkByte_iff {bs : List Byte} (h : bs.length = 10) :
    byteAt bs 9 = checkByte bs ↔ ((bs.drop 1).map BitVec.toNat).sum % 256 = 255 := by
  rw [BitVec.toNat_eq, checkByte_toNat, sum_drop_one_of_length h]
  have := (byteAt bs 9).isLt
  omega

theorem badFrame_of_check_ne {bs : List Byte} (h : byteAt bs 9 ≠ checkByte bs) (arm : Arm) : badFrame arm bs = true := by
  simp [badFrame, h]

theorem checkByte_set_zero (bs : List Byte) (b : Byte) : checkByte (bs.set 0 b) = checkByte bs := by
  cases bs <;> rfl

/-! ## A frame of correct form (R23, R29) -/

section
variable (arm : Arm) (status : BitVec 4) (q : Byte) (x y z : Word)

theorem feedBytes_status_toNat :
    (byteAt (feedBytes arm status q x y z) 1).toNat = feedTag arm * 16 + status.toNat := by
  have hs := status.isLt
  have ht : feedTag arm ≤ 2 := by cases arm <;> decide
  have e : byteAt (feedBytes arm status q x y z) 1 = BitVec.ofNat 8 (feedTag arm * 2 ^ 4 + status.toNat) := rfl
  rw [e, BitVec.toNat_ofNat]
  omega

theorem badFrame_feedBytes : badFrame arm (feedBytes arm status q x y z) = false := by
  have hs := status.isLt
  have check : byteAt (feedBytes arm status q x y z) 9 = checkByte (feedBytes arm status q x y z) := rfl
  have sync : byteAt (feedBytes arm status q x y z) 0 = 0x5C := rfl
  have length : (feedBytes arm status q x y z).length = 10 := rfl
  have tag : (feedTag arm * 16 + status.toNat) / 16 = feedTag arm := by omega
  simp [badFrame, check, sync, length, feedBytes_status_toNat, tag]

/-- R23: the low byte and the high byte of a quantity give it back. -/
theorem wordOf_low_high (w : Word) :
    wordOf ((BitVec.ofNat 8 w.toNat).toNat + (BitVec.ofNat 8 (w.toNat / 2 ^ 8)).toNat * 2 ^ 8) = w := by
  have hw := w.isLt
  refine BitVec.eq_of_toNat_eq ?_
  simp only [wordOf, BitVec.toNat_ofNat]
  omega

/-- R23: the arm tag lies above the status bits. -/
theorem feedBytes_status_bit {i : Nat} (h : i < 4) :
    (byteAt (feedBytes arm status q x y z) 1).getLsbD i = status.getLsbD i := by
  have e := feedBytes_status_toNat arm status q x y z
  rw [BitVec.getLsbD, BitVec.getLsbD, e, show feedTag arm * 16 = 2 ^ 4 * feedTag arm by omega,
    Nat.testBit_two_pow_mul_add _ status.isLt, if_pos h]

theorem heldFrame_feedBytes (gap : Option Nat) :
    heldFrame (feedBytes arm status q x y z) gap = feedFrame status q x y z gap := by
  have ex : wordAt (feedBytes arm status q x y z) 3 = x := wordOf_low_high x
  have ey : wordAt (feedBytes arm status q x y z) 5 = y := wordOf_low_high y
  have ez : wordAt (feedBytes arm status q x y z) 7 = z := wordOf_low_high z
  rw [heldFrame, ex, ey, ez, feedBytes_status_bit arm status q x y z (by omega),
    feedBytes_status_bit arm status q x y z (by omega)]
  rfl

end

/-! ## Judging a completed frame (R25–R28) -/

section
variable {s : State} {arm : Arm} {chars : List LineChar} {t : ZoneTable}

theorem State.frameComplete_noTable (h : s.active = none) : s.frameComplete arm chars = s := by
  simp [State.frameComplete, h]

theorem State.frameComplete_notIdle (h : (s.feeds.get arm).idleSeen = false) : s.frameComplete arm chars = s := by
  unfold State.frameComplete
  split <;> simp [h]

theorem State.frameComplete_bad (table : s.active = some t) (idle : (s.feeds.get arm).idleSeen = true)
    (bad : badFrame arm (frameBytes chars) = true) : s.frameComplete arm chars = s.takeBad arm (t.arms.get arm) := by
  simp [State.frameComplete, table, idle, bad]

variable {status : BitVec 4} {q : Byte} {x y z : Word}

theorem State.frameComplete_duplicate (table : s.active = some t) (idle : (s.feeds.get arm).idleSeen = true)
    (bytes : frameBytes chars = feedBytes arm status q x y z) (last : (s.feeds.get arm).lastSeq = some q) :
    s.frameComplete arm chars = s.takeDuplicate arm := by
  have seq : byteAt (feedBytes arm status q x y z) 2 = q := rfl
  simp [State.frameComplete, table, idle, bytes, badFrame_feedBytes, seq, last]

theorem State.frameComplete_good (table : s.active = some t) (idle : (s.feeds.get arm).idleSeen = true)
    (bytes : frameBytes chars = feedBytes arm status q x y z) (fresh : (s.feeds.get arm).lastSeq ≠ some q) :
    s.frameComplete arm chars = s.takeGood arm (t.arms.get arm) (feedBytes arm status q x y z) := by
  have seq : byteAt (feedBytes arm status q x y z) 2 = q := rfl
  simp [State.frameComplete, table, idle, bytes, badFrame_feedBytes, seq, fresh]

end

end Sys2Proof.Machine

open Sys2Proof Sys2Proof.Machine

/-- R26: the bad-frame test is the rule's four conditions. -/
theorem badFrame_iff_isBad (arm : Arm) (bs : List Byte) : badFrame arm bs = true ↔ isBad arm bs := by
  by_cases h : bs.length = 10
  · simp only [badFrame, Bool.or_eq_true, decide_eq_true_eq, or_assoc]
    unfold isBad
    simp only [ne_eq, ← byteAt_eq_checkByte_iff h]
    cases arm <;> simp [h, feedTag]
  · simp [badFrame, isBad, h]

/-- Settles O8: the sum of bytes 1–9 is that of bytes 1–8, which the check byte completes, and byte 9. -/
theorem checkByteMakesTheSum255 : Obligations.CheckByteMakesTheSum255 := fun bs h =>
  ⟨byteAt_eq_checkByte_iff h, checkByte_toNat bs, badFrame_of_check_ne, checkByte_set_zero bs⟩

/-- Settles O7: the two tests before a frame is judged, and the mark that opens the second. -/
theorem frameNeedsATableAndIdle : Obligations.FrameNeedsATableAndIdle := by
  refine ⟨fun s arm chars table => ?_, fun s arm chars idle => ?_, fun s arm released => ?_⟩
  · exact congrArg _ (State.frameComplete_noTable table)
  · exact congrArg _ (State.frameComplete_notIdle idle)
  · exact congrArg _ (if_neg (by simp [released]))
end

section
/-! SUPPORT. R26–R36: the feed events that change no feed state, as changes of the feed's record and of the requests. -/

namespace Sys2Proof.Machine

theorem State.modFeed_modFeed (s : State) (arm : Arm) (f g : Feed → Feed) :
    (s.modFeed arm f).modFeed arm g = s.modFeed arm (fun d => g (f d)) := by
  simp only [State.modFeed, State.setFeeds, Pair_modify_modify]

/-- A change of one feed's record, known by what it makes of the record. -/
theorem State.modFeed_eq_set {s : State} {arm : Arm} {g : Feed → Feed} {f : Feed} (h : g (s.feeds.get arm) = f) :
    s.modFeed arm g = { s with feeds := s.feeds.set arm f } := by
  rw [← h]
  rfl

theorem State.modFeed_eq_self {s : State} {arm : Arm} {g : Feed → Feed} (h : g (s.feeds.get arm) = s.feeds.get arm) :
    s.modFeed arm g = s := by
  simp only [State.modFeed, Pair_modify_eq_self h]
  rfl

/-- R33, R34: a feed's record after a fault that does not bring the fault run to FC. -/
def Feed.faultedBelow (f : Feed) : Feed :=
  { f with
    goodRun := if f.state = .acquiring then 0 else f.goodRun
    faultRun := if f.state = .steady then f.faultRun + 1 else f.faultRun }

theorem Feed.faultedBelow_eq_self {f : Feed} (h : f.state ≠ .acquiring) (h' : f.state ≠ .steady) : f.faultedBelow = f := by
  simp [Feed.faultedBelow, h, h']

/-- R33, R34: a fault that does not bring the fault run to FC changes the feed's record alone. -/
theorem State.fault_of_below {s : State} {arm : Arm} {m : ArmFields}
    (below : ¬ ((s.feeds.get arm).state = .steady ∧ m.fc.toNat ≤ (s.feeds.get arm).faultRun + 1)) :
    s.fault arm m = s.modFeed arm Feed.faultedBelow := by
  unfold State.fault
  split <;> rename_i state
  · exact (State.modFeed_eq_self (Feed.faultedBelow_eq_self (by simp [state]) (by simp [state]))).symm
  · exact State.modFeed_eq_set (by simp [Feed.faultedBelow, state])
  · have unreached : ¬ m.fc.toNat ≤ (s.feeds.get arm).faultRun + 1 := fun h => below ⟨state, h⟩
    simp only [State.modFeed_feeds, Pair_get_modify_same, unreached, if_false]
    exact State.modFeed_eq_set (by simp [Feed.faultedBelow, state])
  · exact (State.modFeed_eq_self (Feed.faultedBelow_eq_self (by simp [state]) (by simp [state]))).symm

/-- R33, R34: a good frame that leaves the feed's state changes the feed's record alone. -/
theorem State.goodRunStep_of_kept {s : State} {arm : Arm} {m : ArmFields}
    (kept : (s.feeds.get arm).state = .steady ∨
      (s.feeds.get arm).state = .acquiring ∧ (s.feeds.get arm).goodRun + 1 < m.rc.toNat) :
    s.goodRunStep arm m = s.modFeed arm (fun f => f.ranGood m) := by
  unfold State.goodRunStep
  obtain state | ⟨state, below⟩ := kept
  · rw [state]
    exact State.modFeed_eq_set (by simp [Feed.ranGood, state])
  · have unreached : ¬ m.rc.toNat ≤ (s.feeds.get arm).goodRun + 1 := Nat.not_le.mpr below
    simp only [state, State.modFeed_feeds, Pair_get_modify_same, unreached, if_false]
    exact State.modFeed_eq_set (by simp [Feed.ranGood, state, unreached])

/-! ## A good frame (R28–R30) -/

/-- R28–R36: a feed's record after a good frame. -/
def Feed.afterGood (f : Feed) (m : ArmFields) (bs : List Byte) : Feed :=
  ((f.countedGood m (byteAt bs 2)).ranGood m).placed bs (f.gapOf (byteAt bs 2))

/-- R23, R29: the record after a good frame of given bytes: the new state and runs, and the frame in the holding slot. -/
theorem Feed.afterGood_feedBytes (f : Feed) (m : ArmFields) (arm : Arm) (status : BitVec 4) (q : Byte) (x y z : Word) :
    f.afterGood m (feedBytes arm status q x y z) = { (f.countedGood m q).ranGood m with
      holding := some (feedFrame status q x y z (f.joined (f.gapOf q)))
      overrun := if f.holding.isSome then f.overrun + 1 else f.overrun } := by
  have seq : byteAt (feedBytes arm status q x y z) 2 = q := rfl
  have held := Feed.ranGood_holding (f.countedGood m q) m
  have overrun : ((f.countedGood m q).ranGood m).overrun = f.overrun := by
    unfold Feed.ranGood
    (repeat' split) <;> rfl
  simp only [Feed.afterGood, Feed.placed, Feed.joined, seq, held, overrun, heldFrame_feedBytes]
  rfl

/-- R28: after the first frame of an acquisition the gap is the distance from the last good sequence. -/
theorem Feed.gapOf_of_last {f : Feed} {l : Byte} (state : f.state = .steady ∨ f.state = .acquiring)
    (last : f.lastSeq = some l) (q : Byte) : f.gapOf q = some (q - l).toNat := by
  obtain state | state := state <;> simp [Feed.gapOf, state, last]

/-- R28: the first frame of an acquisition has no gap. -/
theorem Feed.gapOf_of_first {f : Feed} (state : f.state = .absent ∨ f.state = .lost) (q : Byte) : f.gapOf q = none := by
  obtain state | state := state <;> simp [Feed.gapOf, state]

section
variable (s : State) (arm : Arm) (m : ArmFields) (bs : List Byte)

theorem State.takeGood_feeds : (s.takeGood arm m bs).feeds = s.feeds.set arm ((s.feeds.get arm).afterGood m bs) := by
  simp only [State.takeGood, State.hold_eq, State.setWaiting_feeds, State.modFeed_feeds, State.goodRunStep_feeds,
    Pair_modify_modify]
  rfl

theorem State.takeGood_waiting : (s.takeGood arm m bs).waiting = s.waitingAfterFrame arm := by
  simp only [State.takeGood, State.hold_eq, State.setWaiting_waiting, State.waitingAfterFrame, State.goodRunStep_feeds,
    State.goodRunStep_waiting, State.modFeed_feeds, State.modFeed_waiting, Pair_get_modify_same, Feed.ranGood_holding]

/-- R28: a good frame is counted, moves the runs and is held. -/
theorem State.takeGood_eq : s.takeGood arm m bs =
    (((s.modFeed arm (fun f => f.countedGood m (byteAt bs 2))).goodRunStep arm m).modFeed arm
      (fun f => f.placed bs ((s.feeds.get arm).gapOf (byteAt bs 2)))).setWaiting (s.waitingAfterFrame arm) := by
  have held : s.takeGood arm m bs = (((s.modFeed arm (fun f => f.countedGood m (byteAt bs 2))).goodRunStep arm m).hold arm bs
    ((s.feeds.get arm).gapOf (byteAt bs 2))) := rfl
  have waiting := State.takeGood_waiting s arm m bs
  rw [held, State.hold_eq, State.setWaiting_waiting] at waiting
  rw [held, State.hold_eq, waiting]

/-- R28–R36: a good frame that leaves the feed's state changes the feed's record and the requests alone. -/
theorem State.takeGood_of_kept
    (kept : (s.feeds.get arm).state = .steady ∨
      (s.feeds.get arm).state = .acquiring ∧ (s.feeds.get arm).goodRun + 1 < m.rc.toNat) :
    s.takeGood arm m bs =
      { s with feeds := s.feeds.set arm ((s.feeds.get arm).afterGood m bs), waiting := s.waitingAfterFrame arm } := by
  rw [State.takeGood_eq, State.goodRunStep_of_kept (by rw [State.modFeed_feeds, Pair_get_modify_same]; exact kept),
    State.modFeed_modFeed, State.modFeed_modFeed]
  rfl

end

end Sys2Proof.Machine

open Sys2Proof Sys2Proof.Machine

/-- R30: a gap joined to that of a held frame. -/
theorem joined_some (f : Feed) (k : Nat) : f.joined (some k) = heldGap f k := by
  unfold Feed.joined heldGap
  cases f.holding with
  | none => rfl
  | some h => cases g : h.gap <;> simp [joinGaps, g]


theorem joined_none (f : Feed) : f.joined none = none := by
  unfold Feed.joined
  cases f.holding with
  | none => rfl
  | some h => cases g : h.gap <;> simp [joinGaps]

/-- Settles O9: a bad frame below FC is a count and a fault in the feed's record; a duplicate is a count. -/
theorem badAndDuplicateFramesAreCounted : Obligations.BadAndDuplicateFramesAreCounted := by
  refine ⟨fun s arm chars t => ?_, fun s arm chars t status q x y z => ?_⟩
  · intro f table idle bad below
    refine congrArg _ ((State.frameComplete_bad table idle ((badFrame_iff_isBad _ _).mpr bad)).trans ?_)
    have faulted := State.fault_of_below (s := s.modFeed arm (fun f => { f with bad := f.bad + 1 })) (arm := arm)
      (m := t.arms.get arm) (by rw [State.modFeed_feeds, Pair_get_modify_same]; exact below)
    rw [State.takeBad, faulted, State.modFeed_modFeed]
    rfl
  · intro f table idle bytes last
    exact congrArg _ ((State.frameComplete_duplicate table idle bytes last).trans (State.modFeed_eq_set rfl))

/-- Settles O11: the record of a good frame in the two cases that change no feed state. -/
theorem goodFrameKeepsTheFeedState : Obligations.GoodFrameKeepsTheFeedState := by
  intro s arm chars t status q l x y z f table idle bytes last fresh kept
  refine congrArg _ ((State.frameComplete_good table idle bytes (by rw [last]; simpa using fresh)).trans ?_)
  rw [State.takeGood_of_kept s arm _ _ kept]
  have record : (s.feeds.get arm).afterGood (t.arms.get arm) (feedBytes arm status q x y z) = { f with
      goodRun := if f.state = .acquiring then f.goodRun + 1 else f.goodRun
      faultRun := if f.state = .steady then 0 else f.faultRun
      lastSeq := some q, missTimer := some (missTime (t.arms.get arm)), good := f.good + 1
      holding := some (feedFrame status q x y z (heldGap f (q - l).toNat))
      overrun := if f.holding.isSome then f.overrun + 1 else f.overrun } := by
    rw [Feed.afterGood_feedBytes, Feed.gapOf_of_last (kept.imp_right And.left) last, joined_some]
    obtain state | ⟨state, below⟩ := kept
    · simp [Feed.ranGood, Feed.countedGood, f, state]
    · simp [Feed.ranGood, Feed.countedGood, f, state, Nat.not_le.mpr below]
  rw [record]
  rfl
end

section
/-! SUPPORT. R125, R176, R183, R186: what a change of one arm's cause sets shows: the flags on the arm's own port, the
guard report on both ports, and the status word. -/

namespace Sys2Proof.Machine

/-! ## Flags as bits of PSTAT -/

theorem flagBits_append (fs gs : List Flag) : flagBits (fs ++ gs) = flagBits fs ||| flagBits gs := by
  have from_bits : ∀ (gs : List Flag) (b : BitVec 11),
      gs.foldl (fun b f => b ||| BitVec.ofNat 11 (2 ^ f.bit)) b = b ||| flagBits gs := by
    intro gs
    induction gs with
    | nil => simp [flagBits]
    | cons g gs ih =>
      intro b
      have head : flagBits (g :: gs) = gs.foldl (fun b f => b ||| BitVec.ofNat 11 (2 ^ f.bit))
        (0 ||| BitVec.ofNat 11 (2 ^ g.bit)) := rfl
      rw [List.foldl_cons, ih, head, ih]
      simp [BitVec.or_assoc]
  rw [flagBits, List.foldl_append, from_bits]
  rfl

@[simp] theorem flagBits_nil : flagBits [] = 0 := rfl

@[simp] theorem flagBits_singleton (f : Flag) : flagBits [f] = BitVec.ofNat 11 (2 ^ f.bit) := by
  simp [flagBits]

theorem flagBits_cons (f : Flag) (fs : List Flag) : flagBits (f :: fs) = BitVec.ofNat 11 (2 ^ f.bit) ||| flagBits fs := by
  rw [← flagBits_singleton, ← flagBits_append]
  rfl

theorem State.raiseIf_port_same (s : State) (b : Bool) (f : Flag) (p : Port) :
    (s.raiseIf b f p).ports.get p =
      { s.ports.get p with flags := (s.ports.get p).flags ||| flagBits (if b then [f] else []) } := by
  cases b <;> simp [State.raiseIf, State.raise, PortRegs.raised]

theorem State.raiseIf_port_other (s : State) (b : Bool) (f : Flag) (p : Port) :
    (s.raiseIf b f p).ports.get p.other = s.ports.get p.other := by
  cases b <;> simp [State.raiseIf, State.raise]

/-! ## The guard report (R186) -/

theorem State.guardConditions_congr {s t : State} (h : s.enf = t.enf) : s.guardConditions = t.guardConditions := by
  simp only [State.guardConditions, State.stopLine, State.pauseLine, h]

theorem State.noteConditions_port (s : State) (before : Word) (p : Port) :
    (s.noteConditions before).ports.get p =
      if s.guardConditions = before then s.ports.get p else (s.ports.get p).noted s.guardConditions := by
  unfold State.noteConditions
  split
  · rfl
  · cases p <;> rfl

/-- R186: one condition's bit, alone. -/
def conditionBit (b : Bool) (i : Nat) : Word := wordOf (markAt b i)

theorem conditionBit_or {b c : Bool} (h : b = true → c = true) (i : Nat) :
    conditionBit b i ||| conditionBit c i = conditionBit c i := by
  cases b <;> cases c <;> simp_all [conditionBit, markAt, wordOf]

/-- R186: the six conditions stand in bits of their own. -/
theorem State.guardConditions_eq (s : State) : s.guardConditions =
    conditionBit (s.stopLine .a) 0 ||| conditionBit (s.pauseLine .a) 1 ||| conditionBit (s.enf.get .a).stop.trespass 2 |||
      conditionBit (s.stopLine .b) 4 ||| conditionBit (s.pauseLine .b) 5 ||| conditionBit (s.enf.get .b).stop.trespass 6 := by
  have bits : ∀ a b c d e f : Bool,
      wordOf (markAt a 0 + markAt b 1 + markAt c 2 + markAt d 4 + markAt e 5 + markAt f 6) =
        conditionBit a 0 ||| conditionBit b 1 ||| conditionBit c 2 ||| conditionBit d 4 ||| conditionBit e 5 |||
          conditionBit f 6 := by decide
  exact bits _ _ _ _ _ _

/-- R186: every condition that holds in `s` holds in `t`. -/
def State.conditionsGrow (s t : State) : Prop := ∀ arm : Arm,
  (s.stopLine arm = true → t.stopLine arm = true) ∧ (s.pauseLine arm = true → t.pauseLine arm = true) ∧
    ((s.enf.get arm).stop.trespass = true → (t.enf.get arm).stop.trespass = true)

theorem State.conditionsGrow.or_eq {s t : State} (h : s.conditionsGrow t) :
    s.guardConditions ||| t.guardConditions = t.guardConditions := by
  obtain ⟨stopA, pauseA, trespassA⟩ := h .a
  obtain ⟨stopB, pauseB, trespassB⟩ := h .b
  have regroup : ∀ a b c d e f a' b' c' d' e' f' : Word,
      (a ||| b ||| c ||| d ||| e ||| f) ||| (a' ||| b' ||| c' ||| d' ||| e' ||| f') =
        (a ||| a') ||| (b ||| b') ||| (c ||| c') ||| (d ||| d') ||| (e ||| e') ||| (f ||| f') := by intros; ac_rfl
  rw [State.guardConditions_eq, State.guardConditions_eq, regroup, conditionBit_or stopA, conditionBit_or pauseA,
    conditionBit_or trespassA, conditionBit_or stopB, conditionBit_or pauseB, conditionBit_or trespassB]

/-- R186: two growths in a row leave a port's report as one does. -/
theorem State.portAfter_trans {s t u : State} {p : Port} {fs gs hs : List Flag} (h : s.conditionsGrow t)
    (k : t.conditionsGrow u) (ht : t.ports.get p = s.portAfter t p fs) (hu : u.ports.get p = t.portAfter u p gs)
    (flags : flagBits fs ||| flagBits gs = flagBits hs) : u.ports.get p = s.portAfter u p hs := by
  have st := h.or_eq
  have tu := k.or_eq
  rw [hu]
  unfold State.portAfter
  rw [ht]
  unfold State.portAfter
  generalize s.guardConditions = gs at *
  generalize t.guardConditions = gt at *
  generalize u.guardConditions = gu at *
  by_cases first : gt = gs
  · subst first
    simp [BitVec.or_assoc, flags]
  · have differs : gu ≠ gs := fun e => first (by
      rw [← st, BitVec.or_comm, ← e]
      exact tu)
    by_cases second : gu = gt
    · subst second
      simp [first, BitVec.or_assoc, flags]
    · simp [first, second, differs, BitVec.or_assoc, flags, tu]

/-! ## A change of one arm's cause sets (R123–R125) -/

/-- The change from `s` to `u` gives the arm the enforcement state `e`, with the flags `own` beside those of the arm's lines. -/
structure State.CausesBecome (s u : State) (arm : Arm) (e : Enforcement) (own : List Flag) : Prop where
  enf : u.enf = s.enf.set arm e
  ports : s.portsAfter u arm (own ++ s.lineFlags u arm) []
  canonical : s.memoryOk → u.memoryOk
  status : s.memoryOk → s.statusShown u

section
variable {s u : State} {arm : Arm} {e : Enforcement} {own : List Flag}

/-- R176: the status word is written, and no other. -/
theorem State.writeStatus_shown (s : State) (h : s.memoryOk) : s.statusShown s.writeStatus :=
  ⟨Memory.read_write_same _ _ h, fun _ ha => Memory.read_write_of_ne _ _ ha⟩

/-- R125, R186: the causes replaced, with what the lines, the flags and the guard report make of it. -/
theorem State.setCauses_become (s : State) (arm : Arm) (p : PauseSet) (q : StopSet) :
    s.CausesBecome (s.setCauses arm p q) arm { (s.enf.get arm) with pause := p, stop := q } [] := by
  have enf : (s.setCauses arm p q).enf = s.enf.set arm { (s.enf.get arm) with pause := p, stop := q } := by
    simp [State.setCauses]
    rfl
  generalize hx : (s.modEnf arm (fun e => { e with pause := p, stop := q })).noteConditions s.guardConditions = x
  have noted : ∀ y, x.ports.get y = if (s.setCauses arm p q).guardConditions = s.guardConditions then s.ports.get y
      else (s.ports.get y).noted (s.setCauses arm p q).guardConditions := fun y => by
    rw [← hx, State.noteConditions_port]
    rw [State.guardConditions_congr (t := s.modEnf arm (fun e => { e with pause := p, stop := q })) enf]
    rfl
  generalize hy : (x.raiseIf (p.held != (s.enf.get arm).pause.held) .pause arm).raiseIf (q.gains (s.enf.get arm).stop) .stop arm = y
  have written : s.setCauses arm p q = y.writeStatus := by
    rw [← hy, ← hx]
    rfl
  have mem : y.mem = s.mem := by simp [← hy, ← hx]
  have wf : s.memoryOk → y.memoryOk := fun h => (congrArg Memory.wf mem).trans h
  have lines : flagBits (s.lineFlags (s.setCauses arm p q) arm) =
      flagBits (if p.held != (s.enf.get arm).pause.held then [.pause] else []) |||
        flagBits (if q.gains (s.enf.get arm).stop then [.stop] else []) := by
    simp only [State.lineFlags, State.pauseLine, enf, Pair_get_set_same, flagBits_append]
    congr 2
    by_cases h : p.held = (s.enf.get arm).pause.held <;> simp [h]
  refine ⟨enf, ⟨?_, ?_⟩, fun h => ?_, fun h => ?_⟩
  · have port : (s.setCauses arm p q).ports.get arm = { x.ports.get arm with
        flags := (x.ports.get arm).flags ||| flagBits (s.lineFlags (s.setCauses arm p q) arm) } := by
      rw [lines, ← BitVec.or_assoc, written, State.writeStatus_ports, ← hy, State.raiseIf_port_same, State.raiseIf_port_same]
    rw [port, noted, List.nil_append, State.portAfter]
    split <;> rfl
  · have port : (s.setCauses arm p q).ports.get arm.other = x.ports.get arm.other := by
      rw [written, State.writeStatus_ports, ← hy, State.raiseIf_port_other, State.raiseIf_port_other]
    rw [port, noted, State.portAfter]
    split <;> simp [PortRegs.noted]
  · rw [written]
    exact Memory.wf_write _ _ (wf h)
  · rw [written]
    obtain ⟨shown, kept⟩ := y.writeStatus_shown (wf h)
    exact ⟨shown, fun a ha => (kept a ha).trans (congrArg (Memory.read · a) mem)⟩

/-- A flag set on the arm's port before a change of its causes. -/
theorem State.CausesBecome.raised {f : Flag} (h : (s.raise f arm).CausesBecome u arm e own) :
    s.CausesBecome u arm e (f :: own) := by
  obtain ⟨enf, ⟨same, other⟩, canonical, status⟩ := h
  have conditions : (s.raise f arm).guardConditions = s.guardConditions := rfl
  refine ⟨enf, ⟨?_, ?_⟩, canonical, status⟩
  · have lines : (s.raise f arm).lineFlags u arm = s.lineFlags u arm := rfl
    rw [same, lines, List.cons_append, State.portAfter, State.portAfter, conditions, flagBits_cons, ← BitVec.or_assoc]
    simp [State.raise, PortRegs.raised]
  · rw [other, State.portAfter, State.portAfter, conditions]
    simp [State.raise]

/-- A feed's record plays no part in its arm's causes. -/
theorem State.CausesBecome.of_modFeed {x : Side} {g : Feed → Feed} (h : (s.modFeed x g).CausesBecome u arm e own) :
    s.CausesBecome u arm e own :=
  ⟨h.enf, h.ports, h.canonical, h.status⟩

/-- What is done afterwards to the feeds, the reach records and the requests plays no part in the causes. -/
theorem State.CausesBecome.modFeed (h : s.CausesBecome u arm e own) (x : Side) (g : Feed → Feed) :
    s.CausesBecome (u.modFeed x g) arm e own :=
  ⟨h.enf, h.ports, h.canonical, h.status⟩

theorem State.CausesBecome.modReach (h : s.CausesBecome u arm e own) (x : Side) (g : Reach → Reach) :
    s.CausesBecome (u.modReach x g) arm e own :=
  ⟨h.enf, h.ports, h.canonical, h.status⟩

theorem State.CausesBecome.setWaiting (h : s.CausesBecome u arm e own) (w : List (List Request)) :
    s.CausesBecome (u.setWaiting w) arm e own :=
  ⟨h.enf, h.ports, h.canonical, h.status⟩

/-- A change of the arm's enforcement state that leaves both cause sets is seen by no line. -/
theorem State.CausesBecome.modEnf (h : s.CausesBecome u arm e own) {g : Enforcement → Enforcement}
    (pause : (g e).pause = e.pause) (stop : (g e).stop = e.stop) :
    s.CausesBecome (u.modEnf arm g) arm (g e) own := by
  obtain ⟨enf, ports, canonical, status⟩ := h
  have sets : ∀ x : Arm, (((u.modEnf arm g).enf).get x).pause = (u.enf.get x).pause ∧
      (((u.modEnf arm g).enf).get x).stop = (u.enf.get x).stop := by
    intro x
    by_cases hx : x = arm
    · subst hx
      rw [State.modEnf_enf, Pair_get_modify_same, enf, Pair_get_set_same]
      exact ⟨pause, stop⟩
    · rw [State.modEnf_enf, Pair_get_modify_of_ne _ _ _ _ hx]
      exact ⟨rfl, rfl⟩
  have conditions : (u.modEnf arm g).guardConditions = u.guardConditions := by
    simp only [State.guardConditions_eq, State.stopLine, State.pauseLine, sets]
  have line : (u.modEnf arm g).pauseLine arm = u.pauseLine arm := congrArg PauseSet.held (sets arm).1
  have lines : s.lineFlags (u.modEnf arm g) arm = s.lineFlags u arm := by
    rw [State.lineFlags, State.lineFlags, line, (sets arm).2]
  have report : ∀ p fs, s.portAfter (u.modEnf arm g) p fs = s.portAfter u p fs := fun p fs => by
    rw [State.portAfter, State.portAfter, conditions]
  refine ⟨?_, ?_, canonical, fun hm => ⟨?_, (status hm).2⟩⟩
  · rw [State.modEnf_enf, enf]
    cases arm <;> rfl
  · rw [lines]
    exact ⟨ports.1.trans (report _ _).symm, ports.2.trans (report _ _).symm⟩
  · refine (status hm).1.trans ?_
    simp only [State.statusWord, State.pauseLine, State.stopLine, sets, State.modEnf_survey, State.modEnf_active]
    rfl

/-- R125: two additions of causes in a row, the first of which adds no stop cause and leaves the pause line asserted. -/
theorem State.CausesBecome.trans {t : State} {e' : Enforcement} (h : s.CausesBecome t arm e own)
    (k : t.CausesBecome u arm e' []) (held : e.pause.held = true) (held' : e'.pause.held = true)
    (first : e.stop = (s.enf.get arm).stop) (stop : e.stop.held = true → e'.stop.held = true)
    (trespass : e'.stop.trespass = e.stop.trespass) : s.CausesBecome u arm e' own := by
  have et : t.enf.get arm = e := by rw [h.enf, Pair_get_set_same]
  have eu : u.enf.get arm = e' := by rw [k.enf, Pair_get_set_same]
  have grow : s.conditionsGrow t := by
    intro x
    by_cases hx : x = arm
    · subst hx
      simp only [State.stopLine, State.pauseLine, et, first, held]
      exact ⟨id, fun _ => trivial, id⟩
    · simp only [State.stopLine, State.pauseLine, h.enf, Pair_get_set_of_ne _ _ _ _ hx]
      exact ⟨id, id, id⟩
  have grow' : t.conditionsGrow u := by
    intro x
    by_cases hx : x = arm
    · subst hx
      simp only [State.stopLine, State.pauseLine, et, eu, trespass, held']
      exact ⟨stop, fun _ => trivial, id⟩
    · simp only [State.stopLine, State.pauseLine, k.enf, Pair_get_set_of_ne _ _ _ _ hx]
      exact ⟨id, id, id⟩
  have flags : flagBits (s.lineFlags t arm) ||| flagBits (t.lineFlags u arm) = flagBits (s.lineFlags u arm) := by
    have none : ∀ q : StopSet, q.gains q = false := by simp [StopSet.gains]
    simp only [State.lineFlags, State.pauseLine, et, eu, held, held', ← first, none, if_true, flagBits_append]
    simp
  refine ⟨?_, ⟨?_, ?_⟩, fun hm => k.canonical (h.canonical hm), fun hm => ?_⟩
  · rw [k.enf, h.enf]
    cases arm <;> rfl
  · refine State.portAfter_trans grow grow' h.ports.1 k.ports.1 ?_
    rw [List.nil_append, flagBits_append, flagBits_append, BitVec.or_assoc, flags]
  · exact State.portAfter_trans grow grow' h.ports.2 k.ports.2 rfl
  · obtain ⟨shown, kept⟩ := k.status (h.canonical hm)
    exact ⟨shown, fun a ha => (kept a ha).trans ((h.status hm).2 a ha)⟩

end

end Sys2Proof.Machine
end

section
/-! SUPPORT. R32–R39, R45, R135, R136: the feed events that change a feed's state or add FEED_LOSS, as changes of the arm's
causes beside those of the feed's record. -/

namespace Sys2Proof.Machine

/-- R39, R135: FEED is a pause cause. -/
def Enforcement.feedHeld (e : Enforcement) : Enforcement := { e with pause := { e.pause with feed := true } }

/-- R39, R135: the feed is STEADY: FEED is taken out, and the pause-release run counter is 0. -/
def Enforcement.feedSteady (e : Enforcement) : Enforcement :=
  { e with pause := { e.pause with feed := false }, runCounter := 0 }

/-- R136: FEED_LOSS and STOPPED are put in, and a snapshot write is ordered. -/
def Enforcement.feedLoss (e : Enforcement) : Enforcement :=
  { e with
    pause := { e.pause with stopped := true }, stop := { e.stop with feedLoss := true }, snapshotOrdered := true }

section
variable {s : State} {arm : Arm}

/-- R39, R135: a feed that comes to a state other than STEADY. -/
theorem State.changeFeed_become {new : FeedState} (changes : (s.feeds.get arm).state ≠ new) (unsteady : new ≠ .steady) :
    s.CausesBecome (s.changeFeed arm new) arm (s.enf.get arm).feedHeld [.feed] := by
  unfold State.changeFeed
  simp only [changes, unsteady, if_false]
  exact (State.CausesBecome.raised (State.setCauses_become _ arm _ _)).of_modFeed

/-- R39, R135: a feed that comes to STEADY. -/
theorem State.changeFeed_steady_become (changes : (s.feeds.get arm).state ≠ .steady) :
    s.CausesBecome (s.changeFeed arm .steady) arm (s.enf.get arm).feedSteady [.feed] := by
  unfold State.changeFeed
  simp only [changes, if_false, if_true]
  exact ((State.CausesBecome.raised (State.setCauses_become _ arm _ _)).of_modFeed).modEnf rfl rfl

/-- R136. -/
theorem State.addFeedLoss_become (s : State) (arm : Arm) :
    s.CausesBecome (s.addFeedLoss arm) arm (s.enf.get arm).feedLoss [] :=
  (State.setCauses_become s arm _ _).modEnf rfl rfl

/-- R35, R37, R39, R136: the loss of a feed. -/
theorem State.enterLost_become (m : ArmFields) (changes : (s.feeds.get arm).state ≠ .lost) :
    s.CausesBecome (s.enterLost arm m) arm (lostEnforcement (s.enf.get arm) (decide (m.lg.toNat = 0))) [.feed] := by
  have lost : s.CausesBecome (((s.modFeed arm (fun f => { f with missTimer := none, goodRun := 0 })).changeFeed arm
      .lost).orderSnapshot arm) arm { (s.enf.get arm).feedHeld with snapshotOrdered := true } [.feed] :=
    ((State.changeFeed_become (new := .lost) (by simpa using changes) nofun).of_modFeed).modEnf rfl rfl
  unfold State.enterLost
  dsimp only
  split <;> rename_i grace
  · have loss := State.addFeedLoss_become (((s.modFeed arm (fun f => { f with missTimer := none, goodRun := 0 })).changeFeed
      arm .lost).orderSnapshot arm) arm
    rw [lost.enf, Pair_get_set_same] at loss
    have both := lost.trans loss (by simp [Enforcement.feedHeld, PauseSet.held])
      (by simp [Enforcement.feedHeld, Enforcement.feedLoss, PauseSet.held]) rfl
      (by simp [Enforcement.feedHeld, Enforcement.feedLoss, StopSet.held]) rfl
    simpa [lostEnforcement, Enforcement.feedHeld, Enforcement.feedLoss, grace] using both
  · have kept := lost.modFeed arm (fun f => { f with graceTimer := some (ms m.lg.toNat) })
    simpa [lostEnforcement, Enforcement.feedHeld, grace] using kept

/-! ## Good frames that change the feed's state (R32, R33, R45) -/

variable {m : ArmFields}

/-- R32, R39, R45: the frame that begins an acquisition. -/
theorem State.goodRunStep_begins (begins : (s.feeds.get arm).state = .absent ∨ (s.feeds.get arm).state = .lost) :
    s.CausesBecome (s.goodRunStep arm m) arm (s.enf.get arm).feedHeld [.feed] ∧
      (s.goodRunStep arm m).reach = s.reach.set arm { (s.reach.get arm) with firstMark := true } := by
  have changes : (s.feeds.get arm).state ≠ .acquiring := by obtain state | state := begins <;> simp [state]
  have became := State.changeFeed_become (s := s.modFeed arm (fun f => { f with goodRun := 1, faultRun := 0 })) (arm := arm)
    (new := .acquiring) (by simpa using changes) nofun
  have ran : s.goodRunStep arm m = ((s.modFeed arm (fun f => { f with goodRun := 1, faultRun := 0 })).changeFeed arm
      .acquiring).modReach arm (fun r => { r with firstMark := true }) := by
    unfold State.goodRunStep
    obtain state | state := begins <;> rw [state]
  rw [ran]
  exact ⟨became.of_modFeed.modReach arm _, by rw [State.modReach_reach, State.changeFeed_reach]; rfl⟩

/-- R33, R37, R39: the frame that brings the good run to RC. -/
theorem State.goodRunStep_rises (state : (s.feeds.get arm).state = .acquiring)
    (reached : m.rc.toNat ≤ (s.feeds.get arm).goodRun + 1) :
    s.CausesBecome (s.goodRunStep arm m) arm (s.enf.get arm).feedSteady [.feed] ∧ (s.goodRunStep arm m).reach = s.reach := by
  have became := State.changeFeed_steady_become
    (s := s.modFeed arm (fun f => { f with goodRun := f.goodRun + 1, faultRun := 0, graceTimer := none })) (arm := arm)
    (by simp [state])
  have ran : s.goodRunStep arm m =
      (s.modFeed arm (fun f => { f with goodRun := f.goodRun + 1, faultRun := 0, graceTimer := none })).changeFeed arm
        .steady := by
    unfold State.goodRunStep
    simp only [state, State.modFeed_feeds, Pair_get_modify_same, reached, if_true, State.modFeed_modFeed]
  rw [ran]
  exact ⟨became.of_modFeed, State.changeFeed_reach _ arm _⟩

/-- R28: the causes after a good frame are those that the feed's runs leave. -/
theorem State.takeGood_become {e : Enforcement} {own : List Flag} (bs : List Byte)
    (h : (s.modFeed arm (fun f => f.countedGood m (byteAt bs 2))).CausesBecome
      ((s.modFeed arm (fun f => f.countedGood m (byteAt bs 2))).goodRunStep arm m) arm e own) :
    s.CausesBecome (s.takeGood arm m bs) arm e own := by
  rw [State.takeGood_eq]
  exact (h.of_modFeed.modFeed arm _).setWaiting _

theorem State.takeGood_reach (bs : List Byte) : (s.takeGood arm m bs).reach =
    ((s.modFeed arm (fun f => f.countedGood m (byteAt bs 2))).goodRunStep arm m).reach := by
  rw [State.takeGood_eq]
  rfl

/-- R33, R34: the fault that brings the fault run to FC. -/
theorem State.fault_of_reached (steady : (s.feeds.get arm).state = .steady)
    (reached : m.fc.toNat ≤ (s.feeds.get arm).faultRun + 1) :
    s.CausesBecome (s.fault arm m) arm (lostEnforcement (s.enf.get arm) (decide (m.lg.toNat = 0))) [.feed] ∧
      (s.fault arm m).feeds = s.feeds.set arm
        (({ (s.feeds.get arm) with faultRun := (s.feeds.get arm).faultRun + 1 } : Feed).lost m) := by
  have became := State.enterLost_become (s := s.modFeed arm (fun f => { f with faultRun := f.faultRun + 1 })) (arm := arm) m
    (by simp [steady])
  have ran : s.fault arm m = (s.modFeed arm (fun f => { f with faultRun := f.faultRun + 1 })).enterLost arm m := by
    unfold State.fault
    simp only [steady, State.modFeed_feeds, Pair_get_modify_same, reached, if_true]
  rw [ran, State.enterLost_feeds, State.modFeed_feeds, Pair_modify_modify]
  exact ⟨became.of_modFeed, rfl⟩

/-! ## Timer expiries (R36, R37) -/

theorem State.missExpiry_of_running {t : ZoneTable} (table : s.active = some t) (running : (s.feeds.get arm).missTimer ≠ none) :
    s.missExpiry arm = (s.modFeed arm (fun f => { f with missTimer := some (missTime (t.arms.get arm)) })).fault arm
      (t.arms.get arm) := by
  obtain ⟨k, running⟩ := Option.ne_none_iff_exists'.mp running
  simp only [State.missExpiry, table, running]

theorem State.missExpiry_of_stopped (stopped : (s.feeds.get arm).missTimer = none) : s.missExpiry arm = s := by
  unfold State.missExpiry
  split
  · rename_i running
    rw [stopped] at running
    cases running
  · rfl

theorem State.lossGraceExpiry_of_running (running : (s.feeds.get arm).graceTimer ≠ none)
    (unsteady : (s.feeds.get arm).state ≠ .steady) :
    s.lossGraceExpiry arm = (s.modFeed arm (fun f => { f with graceTimer := none })).addFeedLoss arm := by
  obtain ⟨k, running⟩ := Option.ne_none_iff_exists'.mp running
  simp only [State.lossGraceExpiry, running, State.modFeed_feeds, Pair_get_modify_same, unsteady, if_false]

theorem State.lossGraceExpiry_of_stopped (stopped : (s.feeds.get arm).graceTimer = none) : s.lossGraceExpiry arm = s := by
  unfold State.lossGraceExpiry
  rw [stopped]

end

/-! ## What no feed event touches -/

/-- The guard with the parts that a feed event may touch blanked. -/
def State.besideFeeds (s : State) : State :=
  { s with
    feeds := State.reset.feeds, reach := State.reset.reach, enf := State.reset.enf, ports := State.reset.ports
    waiting := [], mem := [] }

theorem State.eq_of_besideFeeds {s u : State} (h : u.besideFeeds = s.besideFeeds) :
    u = { s with feeds := u.feeds, reach := u.reach, enf := u.enf, ports := u.ports, waiting := u.waiting, mem := u.mem } :=
  congrArg (fun x : State => { x with
    feeds := u.feeds, reach := u.reach, enf := u.enf, ports := u.ports, waiting := u.waiting, mem := u.mem }) h

end Sys2Proof.Machine

open Sys2Proof Sys2Proof.Machine

/-- Settles O10: the runs begin anew, and the frame is held without a gap. -/
theorem goodFrameBeginsAcquisition : Obligations.GoodFrameBeginsAcquisition := by
  intro s arm chars t status q x y z f wf table idle bytes fresh begins
  refine ⟨_, rfl, ?_⟩
  rw [State.frameComplete_good table idle bytes fresh]
  obtain ⟨became, reach⟩ := State.goodRunStep_begins (m := t.arms.get arm)
    (s := s.modFeed arm (fun f => f.countedGood (t.arms.get arm) (byteAt (feedBytes arm status q x y z) 2))) (arm := arm)
    (by rw [State.modFeed_feeds, Pair_get_modify_same]; exact begins)
  have causes := State.takeGood_become _ became
  refine ⟨State.eq_of_besideFeeds (by simp [State.besideFeeds]), ?_, (State.takeGood_reach _).trans reach, causes.enf,
    State.takeGood_waiting s arm _ _, causes.ports, causes.status wf⟩
  rw [State.takeGood_feeds, Feed.afterGood_feedBytes, Feed.gapOf_of_first begins, joined_none]
  obtain state | state := begins <;> simp [Feed.ranGood, Feed.countedGood, f, state]

/-- Settles O12: the runs bring the feed to STEADY, and the frame is held with its gap. -/
theorem riseCountBringsSteady : Obligations.RiseCountBringsSteady := by
  intro s arm chars t status q l x y z f wf table idle bytes last fresh state reached
  refine ⟨_, rfl, ?_⟩
  rw [State.frameComplete_good table idle bytes (by rw [last]; simpa using fresh)]
  obtain ⟨became, reach⟩ := State.goodRunStep_rises (m := t.arms.get arm)
    (s := s.modFeed arm (fun f => f.countedGood (t.arms.get arm) (byteAt (feedBytes arm status q x y z) 2))) (arm := arm)
    (by rw [State.modFeed_feeds, Pair_get_modify_same]; exact state)
    (by rw [State.modFeed_feeds, Pair_get_modify_same]; exact reached)
  have causes := State.takeGood_become _ became
  have frame := State.eq_of_besideFeeds (s := s) (u := s.takeGood arm (t.arms.get arm) (feedBytes arm status q x y z))
    (by simp [State.besideFeeds])
  rw [(State.takeGood_reach _).trans reach] at frame
  refine ⟨frame, ?_, causes.enf, State.takeGood_waiting s arm _ _, causes.ports, causes.status wf⟩
  rw [State.takeGood_feeds, Feed.afterGood_feedBytes, Feed.gapOf_of_last (.inr state) last, joined_some]
  simp [Feed.ranGood, Feed.countedGood, f, state, reached]

/-- Settles O13: a miss below FC is a restart and a fault in the feed's record; an expiry of the loss grace adds FEED_LOSS. -/
theorem feedTimerExpiriesAct : Obligations.FeedTimerExpiriesAct := by
  refine ⟨fun s arm t => ?_, fun s arm stopped => congrArg Host.Outcome.next (State.missExpiry_of_stopped stopped),
    fun s arm => ?_, fun s arm stopped => congrArg Host.Outcome.next (State.lossGraceExpiry_of_stopped stopped)⟩
  · intro f table running _ below
    refine congrArg Host.Outcome.next ?_
    rw [State.missExpiry_of_running table running,
      State.fault_of_below (by rw [State.modFeed_feeds, Pair_get_modify_same]; exact below), State.modFeed_modFeed]
    rfl
  · intro f e wf running unsteady
    have causes := (State.addFeedLoss_become (s.modFeed arm (fun f => { f with graceTimer := none })) arm).of_modFeed
    have frame := State.eq_of_besideFeeds (s := s)
      (u := (s.modFeed arm (fun f => { f with graceTimer := none })).addFeedLoss arm) (by simp [State.besideFeeds])
    rw [State.addFeedLoss_feeds, State.addFeedLoss_reach, State.addFeedLoss_waiting] at frame
    exact ⟨_, congrArg Host.Outcome.next (State.lossGraceExpiry_of_running running unsteady), frame, causes.enf, causes.ports,
      causes.status wf⟩

/-- Settles O14: a miss and a bad frame come to one fault, which loses the feed. -/
theorem fallCountLosesTheFeed : Obligations.FallCountLosesTheFeed := by
  intro s arm t c bad f m wf table steady reached event
  have fault : ∃ g : Feed → Feed, exec c s = .next ((s.modFeed arm g).fault arm m) ∧
      ∃ miss, g f = { f with bad := bad, missTimer := miss } := by
    obtain ⟨rfl, running, rfl⟩ | ⟨chars, rfl, idle, isbad, rfl⟩ := event
    · exact ⟨fun f => { f with missTimer := some (missTime m) },
        congrArg Host.Outcome.next (State.missExpiry_of_running table running), _, rfl⟩
    · exact ⟨fun f => { f with bad := f.bad + 1 },
        congrArg Host.Outcome.next (State.frameComplete_bad table idle ((badFrame_iff_isBad _ _).mpr isbad)), _, rfl⟩
  obtain ⟨g, eq, miss, hg⟩ := fault
  have record : (s.modFeed arm g).feeds.get arm = { f with bad := bad, missTimer := miss } := by
    rw [State.modFeed_feeds, Pair_get_modify_same]
    exact hg
  obtain ⟨became, feeds⟩ := State.fault_of_reached (s := s.modFeed arm g) (arm := arm) (m := m)
    (by rw [record]; exact steady) (by rw [record]; exact reached)
  have causes := became.of_modFeed
  have frame := State.eq_of_besideFeeds (s := s) (u := (s.modFeed arm g).fault arm m) (by simp [State.besideFeeds])
  rw [State.fault_reach, State.fault_waiting] at frame
  refine ⟨_, eq, frame, ?_, causes.enf, causes.ports, causes.status wf⟩
  rw [feeds, record, State.modFeed_feeds]
  cases arm <;> rfl
end

section
/-! SUPPORT. R31, R53, R126, R127: an evaluation that only shows: the words that stage 7 writes, and the stages that a frame
passes without effect. -/

namespace Sys2Proof.Machine

/-! ## The snapshot of stage 7 (R127) -/

theorem State.writeWord_word_of_ne (s : State) {a c : Nat} (v : Word) (h : c ≠ a) : (s.writeWord a v).word c = s.word c :=
  Memory.read_write_of_ne s.mem v h

theorem State.writeWords_word_outside (s : State) {a c : Nat} (vs : List Word) (h : c < a ∨ a + vs.length ≤ c) :
    (s.writeWords a vs).word c = s.word c :=
  Memory.read_writeFrom_outside s.mem vs h

theorem mem_offsets (a n c : Nat) : c ∈ offsets a n ↔ a ≤ c ∧ c < a + n := by
  simp only [offsets, List.mem_map, List.mem_range]
  constructor
  · rintro ⟨k, hk, rfl⟩
    omega
  · rintro ⟨h, h'⟩
    exact ⟨c - a, by omega, by omega⟩

/-- R177: stage 7 writes words 1–21. -/
theorem State.snapshotWords_length (s : State) (arm : Arm) : (s.snapshotWords arm).length = 21 := rfl

/-- R127, R177: stage 7 writes the 22 words of the arm's snapshot and no other. -/
theorem State.writeSnapshot_wordsKept (s : State) (arm : Arm) :
    s.wordsKept (s.writeSnapshot arm) (offsets (snapshotBase arm) 22) := by
  intro c hc
  rw [mem_offsets] at hc
  have base : c ≠ snapshotBase arm := by omega
  unfold State.writeSnapshot State.raiseSnapshotCount
  rw [State.writeWord_word_of_ne _ _ base,
    State.writeWords_word_outside _ _ (by rw [State.snapshotWords_length]; omega), State.writeWord_word_of_ne _ _ base]

/-- R127: stage 7 changes memory alone. -/
theorem State.writeSnapshot_memory (s : State) (arm : Arm) : ∃ m, s.writeSnapshot arm = s.setMem m :=
  have words : ∀ ws, ∃ m,
      ((s.raiseSnapshotCount arm).writeWords (snapshotBase arm + 1) ws).raiseSnapshotCount arm = s.setMem m :=
    fun _ => ⟨_, rfl⟩
  words _

theorem status_notin_snapshot (arm : Arm) : 0x004 ∉ offsets (snapshotBase arm) 22 := by cases arm <;> decide

/-! ## Stages without effect -/

theorem State.arriveAt_nil (s : State) (k : Nat) : s.arriveAt [] k = s := rfl

theorem State.arriveBetween_nil (s : State) (lo hi : Nat) : s.arriveBetween [] lo hi = s := rfl

/-- R128: a write that is not ordered is not made. -/
theorem State.flushSnapshot_of_notOrdered {s : State} {arm : Arm} (h : (s.enf.get arm).snapshotOrdered = false) :
    s.flushSnapshot arm = s := by
  simp [State.flushSnapshot, h]

/-- R70, R128: a service that is due, with no snapshot write ordered before it. -/
theorem State.serve_of_readyFor {s : State} {r : Request} (h : s.readyFor r) (body : State → State) :
    s.serve r body = body (s.dropRequest r) := by
  obtain ⟨due, a, b⟩ := h
  rw [State.serve, if_pos due, State.flushSnapshot_of_notOrdered (s := s.dropRequest r) (arm := .a) a,
    State.flushSnapshot_of_notOrdered (s := s.dropRequest r) (arm := .b) b]

/-- R125: the causes as they stand, put again, show nothing but the status word. -/
theorem State.setCauses_self (s : State) (arm : Arm) :
    s.setCauses arm (s.enf.get arm).pause (s.enf.get arm).stop = s.writeStatus := by
  have same : s.modEnf arm (fun e => { e with pause := (s.enf.get arm).pause, stop := (s.enf.get arm).stop }) = s := by
    simp only [State.modEnf, Pair_modify_eq_self]
    rfl
  have none : ∀ q : StopSet, q.gains q = false := by simp [StopSet.gains]
  unfold State.setCauses
  simp only [same, State.noteConditions, State.raiseIf, none, bne_self_eq_false, if_true, Bool.false_eq_true, if_false]

/-- R126: an evaluation that has gathered nothing writes the status word alone. -/
theorem State.applyGathered_none (s : State) (arm : Arm) : s.applyGathered arm .none = s.writeStatus := by
  rw [← State.setCauses_self s arm]
  simp [State.applyGathered, Gathered.none]

/-- R31, R45: the frame taken out and carried through the arithmetic. -/
def State.computed (s : State) (t : ZoneTable) (arm : Arm) (f : HeldFrame) : State :=
  (s.takeFrame arm f).arithmetic t arm f

/-- R42, R45: beside the holding slot the arithmetic changes the reach record alone. -/
theorem State.computed_eq (s : State) (t : ZoneTable) (arm : Arm) (f : HeldFrame) :
    s.computed t arm f = { s with
      feeds := s.feeds.set arm { (s.feeds.get arm) with holding := none }
      reach := s.reach.set arm (s.reachAfter t arm f) } := by
  cases arm <;> rfl

/-- R31: a frame taken out of STEADY passes the arithmetic and the snapshot. -/
theorem State.evaluationStages_of_unsteady (s : State) (t : ZoneTable) (arm : Arm) (f : HeldFrame) :
    s.evaluationStages [] t arm f false = (s.computed t arm f).writeSnapshot arm := rfl

/-- R53, R129: so does a marked frame of a seated arm, with the status word. -/
theorem State.evaluationStages_of_marked {s : State} {arm : Arm} {f : HeldFrame} (t : ZoneTable)
    (seated : (s.enf.get arm).seated = true) (marked : f.gap = none) :
    s.evaluationStages [] t arm f true = (s.computed t arm f).writeStatus.writeSnapshot arm := by
  have stage : (s.computed t arm f).seatingStage arm = (s.computed t arm f, Gathered.none) := if_pos seated
  have computed : (s.takeFrame arm f).arithmetic t arm f = s.computed t arm f := rfl
  rw [← State.applyGathered_none _ arm]
  simp only [State.evaluationStages, State.arriveAt_nil, State.arriveBetween_nil, computed, stage, marked,
    Option.isSome_none, Bool.false_eq_true, if_true, if_false]

/-- R69, R126: an evaluation that is due, with no event arriving. -/
theorem exec_frameEvaluation_of_readyFor {s : State} {arm : Arm} {t : ZoneTable} {f : HeldFrame}
    (due : s.readyFor (.evaluation arm)) (table : s.active = some t) (held : (s.feeds.get arm).holding = some f) :
    exec (.frameEvaluation arm []) s = .next ((s.dropRequest (.evaluation arm)).evaluationStages [] t arm f
      (decide ((s.feeds.get arm).state = .steady))) := by
  refine congrArg Host.Outcome.next ((State.serve_of_readyFor due _).trans ?_)
  unfold State.evaluationBody
  rw [State.dropRequest_active, State.dropRequest_feeds, table, held]

end Sys2Proof.Machine

open Sys2Proof Sys2Proof.Machine

/-- Settles O3: the reset values, item by item. -/
theorem resetStateIsAsTheSpecStates : Obligations.ResetStateIsAsTheSpecStates := by
  have cells : State.reset.cells = List.replicate 1024 Cell.unowned := rfl
  refine ⟨rfl, rfl, rfl, rfl, rfl, rfl, fun p => ?_, fun arm => ?_, fun arm => ?_, ?_, fun i hi => ?_, rfl, fun arm => ?_,
    rfl, rfl, rfl, rfl, rfl, rfl, rfl, rfl, fun arm => ?_, rfl, rfl, rfl⟩
  · cases p <;> exact ⟨rfl, rfl, rfl, rfl⟩
  · cases arm <;> exact ⟨rfl, rfl, rfl, rfl, rfl, rfl, rfl, rfl, rfl, rfl, rfl, rfl⟩
  · cases arm <;> exact ⟨rfl, rfl, rfl, rfl, rfl, rfl, rfl, rfl, rfl⟩
  · rw [cells, List.length_replicate]
  · rw [State.cell, cells, List.getD_replicate _ hi]
    rfl
  · have free : ∀ k : Slot, (Vector.replicate 16 SlotEntry.free).get k = ⟨.free, none⟩ := fun k => by
      rw [Vector.get_eq_getElem, Vector.getElem_replicate]
      rfl
    cases arm <;> exact ⟨rfl, rfl, rfl, free⟩
  · cases arm <;> exact ⟨rfl, rfl, rfl, rfl⟩

/-- Settles O23: in both cases the stages come to the arithmetic and the snapshot, with the status word for a STEADY feed. -/
theorem evaluationOutsideSteadyOnlyShows : Obligations.EvaluationOutsideSteadyOnlyShows := by
  refine ⟨fun s arm t f due table held unsteady => ?_, fun s arm t f due wf table held steady marked seated => ?_⟩
  · refine ⟨_, exec_frameEvaluation_of_readyFor due table held, ?_⟩
    rw [decide_eq_false unsteady, State.evaluationStages_of_unsteady, State.computed_eq]
    generalize hx : ({ s.dropRequest (.evaluation arm) with feeds := _, reach := _ } : State) = x
    have kept := x.writeSnapshot_wordsKept arm
    obtain ⟨m, hm⟩ := x.writeSnapshot_memory arm
    rw [hm] at kept ⊢
    subst hx
    exact ⟨rfl, kept⟩
  · refine ⟨_, exec_frameEvaluation_of_readyFor due table held, ?_⟩
    rw [decide_eq_true steady, State.evaluationStages_of_marked t (by exact seated) marked, State.computed_eq]
    generalize hx : ({ s.dropRequest (.evaluation arm) with feeds := _, reach := _ } : State) = x
    have sight : x.statusWord = s.statusWord := by rw [← hx]; rfl
    have mem : x.mem = s.mem := by rw [← hx]; rfl
    obtain ⟨shown, written⟩ := x.writeStatus_shown ((congrArg Memory.wf mem).trans wf)
    have kept := x.writeStatus.writeSnapshot_wordsKept arm
    obtain ⟨m, hm⟩ := x.writeStatus.writeSnapshot_memory arm
    rw [hm] at kept ⊢
    have status : (x.writeStatus.setMem m).word 0x004 = s.statusWord :=
      (kept _ (status_notin_snapshot arm)).trans (shown.trans sight)
    have words : s.wordsKept (x.writeStatus.setMem m) (0x004 :: offsets (snapshotBase arm) 22) := fun a ha => by
      rw [List.mem_cons, not_or] at ha
      obtain ⟨h4, hs⟩ := ha
      rw [kept a hs, written a h4, State.word, mem, State.word]
    refine ⟨by rw [← hx]; rfl, status.trans sight.symm, words, fun current a ha => ?_⟩
    by_cases h4 : a = 0x004
    · rw [h4, status, current]
    · exact words a (by simp [h4, ha])
end

section
/-! SUPPORT. R43, R45–R50: saturation, division rounded up, and each figure of the stop reach on one axis against the rule
that the statements give for it. -/

namespace Sys2Proof.Machine

/-! ## Saturation (R43, section 1.7) -/

theorem saturateCoord_eq (x : Int) : saturateCoord x = max (-32768) (min 32767 x) := by
  unfold saturateCoord saturate
  omega

theorem saturateCoord_of_le {x : Int} (h : x ≤ 32767) : saturateCoord x = max (-32768) x := by
  rw [saturateCoord_eq, min_eq_right h]

theorem saturateCoord_of_ge {x : Int} (h : -32768 ≤ x) : saturateCoord x = min 32767 x := by
  rw [saturateCoord_eq, max_eq_right (le_min (by decide) h)]

theorem saturateCoord_mono {x y : Int} (h : x ≤ y) : saturateCoord x ≤ saturateCoord y := by
  rw [saturateCoord_eq, saturateCoord_eq]
  exact max_le_max_left _ (min_le_min_left _ h)

/-- The coordinate lies in −32768…32767. -/
abbrev inCoordRange (c : Int) : Prop := -32768 ≤ c ∧ c ≤ 32767

theorem saturateCoord_inCoordRange (x : Int) : inCoordRange (saturateCoord x) := by
  rw [saturateCoord_eq]
  omega

/-! ## Position and velocity (R43, R46) -/

theorem transformAxis_inCoordRange (offset raw : Word) (mirror : Bool) : inCoordRange (transformAxis offset raw mirror) :=
  saturateCoord_inCoordRange _

theorem transformAxis_rule (offset raw : Word) (mirror : Bool) :
    transformRule offset raw mirror (transformAxis offset raw mirror) :=
  saturateCoord_eq _

/-- A divisor above 0 leaves less than itself between d and the multiple that d rounds up to. -/
theorem roundedUp_ceilDiv (d : Nat) {k : Nat} (hk : 0 < k) : roundedUp d k (ceilDiv d k) := by
  have split := Nat.div_add_mod' (d + k - 1) k
  have rest := Nat.mod_lt (d + k - 1) hk
  rw [roundedUp, Nat.sub_mul, one_mul, ceilDiv]
  generalize (d + k - 1) / k = n at split ⊢
  have multiple : n = 0 ∨ k ≤ n * k := n.eq_zero_or_pos.imp_right (Nat.le_mul_of_pos_left k)
  omega

theorem ceilDiv_zero {k : Nat} (hk : 0 < k) : ceilDiv 0 k = 0 :=
  Nat.div_eq_of_lt (by omega)

theorem ceilDiv_pos {d k : Nat} (hd : 0 < d) (hk : 0 < k) : 0 < ceilDiv d k :=
  Nat.div_pos (by omega) hk

/-- R46: the sign of the difference is the velocity's, since a difference is never rounded to 0. -/
theorem velocityAxis_rule (new old : Int) {k : Nat} (hk : 0 < k) : velocityRule new old (velocityAxis new old k) k := by
  have zero : new = old → ceilDiv (new - old).natAbs k = 0 := fun h => by
    rw [h, Int.sub_self, Int.natAbs_zero, ceilDiv_zero hk]
  have pos : new ≠ old → 0 < ceilDiv (new - old).natAbs k := fun h => ceilDiv_pos (by omega) hk
  have rounded := roundedUp_ceilDiv (new - old).natAbs hk
  unfold velocityAxis
  generalize ceilDiv (new - old).natAbs k = n at zero pos rounded ⊢
  dsimp only
  split <;> exact ⟨⟨n, rounded, by omega⟩, by omega⟩

/-! ## Stop reach and stop point (R47–R49) -/

/-- R47, R48: an arm that moves has a braking travel of at least 1. -/
theorem stopReachAxis_rule (m : ArmFields) (brake : Bool) (v : Int) (dec : 0 < m.dec.toNat) :
    stopReachRule m brake v (stopReachAxis m brake v) := by
  cases brake with
  | true => exact ⟨fun _ => rfl, fun h => absurd h (by decide)⟩
  | false =>
    refine ⟨fun h => absurd h (by decide), fun _ => ⟨⟨_, roundedUp_ceilDiv _ dec, rfl⟩, fun moving => ?_, ?_⟩⟩
    · have speed : 0 < v.natAbs := Int.natAbs_pos.mpr moving
      have braking := ceilDiv_pos (Nat.mul_pos (by decide : 0 < 8) (Nat.mul_pos speed speed)) dec
      exact le_min (by decide) (Nat.le_add_left_of_le braking)
    · rintro rfl
      simp [stopReachAxis, ceilDiv_zero dec]

theorem stopPointAxis_rule {c : Int} (h : inCoordRange c) (v : Int) (d : Nat) :
    stopPointRule c v d (stopPointAxis c v d) := by
  unfold stopPointAxis
  rcases lt_trichotomy v 0 with back | rfl | ahead
  · rw [if_neg (not_lt_of_gt back), if_pos back, saturateCoord_of_le (by omega)]
    omega
  · rw [if_neg (lt_irrefl _), if_neg (lt_irrefl _)]
    omega
  · rw [if_pos ahead, saturateCoord_of_ge (by omega)]
    omega

/-- R50: on an axis whose velocity or stop reach is 0 the stop point is the position. -/
theorem stopPointAxis_of_zero {c : Int} (h : inCoordRange c) {v : Int} {d : Nat} (zero : v = 0 ∨ d = 0) :
    stopPointAxis c v d = c := by
  obtain ⟨ahead, back, still, -⟩ := stopPointAxis_rule h v d
  omega

theorem stopPointAxis_inCoordRange {c : Int} (h : inCoordRange c) (v : Int) (d : Nat) :
    inCoordRange (stopPointAxis c v d) := by
  obtain ⟨-, -, -, -, -, range⟩ := stopPointAxis_rule h v d
  exact range

/-! ## The coordinate ranges of the blocks (R50) -/

/-- R50: no end between two coordinates passes the limit on the far side, so each end is saturated on its own side only. -/
theorem axisRange_ends {c q : Int} (hc : inCoordRange c) (hq : inCoordRange q) (h : BitVec 12) (p n : Nat) :
    (axisRange c q h p n).lo = max (-32768) (min c q - h.toNat) ∧
      (axisRange c q h p n).hi = min 32767 (max c q + h.toNat) := by
  exact ⟨saturateCoord_of_le (by omega), saturateCoord_of_ge (by omega)⟩

theorem axisRange_rule {c : Int} (hc : inCoordRange c) (v : Int) (d : Nat) (h : BitVec 12) (p n : Nat) :
    blockRule c (stopPointAxis c v d) h.toNat v d (axisRange c c h p n) (axisRange c (stopPointAxis c v d) h p n) := by
  have same : v = 0 ∨ d = 0 → stopPointAxis c v d = c := stopPointAxis_of_zero hc
  have hq := stopPointAxis_inCoordRange hc v d
  obtain ⟨elo, ehi⟩ := axisRange_ends hc hc h p n
  obtain ⟨wlo, whi⟩ := axisRange_ends hc hq h p n
  rw [min_self] at elo
  rw [max_self] at ehi
  refine ⟨elo, ehi, wlo, whi, ?_⟩
  omega

end Sys2Proof.Machine

open Sys2Proof Sys2Proof.Machine

/-- Settles O17: axis by axis. -/
theorem stopPointIsStopReachAhead : Obligations.StopPointIsStopReachAhead := fun _ _ m f =>
  ⟨transform m f, _, rfl, rfl, stopPointAxis_rule (transformAxis_inCoordRange ..) _ _,
    stopPointAxis_rule (transformAxis_inCoordRange ..) _ _, stopPointAxis_rule (transformAxis_inCoordRange ..) _ _⟩

/-- Settles O18: axis by axis. -/
theorem blocksAreWidenedRanges : Obligations.BlocksAreWidenedRanges := fun _ _ m f =>
  ⟨transform m f, _, _, _, rfl, rfl, rfl, rfl, axisRange_rule (transformAxis_inCoordRange ..) ..,
    axisRange_rule (transformAxis_inCoordRange ..) .., axisRange_rule (transformAxis_inCoordRange ..) ..⟩

/-- Settles O20: axis by axis; without a gap there is no velocity. -/
theorem velocityAndStopReachNeverUnderstate : Obligations.VelocityAndStopReachNeverUnderstate := by
  intro r t m f dec n
  refine ⟨⟨_, rfl, transformAxis_rule .., transformAxis_rule .., transformAxis_rule ..⟩, rfl, rfl, fun first => ?_,
    fun k p c gap hk old new => ?_, stopReachAxis_rule _ _ _ dec, stopReachAxis_rule _ _ _ dec, stopReachAxis_rule _ _ _ dec⟩
  · show velocityOf _ r.position f.gap = _
    rw [first]
    rfl
  · have velocity : n.velocity = velocityOf c (some p) (some k) := by
      rw [← Option.some.inj new, ← old, ← gap]
      rfl
    rw [velocity]
    exact ⟨velocityAxis_rule _ _ hk, velocityAxis_rule _ _ hk, velocityAxis_rule _ _ hk⟩
end

section
/-! SUPPORT. R51, R52: the indices of a coordinate range, and that a wider range has them too. R64, R66: the cells that a
linger sweep leaves. -/

namespace Sys2Proof.Machine

/-! ## Index ranges (R51) -/

theorem indexRange_of_below {lo hi : Int} (h : hi < 0) (p n : Nat) : indexRange lo hi p n = none :=
  if_pos h

theorem indexRange_of_above {lo hi : Int} {p n : Nat} (h : 0 ≤ lo ∧ n - 1 < lo.toNat / p) : indexRange lo hi p n = none := by
  unfold indexRange
  rw [if_pos h, ite_self]

theorem indexRange_of_meets {lo hi : Int} {p n : Nat} (low : 0 ≤ hi) (high : ¬ (0 ≤ lo ∧ n - 1 < lo.toNat / p)) :
    indexRange lo hi p n = some (if 0 ≤ lo then lo.toNat / p else 0, min (n - 1) (hi.toNat / p)) := by
  unfold indexRange
  rw [if_neg (not_lt_of_ge low), if_neg high]

/-- The index of a coordinate at or above 0 is the same quotient in the integers and in the natural numbers. -/
theorem toNat_div {x : Int} (h : 0 ≤ x) (p : Nat) : ((x.toNat / p : Nat) : Int) = x / p := by
  rw [Int.natCast_ediv, Int.toNat_of_nonneg h]

/-- The three cases as one, with the part below the grid counted to index 0. -/
theorem has_indexRange (lo hi : Int) (p n i : Nat) : (AxisRange.mk lo hi (indexRange lo hi p n)).has i = true ↔
    0 ≤ hi ∧ lo.toNat / p ≤ i ∧ i ≤ n - 1 ∧ i ≤ hi.toNat / p := by
  unfold AxisRange.has
  by_cases below : hi < 0
  · simp [indexRange_of_below below, below]
  by_cases above : 0 ≤ lo ∧ n - 1 < lo.toNat / p
  · simp only [indexRange_of_above above, Bool.false_eq_true, false_iff]
    omega
  · have first : (if 0 ≤ lo then lo.toNat / p else 0) = lo.toNat / p := by
      by_cases h : 0 ≤ lo
      · exact if_pos h
      · rw [if_neg h, Int.toNat_of_nonpos (by omega), Nat.zero_div]
    simp only [indexRange_of_meets (not_lt.mp below) above, within_iff, first, le_min_iff]
    omega

/-- R51: from the index at which lo lies to the index at which hi lies are those that the range touches: the coordinate that
touches index i is lo, or the index's own first coordinate where that lies further up. -/
theorem touched_iff {lo hi : Int} {p : Nat} (hp : 0 < p) (order : lo ≤ hi) (i : Nat) :
    (0 ≤ hi ∧ lo.toNat / p ≤ i ∧ i ≤ hi.toNat / p) ↔
      ∃ x : Int, lo ≤ x ∧ x ≤ hi ∧ (i : Int) * p ≤ x ∧ x < ((i : Int) + 1) * p := by
  have start : (0 : Int) ≤ (i : Int) * p := by positivity
  have next : ((i : Int) + 1) * p = (i : Int) * p + p := by ring
  rw [← Nat.lt_succ_iff, Nat.div_lt_iff_lt_mul hp, Nat.le_div_iff_mul_le hp, next]
  zify
  rw [next]
  constructor
  · rintro ⟨low, first, last⟩
    exact ⟨max lo ((i : Int) * p), by omega⟩
  · rintro ⟨x, hlo, hhi, first, last⟩
    omega

/-- R51: a wider range has every index of a narrower one. -/
theorem has_indexRange_mono {lo hi lo' hi' : Int} (hlo : lo' ≤ lo) (hhi : hi ≤ hi') {p n i : Nat}
    (h : (AxisRange.mk lo hi (indexRange lo hi p n)).has i = true) :
    (AxisRange.mk lo' hi' (indexRange lo' hi' p n)).has i = true := by
  rw [has_indexRange] at h ⊢
  obtain ⟨low, first, grid, last⟩ := h
  exact ⟨low.trans hhi, (Nat.div_le_div_right (Int.toNat_le_toNat hlo)).trans first, grid,
    last.trans (Nat.div_le_div_right (Int.toNat_le_toNat hhi))⟩

/-! ## The cells of the blocks (R52) -/

theorem blockHas_some (v : Block) (i : Nat) : blockHas (some v) i = true ↔
    v.x.has (columnOf i) = true ∧ v.y.has (rowOf i) = true ∧ v.z.has (tierOf i) = true := by
  simp only [blockHas, Bool.and_eq_true, and_assoc]

theorem axisRange_has_widened {c : Int} (q : Int) {h : BitVec 12} {p n i : Nat} (has : (axisRange c c h p n).has i = true) :
    (axisRange c q h p n).has i = true :=
  has_indexRange_mono (saturateCoord_mono (by omega)) (saturateCoord_mono (by omega)) has

/-- R52: the block at a position lies in the block from there to any stop point. -/
theorem blockBetween_has_widened {t : ZoneTable} {m : ArmFields} {c : Vec Int} (q : Vec Int) {i : Nat}
    (h : blockHas (some (blockBetween t m c c)) i = true) : blockHas (some (blockBetween t m c q)) i = true := by
  rw [blockHas_some] at h ⊢
  obtain ⟨hx, hy, hz⟩ := h
  exact ⟨axisRange_has_widened q.x hx, axisRange_has_widened q.y hy, axisRange_has_widened q.z hz⟩

/-! ## The linger sweep (R64) -/

theorem mapCells_eq_mapIdx (f : Nat → Cell → Cell) (n : Nat) (cs : List Cell) :
    mapCells f n cs = cs.mapIdx (fun i c => f (n + i) c) := by
  induction cs generalizing n with
  | nil => rfl
  | cons c cs ih => simp only [mapCells, ih, List.mapIdx_cons, Nat.add_zero, Nat.add_right_comm n 1, Nat.add_assoc]

/-- An operation over the cell records changes each record by its rule. -/
theorem State.putCells_mapCells_cell (s : State) (f : Nat → Cell → Cell) {i : Nat} (h : i < s.cells.length) :
    (s.putCells (mapCells f 0 s.cells)).cell i = f i (s.cell i) := by
  simp [State.cell, State.putCells, mapCells_eq_mapIdx, h]

theorem State.lingerSweep_cell (s : State) (arm : Arm) {i : Nat} (h : i < s.cells.length) :
    (s.lingerSweep arm).cell i = sweepCell arm (s.reach.get arm).sweep i (s.cell i) :=
  s.putCells_mapCells_cell _ h

theorem sweepCell_of_inSweep {sweep : Option Block} {i : Nat} (h : blockHas sweep i = true) (arm : Arm) (c : Cell) :
    sweepCell arm sweep i c = c := by
  simp [sweepCell, h]

theorem sweepCell_of_notLingering {arm : Arm} {c : Cell} (h : c.owner ≠ some arm ∨ c.linger = false) (sweep : Option Block)
    (i : Nat) : sweepCell arm sweep i c = c := by
  obtain other | held := h
  · simp [sweepCell, Cell.lingersFor, Cell.ownedBy, other]
  · simp [sweepCell, Cell.lingersFor, held]

end Sys2Proof.Machine

open Sys2Proof Sys2Proof.Machine

/-- Settles O19: the three cases of the conversion, and the indices that it holds as those that the range touches. -/
theorem indexRangeHoldsEveryTouchedIndex : Obligations.IndexRangeHoldsEveryTouchedIndex := by
  refine ⟨fun lo hi p n hp hn order => ?_, fun t m c q => ⟨rfl, rfl, rfl⟩⟩
  have last : ((n - 1 : Nat) : Int) = n - 1 := by omega
  have above : (0 ≤ lo ∧ (n : Int) - 1 < lo / p) ↔ (0 ≤ lo ∧ n - 1 < lo.toNat / p) :=
    and_congr_right fun low => by rw [← toNat_div low, ← last, Nat.cast_lt]
  refine ⟨fun below => indexRange_of_below below p n, fun h => indexRange_of_above (above.mp h), fun low high => ?_,
    fun i => ?_⟩
  · rw [indexRange_of_meets low (above.not.mp high), ← toNat_div low, ← last, ← Nat.cast_min, Int.toNat_natCast]
    split
    next h => rw [← toNat_div h, Int.toNat_natCast]
    next => rfl
  · rw [has_indexRange, ← touched_iff hp order]
    omega

/-- Settles O22: the envelope lies in the sweep block on each axis, and a sweep changes no cell of the sweep block. -/
theorem lingerSweepNeverUncovers : Obligations.LingerSweepNeverUncovers := by
  refine ⟨fun r t m f i h => blockBetween_has_widened _ h, fun s arm b cells inSweep covered =>
    ⟨fun i hi has => ?_, fun i hi h => ?_⟩⟩
  · rw [s.lingerSweep_cell arm (by omega), sweepCell_of_inSweep (inSweep i hi has)]
    exact covered i hi has
  · rw [s.lingerSweep_cell arm (by omega), sweepCell_of_notLingering h]
end

section
/-! SUPPORT. R57, R59, R61, R62, R64, R65: the operations of the claim table, cell by cell. -/

namespace Sys2Proof.Machine

/-- R57: an operation over the cell records touches the records and the tallies, which it brings up to date. -/
theorem State.putCells_cellsOnly (s : State) (cs : List Cell) : s.cellsOnly (s.putCells cs) := ⟨rfl, rfl⟩

theorem State.claim_cell (s : State) (arm : Arm) (inSet : Nat → Bool) {i : Nat} (h : i < s.cells.length) :
    (s.claim arm inSet).cell i = claimCell arm inSet i (s.cell i) :=
  s.putCells_mapCells_cell _ h

theorem State.release_cell (s : State) (arm : Arm) (inSet : Nat → Bool) {i : Nat} (h : i < s.cells.length) :
    (s.release arm inSet).cell i = releaseCell arm inSet (s.freesOnRelease arm) i (s.cell i) :=
  s.putCells_mapCells_cell _ h

theorem State.seize_cell (s : State) (arm : Arm) (excluded : Nat → Bool) {i : Nat} (h : i < s.cells.length) :
    (s.seize arm excluded).cell i = seizeCell arm (s.reach.get arm).envelope excluded i (s.cell i) :=
  s.putCells_mapCells_cell _ h

section
variable {arm : Arm} {inSet : Nat → Bool} {i : Nat} {c : Cell}

theorem releaseCell_outside (frees : Nat → Bool) (h : inSet i = false) : releaseCell arm inSet frees i c = c := by
  simp [releaseCell, h]

/-- R61: a held cell whose count stays above 0 keeps its owner and its clear mark. -/
theorem releaseCell_still_held (frees : Nat → Bool) (h : inSet i = true) (owner : c.owner = some arm) (count : 1 < c.count) :
    releaseCell arm inSet frees i c = { c with count := c.count - 1 } := by
  simp [releaseCell, h, Cell.ownedBy, owner, count, Nat.zero_lt_of_lt count]

/-- R62: a cell whose count comes to 0 is freed or left lingering. -/
theorem releaseCell_last (frees : Nat → Bool) (h : inSet i = true) (owner : c.owner = some arm) (count : c.count = 1) :
    releaseCell arm inSet frees i c = if frees i = true then ⟨none, 0, false⟩ else ⟨some arm, 0, true⟩ := by
  simp [releaseCell, h, Cell.ownedBy, owner, count, Cell.unowned]

theorem sweepCell_eq (sweep : Option Block) : sweepCell arm sweep i c =
    if c.owner = some arm ∧ c.linger = true ∧ blockHas sweep i = false then ⟨none, 0, false⟩ else c := by
  simp only [sweepCell, Cell.lingersFor, Cell.ownedBy, Cell.unowned, Bool.and_eq_true, decide_eq_true_eq,
    Bool.not_eq_true', and_assoc]

theorem seizeCell_eq (block : Option Block) (excluded : Nat → Bool) : seizeCell arm block excluded i c =
    if blockHas block i = true ∧ excluded i = false ∧ c.owner = none then ⟨some arm, 0, true⟩ else c := by
  simp only [seizeCell, Bool.and_eq_true, decide_eq_true_eq, Bool.not_eq_true', and_assoc]

end

theorem State.freesOnRelease_iff (s : State) (arm : Arm) (i : Nat) : s.freesOnRelease arm i = true ↔
    (s.feeds.get arm).state = .steady ∧ (s.reach.get arm).firstMark = false ∧ blockHas (s.reach.get arm).sweep i = false := by
  simp only [State.freesOnRelease, Bool.and_eq_true, decide_eq_true_eq, Bool.not_eq_true', and_assoc]

end Sys2Proof.Machine

open Sys2Proof Sys2Proof.Machine

/-- Settles O21: each operation passes over the records with the rule of its cell. -/
theorem cellOperationsChangeTheirCells : Obligations.CellOperationsChangeTheirCells := by
  intro s arm inSet
  refine ⟨s.putCells_cellsOnly _, s.putCells_cellsOnly _, s.putCells_cellsOnly _, s.putCells_cellsOnly _, fun i hi => ?_⟩
  dsimp only
  rw [s.claim_cell arm inSet hi, s.release_cell arm inSet hi, s.lingerSweep_cell arm hi, s.seize_cell arm inSet hi]
  refine ⟨rfl, releaseCell_outside _, releaseCell_still_held _, fun h owner count => ?_, sweepCell_eq _, seizeCell_eq _ _⟩
  rw [releaseCell_last _ h owner count]
  exact if_congr (s.freesOnRelease_iff arm i) rfl rfl
end

section
/-! SUPPORT. R56, R60, R61, R62, R65, R153: one cell record in agreement with the GRANTED traverses that hold it, and each
operation of the claim table as a rule that keeps the agreement. -/

namespace Sys2Proof.Machine

/-- R56, R60, R153: a cell record fits the number of GRANTED traverses of each arm that hold the cell, and has no owner where
none may own it. -/
structure Cell.Fits (c : Cell) (holders : Arm → Nat) (barred : Prop) : Prop where
  ok : c.Ok
  count : ∀ arm, c.owner = some arm → c.count = holders arm
  owner : ∀ arm, 0 < holders arm → c.owner = some arm
  barred : barred → c.owner = none

section
variable {c : Cell} {holders holders' : Arm → Nat} {barred : Prop} {arm : Arm} {i : Nat}

theorem Cell.Fits.unheld_of_unowned (h : c.Fits holders barred) (unowned : c.owner = none) (x : Arm) : holders x = 0 := by
  by_contra held
  simp [h.owner x (Nat.pos_of_ne_zero held)] at unowned

theorem Cell.Fits.unheld_other (h : c.Fits holders barred) (owner : c.owner = some arm) : holders arm.other = 0 := by
  by_contra held
  have other := h.owner arm.other (Nat.pos_of_ne_zero held)
  rw [owner] at other
  exact Side_other_ne arm (Option.some.inj other).symm

theorem Arm_eq_or_eq_other (x arm : Arm) : x = arm ∨ x = arm.other := by
  cases x <;> cases arm <;> decide

/-- A record of the arm's, held or lingering, fits where the counts of both arms do. -/
theorem Cell.Fits.of_owned {n : Nat} {linger : Bool} (mark : linger = true ↔ n = 0) (own : n = holders arm)
    (other : holders arm.other = 0) (free : ¬ barred) : Cell.Fits ⟨some arm, n, linger⟩ holders barred where
  ok := ⟨nofun, fun _ => mark⟩
  count := by
    rintro _ ⟨⟩
    exact own
  owner x held := by
    obtain rfl | rfl := Arm_eq_or_eq_other x arm
    · rfl
    · omega
  barred h := absurd h free

/-- R58: an unowned record fits where nothing holds the cell. -/
theorem Cell.Fits.of_unowned (unheld : ∀ x, holders x = 0) : Cell.Fits Cell.unowned holders barred where
  ok := ⟨fun _ => ⟨rfl, rfl⟩, fun h => absurd rfl h⟩
  count := nofun
  owner x held := by
    rw [unheld x] at held
    omega
  barred _ := rfl

theorem Cell.Fits.congr (h : c.Fits holders barred) (same : ∀ x, holders' x = holders x) : c.Fits holders' barred := by
  rwa [funext same]

theorem Arm_forall_iff {P : Arm → Prop} (arm : Arm) : (∀ x, P x) ↔ P arm ∧ P arm.other :=
  ⟨fun h => ⟨h _, h _⟩, fun ⟨own, other⟩ x => by obtain rfl | rfl := Arm_eq_or_eq_other x arm <;> assumption⟩

/-- R59: a claim of cells that are neither the other arm's nor barred adds a holder to each. -/
theorem Cell.Fits.claimed {inSet : Nat → Bool} (h : c.Fits holders barred)
    (free : inSet i = true → c.owner ≠ some arm.other ∧ ¬ barred)
    (own : holders' arm = holders arm + if inSet i = true then 1 else 0)
    (other : holders' arm.other = holders arm.other) : (claimCell arm inSet i c).Fits holders' barred := by
  unfold claimCell
  split
  · rename_i member
    obtain ⟨notOther, allowed⟩ := free member
    rw [if_pos member] at own
    have unheld : holders arm.other = 0 := by
      by_contra held
      exact notOther (h.owner _ (Nat.pos_of_ne_zero held))
    refine .of_owned (by simp) ?_ (other.trans unheld) allowed
    cases owner : c.owner with
    | none => rw [own, h.unheld_of_unowned owner, (h.ok.1 owner).1]
    | some x =>
      obtain rfl | rfl := Arm_eq_or_eq_other x arm
      · rw [own, h.count x owner]
      · exact absurd owner notOther
  · rename_i outside
    rw [if_neg outside] at own
    exact h.congr ((Arm_forall_iff arm).mpr ⟨own, other⟩)

/-- R61, R62: a release of cells that the arm's GRANTED traverses hold takes a holder from each. -/
theorem Cell.Fits.released {inSet frees : Nat → Bool} (h : c.Fits holders barred)
    (own : holders' arm + (if inSet i = true then 1 else 0) = holders arm)
    (other : holders' arm.other = holders arm.other) : (releaseCell arm inSet frees i c).Fits holders' barred := by
  cases member : inSet i with
  | false =>
    rw [releaseCell_outside _ member]
    exact h.congr ((Arm_forall_iff arm).mpr ⟨by simpa [member] using own, other⟩)
  | true =>
    rw [if_pos member] at own
    have owner := h.owner arm (by omega)
    have count := h.count arm owner
    have unheld := other.trans (h.unheld_other owner)
    have free : ¬ barred := fun b => by simp [h.barred b] at owner
    by_cases more : 1 < c.count
    · rw [releaseCell_still_held _ member owner more, owner]
      have mark := (h.ok.2 (by simp [owner])).not.mpr (by omega)
      exact .of_owned (by simp [mark]; omega) (by omega) unheld free
    · rw [releaseCell_last _ member owner (by omega)]
      have last : holders' arm = 0 := by omega
      split
      · exact .of_unowned ((Arm_forall_iff arm).mpr ⟨last, unheld⟩)
      · exact .of_owned (by simp) last.symm unheld free

/-- R64: a linger sweep frees cells that nothing holds. -/
theorem Cell.Fits.swept (h : c.Fits holders barred) (sweep : Option Block) : (sweepCell arm sweep i c).Fits holders barred := by
  rw [sweepCell_eq]
  split
  · rename_i lingers
    obtain ⟨owner, linger, -⟩ := lingers
    have count := (h.ok.2 (by simp [owner])).mp linger
    exact .of_unowned ((Arm_forall_iff arm).mpr ⟨(h.count arm owner).symm.trans count, h.unheld_other owner⟩)
  · exact h

/-- R65: a seize that excludes the barred cells takes unowned ones, which nothing holds. -/
theorem Cell.Fits.seized {block : Option Block} {excluded : Nat → Bool} (h : c.Fits holders barred)
    (free : blockHas block i = true → excluded i = false → ¬ barred) :
    (seizeCell arm block excluded i c).Fits holders barred := by
  rw [seizeCell_eq]
  split
  · rename_i taken
    obtain ⟨has, included, unowned⟩ := taken
    exact .of_owned (by simp) (h.unheld_of_unowned unowned arm).symm (h.unheld_of_unowned unowned _) (free has included)
  · exact h

end
end Sys2Proof.Machine
end

section
/-! SUPPORT. R77–R79, R82: one lane in order under the active table, and each change of a lane as a rule that keeps it so,
with what it does to the number of GRANTED traverses that hold a cell (R56). -/

namespace Sys2Proof.Machine

/-- R78: the slot's traverse is live. -/
abbrev Lane.live (l : Lane) (k : Slot) : Prop := (l.slots.get k).state = .waiting ∨ (l.slots.get k).state = .granted

/-- The zone list of the slot's traverse. -/
def Lane.zonesOf (l : Lane) (k : Slot) : Option (List Nat) := (l.slots.get k).traverse.map (fun tr => tr.zones)

/-- R78, R79, R82: the lane's own records agree; without a table it holds no live traverse, and with one it holds at most W
GRANTED ones and zone lists of the table's zones. -/
structure Lane.Fits (l : Lane) (arm : Arm) (table : Option ZoneTable) : Prop where
  ok : l.Ok
  noTable : table = none → l.waitingList = [] ∧ l.grantedList = []
  window : ∀ t, table = some t → l.grantedList.length ≤ (t.arms.get arm).w.toNat
  zones : ∀ t, table = some t → ∀ k, l.live k → ∀ zs, l.zonesOf k = some zs → t.ZonesOk zs

/-! ## Holders -/

theorem Lane.holds_iff (l : Lane) (t : ZoneTable) (i : Nat) (k : Slot) :
    l.holds t i k = true ↔ ∃ zs, l.zonesOf k = some zs ∧ t.setHas zs i = true := by
  unfold Lane.holds Lane.zonesOf
  cases (l.slots.get k).traverse <;> simp

theorem Lane.holds_eq_of_traverse {l : Lane} {k : Slot} {tr : Traverse} (h : (l.slots.get k).traverse = some tr)
    (t : ZoneTable) (i : Nat) : l.holds t i k = t.setHas tr.zones i := by
  simp [Lane.holds, h]

theorem Lane.holders_eq_countP (l : Lane) (t : ZoneTable) (i : Nat) :
    l.holders t i = l.grantedList.countP (l.holds t i) := List.countP_eq_length_filter.symm

/-- A change that leaves the granted list and the zones of its traverses leaves the holders of every cell. -/
theorem Lane.holders_congr {l l' : Lane} (granted : l'.grantedList = l.grantedList)
    (zones : ∀ k ∈ l.grantedList, l'.zonesOf k = l.zonesOf k) (t : ZoneTable) (i : Nat) : l'.holders t i = l.holders t i := by
  rw [Lane.holders_eq_countP, Lane.holders_eq_countP, granted]
  refine List.countP_congr fun k hk => ?_
  rw [Lane.holds_iff, Lane.holds_iff, zones k hk]

theorem Lane.holders_of_empty {l : Lane} (h : l.grantedList = []) (t : ZoneTable) (i : Nat) : l.holders t i = 0 := by
  simp [Lane.holders, h]

/-- R56: a cell in the cell set of a GRANTED traverse has a holder. -/
theorem Lane.holders_pos {l : Lane} {t : ZoneTable} {i : Nat} {k : Slot} (granted : k ∈ l.grantedList)
    (holds : l.holds t i k = true) : 0 < l.holders t i := by
  rw [Lane.holders_eq_countP]
  exact List.countP_pos_iff.mpr ⟨k, granted, holds⟩

/-! ## A slot whose traverse ends (R85, R86, R89, R93, R95, R97) -/

/-- The slot's state becomes `st` and the slot leaves its list. -/
def Lane.ended (l : Lane) (k : Slot) (st : SlotState) : Lane :=
  { l with
    waitingList := l.waitingList.filter (fun j => j != k)
    grantedList := l.grantedList.filter (fun j => j != k)
    slots := l.slots.set k.val { (l.slots.get k) with state := st } }

section
variable {l : Lane} {arm : Arm} {table : Option ZoneTable} (h : l.Fits arm table) (k : Slot)
include h

theorem Lane.Fits.ended {st : SlotState} (waiting : st ≠ .waiting) (granted : st ≠ .granted) :
    (l.ended k st).Fits arm table := by
  obtain ⟨⟨inWaiting, inGranted, nodupW, nodupG, held, unset⟩, noTable, window, zones⟩ := h
  refine ⟨⟨fun j => ?_, fun j => ?_, nodupW.filter _, nodupG.filter _, fun j live => ?_, fun next => ?_⟩, fun absent => ?_,
    fun t active => (List.length_filter_le _ _).trans (window t active), fun t active j live zs hz => ?_⟩
  · by_cases hj : j = k <;> simp [Lane.ended, Vector_get_set_slot, hj, inWaiting, waiting]
  · by_cases hj : j = k <;> simp [Lane.ended, Vector_get_set_slot, hj, inGranted, granted]
  · by_cases hj : j = k
    · simp [Lane.ended, Vector_get_set_slot, hj, waiting, granted] at live
    · simp only [Lane.ended, Vector_get_set_slot, hj, if_false] at live ⊢
      exact held j live
  · simp [Lane.ended, unset next]
  · simp [Lane.ended, noTable absent]
  · by_cases hj : j = k
    · simp [Lane.live, Lane.ended, Vector_get_set_slot, hj, waiting, granted] at live
    · simp only [Lane.live, Lane.zonesOf, Lane.ended, Vector_get_set_slot, hj, if_false] at live hz
      exact zones t active j live zs hz

end

/-- The traverse of an ended slot stays as it was (R77, log 24). -/
theorem Lane.ended_zonesOf (l : Lane) (k : Slot) (st : SlotState) (j : Slot) : (l.ended k st).zonesOf j = l.zonesOf j := by
  by_cases hj : j = k <;> simp [Lane.zonesOf, Lane.ended, Vector_get_set_slot, hj]

theorem Lane.filter_ne_of_notMem {ks : List Slot} {k : Slot} (h : k ∉ ks) : ks.filter (fun j => j != k) = ks :=
  List.filter_eq_self.mpr fun j hj => by
    simp only [bne_iff_ne]
    rintro rfl
    exact h hj

/-- R60: the end of a GRANTED traverse takes one holder from each cell of its set. -/
theorem Lane.holders_ended {l : Lane} (nodup : l.grantedList.Nodup) {k : Slot} (granted : k ∈ l.grantedList) (st : SlotState)
    (t : ZoneTable) (i : Nat) :
    (l.ended k st).holders t i + (if l.holds t i k = true then 1 else 0) = l.holders t i := by
  have same : (l.ended k st).holds t i = l.holds t i := by
    funext j
    rw [Bool.eq_iff_iff, Lane.holds_iff, Lane.holds_iff, Lane.ended_zonesOf]
  rw [Lane.holders_eq_countP, Lane.holders_eq_countP, same]
  show List.countP _ (l.grantedList.filter fun j => j != k) + _ = _
  rw [← nodup.erase_eq_filter, List.countP_erase]
  by_cases holds : l.holds t i k = true
  · have := List.countP_pos_iff.mpr ⟨k, granted, holds⟩
    simp only [granted, holds, and_self, if_true]
    omega
  · simp [holds]

/-! ## A POST taken (R83) -/

theorem insertByAhead_perm (dist : Slot → Nat) (k : Slot) (ks : List Slot) : (insertByAhead dist k ks).Perm (k :: ks) := by
  induction ks with
  | nil => exact .refl _
  | cons j ks ih =>
    unfold insertByAhead
    split
    · exact .refl _
    · exact (ih.cons j).trans (.swap k j ks)

/-- The slot holds a WAITING traverse and stands in the waiting list `ks`. -/
def Lane.posted (l : Lane) (k : Slot) (first : Word) (ks : List Slot) (tr : Traverse) : Lane :=
  { l with next := some first, waitingList := ks, slots := l.slots.set k.val ⟨.waiting, some tr⟩ }

theorem Lane.Fits.posted {l : Lane} {arm : Arm} {t : ZoneTable} (h : l.Fits arm (some t)) {k : Slot} (free : ¬ l.live k)
    (first : Word) {ks : List Slot} (perm : ks.Perm (k :: l.waitingList)) {tr : Traverse} (list : t.ZonesOk tr.zones) :
    (l.posted k first ks tr).Fits arm (some t) := by
  obtain ⟨⟨inWaiting, inGranted, nodupW, nodupG, held, unset⟩, -, window, zones⟩ := h
  obtain ⟨notWaiting, notGranted⟩ := not_or.mp free
  have outside : k ∉ l.waitingList := fun m => notWaiting ((inWaiting k).mp m)
  refine ⟨⟨fun j => ?_, fun j => ?_, perm.nodup_iff.mpr (List.nodup_cons.mpr ⟨outside, nodupW⟩), nodupG, fun j live => ?_, nofun⟩,
    nofun, window, fun t' active j live zs hz => ?_⟩
  · by_cases hj : j = k <;> simp [Lane.posted, Vector_get_set_slot, hj, perm.mem_iff, inWaiting]
  · by_cases hj : j = k <;> simp [Lane.posted, Vector_get_set_slot, hj, inGranted, notGranted]
  · by_cases hj : j = k
    · simp [Lane.posted, Vector_get_set_slot, hj]
    · simp only [Lane.posted, Vector_get_set_slot, hj, if_false] at live ⊢
      exact held j live
  · by_cases hj : j = k
    · simp only [Lane.zonesOf, Lane.posted, Vector_get_set_slot, hj, if_true, Option.map_some, Option.some.injEq] at hz
      cases active
      exact hz ▸ list
    · simp only [Lane.live, Lane.zonesOf, Lane.posted, Vector_get_set_slot, hj, if_false] at live hz
      exact zones t' active j live zs hz

theorem Lane.holders_posted {l : Lane} (ok : l.Ok) {k : Slot} (free : ¬ l.live k) (first : Word) (ks : List Slot) (tr : Traverse)
    (t : ZoneTable) (i : Nat) : (l.posted k first ks tr).holders t i = l.holders t i := by
  obtain ⟨-, inGranted, -⟩ := ok
  refine Lane.holders_congr (l' := l.posted k first ks tr) (l := l) rfl (fun j hj => ?_) t i
  have other : j ≠ k := by
    rintro rfl
    exact free (.inr ((inGranted j).mp hj))
  simp [Lane.zonesOf, Lane.posted, Vector_get_set_slot, other]

/-! ## A grant (R88) -/

/-- The waiting slot joins the granted list, and next expected advances. -/
def Lane.granted (l : Lane) (k : Slot) : Lane :=
  { l with
    next := l.next.map (fun n => n + 1)
    waitingList := l.waitingList.filter (fun j => j != k)
    grantedList := l.grantedList ++ [k]
    slots := l.slots.set k.val { (l.slots.get k) with state := .granted } }

theorem Lane.granted_zonesOf (l : Lane) (k j : Slot) : (l.granted k).zonesOf j = l.zonesOf j := by
  by_cases hj : j = k <;> simp [Lane.zonesOf, Lane.granted, Vector_get_set_slot, hj]

theorem Lane.Fits.granted {l : Lane} {arm : Arm} {t : ZoneTable} (h : l.Fits arm (some t)) {k : Slot} (waits : k ∈ l.waitingList)
    (room : l.grantedList.length < (t.arms.get arm).w.toNat) : (l.granted k).Fits arm (some t) := by
  obtain ⟨⟨inWaiting, inGranted, nodupW, nodupG, held, unset⟩, -, -, zones⟩ := h
  have waiting := (inWaiting k).mp waits
  have outside : k ∉ l.grantedList := fun m => by simp [(inGranted k).mp m] at waiting
  have wasLive : ∀ j, (l.granted k).live j → l.live j := fun j live => by
    by_cases hj : j = k
    · exact hj ▸ .inl waiting
    · simpa [Lane.live, Lane.granted, Vector_get_set_slot, hj] using live
  refine ⟨⟨fun j => ?_, fun j => ?_, nodupW.filter _, ?_, fun j live => ?_, fun next => ?_⟩, nofun, fun t' active => ?_,
    fun t' active j live zs hz => ?_⟩
  · by_cases hj : j = k <;> simp [Lane.granted, Vector_get_set_slot, hj, inWaiting]
  · by_cases hj : j = k <;> simp [Lane.granted, Vector_get_set_slot, hj, inGranted]
  · exact (List.perm_append_singleton k _).nodup_iff.mpr (List.nodup_cons.mpr ⟨outside, nodupG⟩)
  · have traverse := held j (wasLive j live)
    by_cases hj : j = k
    · subst hj
      simpa [Lane.granted, Vector_get_set_slot] using traverse
    · simpa [Lane.granted, Vector_get_set_slot, hj] using traverse
  · rw [(unset (by simpa [Lane.granted] using next)).1] at waits
    simp at waits
  · cases active
    simpa [Lane.granted] using room
  · rw [Lane.granted_zonesOf] at hz
    exact zones t' active j (wasLive j live) zs hz

/-- R59: a grant adds one holder to each cell of the traverse's set. -/
theorem Lane.holders_granted (l : Lane) (k : Slot) (t : ZoneTable) (i : Nat) :
    (l.granted k).holders t i = l.holders t i + if l.holds t i k = true then 1 else 0 := by
  have same : (l.granted k).holds t i = l.holds t i := by
    funext j
    rw [Bool.eq_iff_iff, Lane.holds_iff, Lane.holds_iff, Lane.granted_zonesOf]
  rw [Lane.holders_eq_countP, Lane.holders_eq_countP, same]
  show List.countP _ (l.grantedList ++ [k]) = _
  simp [List.countP_append, List.countP_cons]

/-! ## Changes that leave every slot's state and zones -/

/-- A change of next expected and of traverse figures beside the zones. -/
theorem Lane.Fits.of_same {l l' : Lane} {arm : Arm} {table : Option ZoneTable} (h : l.Fits arm table)
    (waiting : l'.waitingList = l.waitingList) (granted : l'.grantedList = l.grantedList)
    (state : ∀ k, (l'.slots.get k).state = (l.slots.get k).state) (same : ∀ k, l'.zonesOf k = l.zonesOf k)
    (unset' : l'.next = none → l.next = none) : l'.Fits arm table := by
  obtain ⟨⟨inWaiting, inGranted, nodupW, nodupG, held, unset⟩, noTable, window, zones⟩ := h
  have traverse : ∀ k, (l'.slots.get k).traverse.isSome = (l.slots.get k).traverse.isSome := fun k => by
    simpa [Lane.zonesOf] using congrArg Option.isSome (same k)
  refine ⟨⟨fun k => ?_, fun k => ?_, waiting ▸ nodupW, granted ▸ nodupG, fun k live => ?_, fun next => ?_⟩, fun absent => ?_,
    fun t active => granted ▸ window t active, fun t active k live zs hz => ?_⟩
  · rw [waiting, state, inWaiting]
  · rw [granted, state, inGranted]
  · rw [traverse, held k (by rwa [← state])]
  · rw [waiting, granted]
    exact unset (unset' next)
  · rw [waiting, granted]
    exact noTable absent
  · exact zones t active k (by rwa [Lane.live, ← state]) zs (same k ▸ hz)

/-- R89: next expected after a yield is none only where it was. -/
theorem Lane.Fits.afterYield {l : Lane} {arm : Arm} {table : Option ZoneTable} (h : l.Fits arm table) :
    l.afterYield.Fits arm table := by
  unfold Lane.afterYield
  split
  · exact h
  · rename_i k last
    refine h.of_same rfl rfl (fun _ => rfl) (fun _ => rfl) (fun next => ?_)
    obtain ⟨inWaiting, -, -, -, held, -⟩ := h.ok
    have traverse := held k (.inl ((inWaiting k).mp (List.mem_of_getLast? last)))
    simp only [Lane.numberOf, Option.map_eq_none_iff] at next
    simp [next] at traverse

theorem Lane.holders_afterYield (l : Lane) (t : ZoneTable) (i : Nat) : l.afterYield.holders t i = l.holders t i := by
  unfold Lane.afterYield
  split <;> rfl

/-! ## A lane with no live traverse (R95, R97, R98) -/

/-- Both lists are empty and no slot is WAITING or GRANTED. -/
structure Lane.Idle (l : Lane) : Prop where
  waiting : l.waitingList = []
  granted : l.grantedList = []
  slots : ∀ k, ¬ l.live k

theorem Lane.Idle.fits {l : Lane} (h : l.Idle) (arm : Arm) (table : Option ZoneTable) : l.Fits arm table where
  ok := by
    refine ⟨fun k => ?_, fun k => ?_, h.waiting ▸ List.nodup_nil, h.granted ▸ List.nodup_nil, fun k live => absurd live (h.slots k),
      fun _ => ⟨h.waiting, h.granted⟩⟩
    · simpa [h.waiting] using (not_or.mp (h.slots k)).1
    · simpa [h.granted] using (not_or.mp (h.slots k)).2
  noTable _ := ⟨h.waiting, h.granted⟩
  window _ _ := by simp [h.granted]
  zones _ _ k live := absurd live (h.slots k)

theorem Lane.reset_idle : Lane.reset.Idle where
  waiting := rfl
  granted := rfl
  slots := by decide

end Sys2Proof.Machine
end

section
/-! SUPPORT. R56, R57, R60, R78, R79, R153, R166: the claims in order, record by record and lane by lane, and the effects
that leave the lanes alone. -/

namespace Sys2Proof.Machine

/-- R56: how many GRANTED traverses of the arm hold the cell; none while no table is active. -/
def State.holders (s : State) (x : Arm) (i : Nat) : Nat :=
  match s.active with
  | none => 0
  | some t => (s.lanes.get x).holders t i

theorem State.holders_of_table {s : State} {t : ZoneTable} (h : s.active = some t) (x : Arm) (i : Nat) :
    s.holders x i = (s.lanes.get x).holders t i := by
  simp [State.holders, h]

theorem State.holders_of_noTable {s : State} (h : s.active = none) (x : Arm) (i : Nat) : s.holders x i = 0 := by
  simp [State.holders, h]

/-- R153: the cell is one that nobody may own: of the refill set while refill is GRANTED. -/
abbrev State.barred (s : State) (i : Nat) : Prop := s.refill.state = .granted ∧ s.refillCell i = true

/-- The claims in order: each cell record fits the lanes, and each lane the active table. -/
structure State.ClaimsSound (s : State) : Prop where
  records : s.cells.length = 1024
  tallies : s.talliesOk
  cells : ∀ i < 1024, (s.cell i).Fits (fun x => s.holders x i) (s.barred i)
  lanes : ∀ x, (s.lanes.get x).Fits x s.active
  table : ∀ t, s.active = some t → t.validate = none
  install : Install.Ok s.install

/-! ## The statement's terms -/

theorem State.forall_mem_cells {s : State} (hs : s.cells.length = 1024) {P : Cell → Prop} :
    (∀ c ∈ s.cells, P c) ↔ ∀ i < 1024, P (s.cell i) := by
  have record : ∀ i (hi : i < s.cells.length), s.cells[i] = s.cell i := fun i hi => (List.getD_eq_getElem _ _ hi).symm
  simp only [List.forall_mem_iff_getElem, record, hs]

theorem State.ClaimsSound.of_claimsOk {s : State} (claims : s.claimsOk) (refill : s.refillOk) : s.ClaimsSound := by
  obtain ⟨⟨records, cellsOk, tallies⟩, ⟨laneA, laneB⟩, ownership, install⟩ := claims
  rw [State.forall_mem_cells records] at cellsOk
  have ok : ∀ x, (s.lanes.get x).Ok := fun x => by cases x <;> assumption
  have barred : ∀ i < 1024, s.barred i → (s.cell i).owner = none := fun i hi b => refill b.1 i (records ▸ hi) b.2
  unfold State.ownershipOk at ownership
  split at ownership
  · rename_i absent
    obtain ⟨⟨listsA, listsB⟩, counts⟩ := ownership
    rw [State.forall_mem_cells records] at counts
    have empty : ∀ x, (s.lanes.get x).waitingList = [] ∧ (s.lanes.get x).grantedList = [] := fun x => by
      cases x <;> assumption
    exact ⟨records, tallies, fun i hi => ⟨cellsOk i hi, fun x _ => by rw [s.holders_of_noTable absent, counts i hi],
      fun x held => by simp [State.holders_of_noTable absent] at held, barred i hi⟩,
      fun x => ⟨ok x, fun _ => empty x, by simp [absent], by simp [absent]⟩, by simp [absent], install⟩
  · rename_i t active
    obtain ⟨valid, grantsA, grantsB⟩ := ownership
    have grants : ∀ x, s.grantsOk t x := fun x => by cases x <;> assumption
    refine ⟨records, tallies, fun i hi => ⟨cellsOk i hi, fun x => ?_, fun x => ?_, barred i hi⟩, fun x => ?_, ?_, install⟩
    · rw [State.holders_of_table active]
      exact ((grants x).2.2 i hi).1
    · rw [State.holders_of_table active]
      exact ((grants x).2.2 i hi).2
    · obtain ⟨window, zones, -⟩ := grants x
      refine ⟨ok x, by simp [active], fun t' e => ?_, fun t' e k live zs hz => ?_⟩ <;> cases active.symm.trans e
      · exact window
      · obtain ⟨tr, held, rfl⟩ := Option.map_eq_some_iff.mp hz
        exact zones k tr held live
    · rintro _ e
      cases active.symm.trans e
      exact valid

theorem State.ClaimsSound.claimsOk {s : State} (h : s.ClaimsSound) : s.claimsOk ∧ s.refillOk := by
  have cells := h.cells
  refine ⟨⟨⟨h.records, (State.forall_mem_cells h.records).mpr fun i hi => (cells i hi).ok, h.tallies⟩,
    ⟨(h.lanes .a).ok, (h.lanes .b).ok⟩, ?_, h.install⟩, fun granted i hi set => (cells i (h.records ▸ hi)).barred ⟨granted, set⟩⟩
  unfold State.ownershipOk
  split
  · rename_i absent
    refine ⟨⟨(h.lanes .a).noTable absent, (h.lanes .b).noTable absent⟩, (State.forall_mem_cells h.records).mpr fun i hi => ?_⟩
    cases owner : (s.cell i).owner with
    | none => exact ((cells i hi).ok.1 owner).1
    | some x => rw [(cells i hi).count x owner, State.holders_of_noTable absent]
  · rename_i t active
    have grants : ∀ x, s.grantsOk t x := fun x => by
      refine ⟨(h.lanes x).window t active, fun k tr held live => (h.lanes x).zones t active k live _ ?_, fun i hi => ?_⟩
      · rw [Lane.zonesOf, held]
        rfl
      · rw [← State.holders_of_table active]
        exact ⟨(cells i hi).count x, (cells i hi).owner x⟩
    exact ⟨h.table t active, grants .a, grants .b⟩

/-! ## What a change keeps -/

/-- What the claims are stated of. -/
def State.claimView (s : State) : List Cell × Pair Tally × Pair Lane × Refill × Install × Option ZoneTable :=
  (s.cells, s.tallies, s.lanes, s.refill, s.install, s.active)

/-- The change keeps the claims in order. -/
def State.ClaimsKept (s t : State) : Prop := s.ClaimsSound → t.ClaimsSound

theorem State.ClaimsKept.refl (s : State) : s.ClaimsKept s := id

theorem State.ClaimsKept.trans {s t u : State} (h : s.ClaimsKept t) (k : t.ClaimsKept u) : s.ClaimsKept u := k ∘ h

theorem State.ClaimsKept.foldl {α : Type} (g : State → α → State) (h : ∀ (s : State) (x : α), s.ClaimsKept (g s x)) (l : List α)
    (s : State) : s.ClaimsKept (l.foldl g s) := by
  induction l generalizing s with
  | nil => exact .refl s
  | cons x l ih => exact (h s x).trans (ih _)

theorem State.holders_congr {s t : State} (active : t.active = s.active) (lanes : t.lanes = s.lanes) (x : Arm) (i : Nat) :
    t.holders x i = s.holders x i := by
  rw [State.holders, State.holders, active, lanes]

theorem State.refillCell_congr {s t : State} (active : t.active = s.active) (i : Nat) : t.refillCell i = s.refillCell i := by
  rw [State.refillCell, State.refillCell, active]

theorem State.ClaimsKept.of_view {s t : State} (h : t.claimView = s.claimView) : s.ClaimsKept t := by
  simp only [State.claimView, Prod.mk.injEq] at h
  obtain ⟨cells, tallies, lanes, refill, install, active⟩ := h
  intro ok
  refine ⟨cells ▸ ok.records, ?_, fun i hi => ?_, ?_, active ▸ ok.table, install ▸ ok.install⟩
  · rw [State.talliesOk, tallies, cells]
    exact ok.tallies
  · rw [State.cell, State.barred, cells, refill, State.refillCell_congr active]
    exact ((ok.cells i hi).congr fun x => State.holders_congr active lanes x i)
  · rw [lanes, active]
    exact ok.lanes

/-- An operation that keeps each record in order keeps the claims. -/
theorem State.ClaimsSound.of_mapCells {s : State} (ok : s.ClaimsSound) {f : Nat → Cell → Cell}
    (h : ∀ i < 1024, (f i (s.cell i)).Fits (fun x => s.holders x i) (s.barred i)) :
    (s.putCells (mapCells f 0 s.cells)).ClaimsSound where
  records := by simp [State.putCells, mapCells_eq_mapIdx, ok.records]
  tallies := rfl
  cells i hi := by
    rw [s.putCells_mapCells_cell f (ok.records ▸ hi)]
    exact h i hi
  lanes := ok.lanes
  table := ok.table
  install := ok.install

/-- A change of one lane that leaves the holders of every cell. -/
theorem State.ClaimsSound.of_lane {s t : State} (ok : s.ClaimsSound) (arm : Arm)
    (rest : (t.cells, t.tallies, t.refill, t.install, t.active) = (s.cells, s.tallies, s.refill, s.install, s.active))
    (other : t.lanes.get arm.other = s.lanes.get arm.other) (fits : (t.lanes.get arm).Fits arm s.active)
    (holders : ∀ z i, s.active = some z → (t.lanes.get arm).holders z i = (s.lanes.get arm).holders z i) : t.ClaimsSound := by
  simp only [Prod.mk.injEq] at rest
  obtain ⟨cells, tallies, refill, install, active⟩ := rest
  refine ⟨cells ▸ ok.records, ?_, fun i hi => ?_, ?_, active ▸ ok.table, install ▸ ok.install⟩
  · rw [State.talliesOk, tallies, cells]
    exact ok.tallies
  · rw [State.cell, State.barred, cells, refill, State.refillCell_congr active]
    refine (ok.cells i hi).congr ((Arm_forall_iff arm).mpr ?_)
    cases table : s.active with
    | none => simp only [State.holders_of_noTable (active.trans table), State.holders_of_noTable table, and_self]
    | some z =>
      rw [State.holders_of_table (active.trans table), State.holders_of_table (active.trans table), State.holders_of_table table,
        State.holders_of_table table, other]
      exact ⟨holders z i table, rfl⟩
  · rw [active, Arm_forall_iff arm, other]
    exact ⟨fits, ok.lanes _⟩

end Sys2Proof.Machine
end

section
/-! SUPPORT. The claims in order through the effects that leave the lanes alone (R64, R65, R129, R138, R149, R166), and
through an install swap, which finds no cell owned and so no traverse GRANTED (R167, R168). -/

namespace Sys2Proof.Machine

/-! ## The cell records (R64, R65) -/

theorem State.lingerSweep_claimsKept (s : State) (arm : Arm) : s.ClaimsKept (s.lingerSweep arm) := fun ok =>
  ok.of_mapCells fun i hi => (ok.cells i hi).swept _

/-- R65, R153: a seize that takes no barred cell. -/
theorem State.seize_claimsKept {s : State} {arm : Arm} {excluded : Nat → Bool}
    (free : ∀ i < 1024, blockHas (s.reach.get arm).envelope i = true → excluded i = false → ¬ s.barred i) :
    s.ClaimsKept (s.seize arm excluded) := fun ok =>
  ok.of_mapCells fun i hi => (ok.cells i hi).seized (free i hi)

/-- R129: seating excludes the refill set while refill is GRANTED. -/
theorem State.seat_claimsKept (s : State) (arm : Arm) : s.ClaimsKept (s.seat arm) := by
  refine State.ClaimsKept.trans (State.seize_claimsKept fun i _ _ excluded barred => ?_) (.of_view rfl)
  obtain ⟨granted, set⟩ := barred
  simp [State.seatExcluded, State.rfgnt, granted, set] at excluded

/-- R137: an accepted CLEAR_STOP finds no refill-set cell in the envelope while the refill fence stands. -/
theorem State.clearStop_claimsKept {s : State} {arm : Arm} (held : s.stopHeld arm = none) : s.ClaimsKept (s.clearStop arm) := by
  intro ok
  have seized : s.ClaimsKept (s.seize arm fun _ => false) := State.seize_claimsKept fun i hi has _ barred => by
    obtain ⟨granted, set⟩ := barred
    have fence : s.refillFence = true := by simp [State.refillFence, granted]
    have meets : s.blockMeetsSet (s.reach.get arm).envelope s.refillCell = true :=
      (State.anyCell_iff ok.records _).mpr ⟨i, hi, by simp [has, set]⟩
    unfold State.stopHeld at held
    simp only [fence, meets, and_self, if_true] at held
    (repeat' split at held) <;> cases held
  exact seized.trans (.of_view (by simp [State.claimView, State.clearStop])) ok

/-! ## The refill interlock and the install record -/

/-- R149: the refill test's condition. -/
theorem State.owner_of_refillSetUnowned {s : State} (hs : s.cells.length = 1024) (h : s.refillSetUnowned = true) {i : Nat}
    (hi : i < 1024) (set : s.refillCell i = true) : (s.cell i).owner = none := by
  have unowned : ∀ arm, s.ownedIn arm s.refillCell = 0 → (s.cell i).owner ≠ some arm := fun arm uncounted owner => by
    have counted := countCells_eq_zero _ _ _ uncounted
    rw [← Bool.not_eq_true, State.anyCell_iff hs] at counted
    exact counted ⟨i, hi, by simp [set, Cell.ownedBy, owner]⟩
  simp only [State.refillSetUnowned, Bool.and_eq_true, decide_eq_true_eq] at h
  cases owner : (s.cell i).owner with
  | none => rfl
  | some arm =>
    cases arm with
    | a => exact absurd owner (unowned _ h.1)
    | b => exact absurd owner (unowned _ h.2)

/-- R149, R153: refill becomes GRANTED only over an unowned refill set. -/
theorem State.setRefill_claimsKept {s : State} {r : Refill}
    (h : r.state = .granted → s.refill.state = .granted ∨ s.refillSetUnowned = true) : s.ClaimsKept (s.setRefill r) := fun ok =>
  { ok with
    cells := fun i hi =>
      { (ok.cells i hi) with
        barred := fun ⟨granted, set⟩ => (h granted).elim (fun was => (ok.cells i hi).barred ⟨was, set⟩)
          (fun unowned => State.owner_of_refillSetUnowned ok.records unowned hi set) } }

theorem State.changeInstall_claimsKept {s : State} {i : Install} (h : Install.Ok s.install → Install.Ok i) :
    s.ClaimsKept (s.changeInstall i) := fun ok => { ok with install := h ok.install }

/-! ## The swap (R167, R168) -/

/-- R5, R19: a zone that ZONE_RANGE passes has a cell. -/
theorem Zone.exists_cell {z : Zone} (h : z.badRange = false) : ∃ i < 1024, z.contains i = true := by
  simp only [Zone.badRange, Bool.or_eq_false_iff, Bool.and_eq_false_iff, Bool.not_eq_false', decide_eq_false_iff_not] at h
  obtain ⟨⟨column, row⟩, tier⟩ := h
  obtain ⟨i, hi, hc, hr, ht, -⟩ := cell_of_place z.colLo.isLt z.rowLo.isLt
    (show (if z.wildZ = true then 0 else z.tierLo.toNat) < 4 by split <;> simp_all; omega)
  refine ⟨i, hi, z.contains_iff i |>.mpr ⟨?_, ?_, ?_⟩⟩
  · rw [hc]
    exact column.imp_right fun _ => by omega
  · rw [hr]
    exact row.imp_right fun _ => by omega
  · rw [ht]
    by_cases wild : z.wildZ = true
    · exact .inl wild
    · rw [if_neg wild]
      exact .inr ⟨le_rfl, not_lt.mp (tier.resolve_left wild).1⟩

/-- R18: no zone of a valid table is empty. -/
theorem ZoneTable.exists_cell_of_valid {t : ZoneTable} (valid : t.validate = none) {z : Nat} (hz : z < t.nz.toNat) :
    ∃ i < 1024, t.zoneHas z i = true := by
  have range : t.fails .zoneRange = false := by
    simpa using List.find?_eq_none.mp valid .zoneRange (by simp [Reason.order])
  have good : (t.zone z).badRange = false := by
    by_cases carried : z < t.zones.length
    · rw [ZoneTable.zone, List.getD_eq_getElem _ _ carried]
      refine Bool.eq_false_iff.mpr (List.any_eq_false.mp range _ ?_)
      exact List.mem_iff_getElem.mpr ⟨z, by simp [hz, carried], by simp⟩
    · rw [ZoneTable.zone, List.getD_eq_default _ _ (Nat.le_of_not_lt carried)]
      decide
  obtain ⟨i, hi, has⟩ := Zone.exists_cell good
  exact ⟨i, hi, t.zoneHas_iff z i |>.mpr ⟨hz, has⟩⟩

/-- R60, R83: where no cell has an owner no traverse is GRANTED, since each holds a cell. -/
theorem State.ClaimsSound.granted_of_unowned {s : State} (ok : s.ClaimsSound) (unowned : s.unowned) (x : Arm) :
    (s.lanes.get x).grantedList = [] := by
  have lane := ok.lanes x
  cases table : s.active with
  | none => exact (lane.noTable table).2
  | some t =>
    refine List.eq_nil_iff_forall_not_mem.mpr fun k granted => ?_
    obtain ⟨-, inGranted, -, -, held, -⟩ := lane.ok
    have live : (s.lanes.get x).live k := .inr ((inGranted k).mp granted)
    obtain ⟨tr, traverse⟩ := Option.isSome_iff_exists.mp (held k live)
    have zonesOf : (s.lanes.get x).zonesOf k = some tr.zones := by simp [Lane.zonesOf, traverse]
    obtain ⟨nonempty, named⟩ := lane.zones t table k live _ zonesOf
    obtain ⟨z, hz⟩ := List.exists_mem_of_ne_nil _ nonempty
    obtain ⟨i, hi, has⟩ := ZoneTable.exists_cell_of_valid (ok.table t table) (named z hz)
    have holds := (Lane.holds_iff _ t i k).mpr ⟨_, zonesOf, (t.setHas_iff _ i).mpr ⟨z, hz, has⟩⟩
    have owner := (ok.cells i hi).owner x (by rw [State.holders_of_table table]; exact Lane.holders_pos granted holds)
    simp [unowned i hi] at owner

/-- R97: a swap leaves a lane without GRANTED traverses idle, and the other lane as it was. -/
theorem State.swapLane_lanes {s : State} {arm : Arm} (h : ∀ k, (s.entry arm k).state ≠ .granted) :
    ((s.swapLane arm).lanes.get arm).Idle ∧ ∀ x, x ≠ arm → (s.swapLane arm).lanes.get x = s.lanes.get x := by
  have run := State.withdrawRun_lane arm .tableChanged ((s.lanes.get arm).slotsIn .waiting) s
  dsimp only at run
  obtain ⟨-, state⟩ := run
  unfold State.swapLane
  dsimp only
  rw [State.modLane_lanes, Pair_get_modify_same]
  refine ⟨⟨rfl, rfl, fun k => ?_⟩, fun x hx => by rw [Pair_get_modify_of_ne _ _ _ _ hx, withdrawRun_lanes_other arm x hx]⟩
  have slot := state k
  unfold State.entry at slot h
  simp only [Lane.mem_slotsIn] at slot
  by_cases waiting : ((s.lanes.get arm).slots.get k).state = .waiting
  · simp only [waiting, if_true] at slot
    simp [Lane.live, slot]
  · simp only [waiting, if_false] at slot
    simp [Lane.live, slot, waiting, h k]

theorem State.swapArm_lanes (s : State) (arm : Arm) : (s.swapArm arm).lanes = (s.swapLane arm).lanes := by
  simp [State.swapArm]

theorem State.swapArm_tallies (s : State) (arm : Arm) : (s.swapArm arm).tallies = s.tallies := by
  have withdrawn : ∀ (s : State) (k : Slot),
      ((s.endWaiting arm k .withdrawn).writeResult arm k .tableChanged none).tallies = s.tallies := by simp
  simp [State.swapArm, State.swapLane, State.foldl_keeps State.tallies _ withdrawn]

theorem State.swap_tallies (s : State) (t : ZoneTable) : (s.swap t).tallies = s.tallies := by
  simp [State.swap, State.swapArm_tallies]

/-- R97, R168: after a swap that finds no traverse GRANTED both lanes are idle. -/
theorem State.swap_idle {s : State} (h : ∀ x k, (s.entry x k).state ≠ .granted) (t : ZoneTable) (x : Arm) :
    ((s.swap t).lanes.get x).Idle := by
  obtain ⟨idleA, keptA⟩ := State.swapLane_lanes (h .a)
  have grantedB : ∀ k, ((s.swapArm .a).entry .b k).state ≠ .granted := fun k => by
    rw [State.entry, State.swapArm_lanes, keptA .b nofun]
    exact h .b k
  obtain ⟨idleB, keptB⟩ := State.swapLane_lanes grantedB
  have lanes : (s.swap t).lanes = ((s.swapArm .a).swapLane .b).lanes := by simp [State.swap, State.swapArm_lanes]
  rw [lanes]
  cases x with
  | a =>
    rw [keptB .a nofun, State.swapArm_lanes]
    exact idleA
  | b => exact idleB

/-- R168: a swap through an open gate. -/
theorem State.swap_claimsKept {s : State} {p : PendingTable} (pending : s.install.pendingTable = some p)
    (gate : s.gateOpen p.mask = true) : s.ClaimsKept (s.swap p.table) := by
  intro ok
  have unowned : s.unowned := State.unowned_of_gateOpen ok.tallies gate
  have idle : ∀ x, ((s.swap p.table).lanes.get x).Idle := State.swap_idle (fun x k granted => by
    obtain ⟨-, inGranted, -⟩ := (ok.lanes x).ok
    have member := (inGranted k).mpr granted
    simp [ok.granted_of_unowned unowned x] at member) p.table
  obtain ⟨-, -, -, tables⟩ := ok.install
  refine ⟨by rw [State.swap_cells, ok.records], ?_, fun i hi => ?_, fun x => (idle x).fits x _, fun t active => ?_, ?_⟩
  · rw [State.talliesOk, State.swap_tallies, State.swap_cells]
    exact ok.tallies
  · have free := unowned i hi
    rw [State.cell, State.swap_cells]
    refine ⟨(ok.cells i hi).ok, fun x owner => ?_, fun x held => ?_, fun _ => free⟩
    · exact absurd (free.symm.trans owner) nofun
    · rw [State.holders_of_table (State.swap_active s p.table), Lane.holders_of_empty (idle x).granted] at held
      exact absurd held (lt_irrefl 0)
  · cases (State.swap_active s p.table).symm.trans active
    exact (tables p pending).1
  · simp [State.swap, State.changeInstall, Install.Ok]

/-! ## Sequences of effects -/

/-- Every part but the lanes. -/
abbrev NoLane (p : Part) : Prop := ∀ arm, p ≠ .lane arm

/-- An effect that leaves the lanes alone, or a swap. -/
theorem Effect.claimsKept {s t : State} (e : Effect NoLane s t) : s.ClaimsKept t := by
  cases e with
  | seat arm => exact s.seat_claimsKept arm
  | clearStop arm _ _ held => exact State.clearStop_claimsKept held
  | sweep arm => exact s.lingerSweep_claimsKept arm
  | refill r _ h => exact (State.setRefill_claimsKept h).trans (.of_view rfl)
  | install i _ h => exact State.changeInstall_claimsKept h
  | swap p _ pending gate => exact State.swap_claimsKept pending gate
  | remaining arm _ _ h => exact absurd rfl (h arm)
  | endGranted arm _ h => exact absurd rfl (h arm)
  | endWaiting arm _ h => exact absurd rfl (h arm)
  | acceptPost arm _ _ _ h => exact absurd rfl (h arm)
  | yieldLane arm h => exact absurd rfl (h arm)
  | laneClear arm h => exact absurd rfl (h arm)
  | grant _ arm _ _ h => exact absurd rfl (h arm)
  | _ => exact .of_view (by simp [State.claimView])

theorem Effects.claimsKept {s t : State} (e : Effects NoLane s t) : s.ClaimsKept t := fun ok =>
  Effects.keeps (fun _ _ e => e.claimsKept) e ok

end Sys2Proof.Machine
end

section
/-! SUPPORT. The claims in order through each work of a lane: the end of a traverse, a POST, a grant, a yield, the countdown
and a restart (R82–R95). -/

namespace Sys2Proof.Machine

theorem noLane_arrivals : allowsArrivals NoLane := by simp [allowsArrivals, allowsFeed, NoLane]

theorem State.arriveWhen_claimsKept (s : State) (during : List Arrival) (p : Nat → Bool) :
    s.ClaimsKept (s.arriveWhen during p) := (s.arriveWhen_effects noLane_arrivals during p).claimsKept

theorem State.arriveAt_claimsKept (s : State) (during : List Arrival) (k : Nat) : s.ClaimsKept (s.arriveAt during k) :=
  s.arriveWhen_claimsKept during _

theorem State.arriveBetween_claimsKept (s : State) (during : List Arrival) (lo hi : Nat) :
    s.ClaimsKept (s.arriveBetween during lo hi) := s.arriveWhen_claimsKept during _

theorem State.arriveWhen_lanes (s : State) (during : List Arrival) (p : Nat → Bool) :
    (s.arriveWhen during p).lanes = s.lanes :=
  State.arriveWhen_keeps State.lanes (fun s e => State.arrive_lanes s e) s during p

/-! ## A WAITING traverse that ends (R86, R89, R95, R97) -/

theorem State.endWaiting_lanes_other (s : State) {arm x : Arm} (h : x ≠ arm) (k : Slot) (st : SlotState) :
    (s.endWaiting arm k st).lanes.get x = s.lanes.get x := by
  simp [State.endWaiting, State.dropWaiting, State.writeSlotState, State.setEntry, Pair_get_modify_of_ne _ _ _ _ h]

theorem State.endWaiting_claimsKept {s : State} {arm : Arm} {k : Slot} {st : SlotState}
    (waiting : (s.entry arm k).state = .waiting) (ends : st ≠ .waiting ∧ st ≠ .granted) :
    s.ClaimsKept (s.endWaiting arm k st) := by
  intro ok
  obtain ⟨-, inGranted, -⟩ := (ok.lanes arm).ok
  have outside : k ∉ (s.lanes.get arm).grantedList := fun m => by
    simp [State.entry, (inGranted k).mp m] at waiting
  have kept := Lane.filter_ne_of_notMem outside
  have lane : (s.endWaiting arm k st).lanes.get arm = (s.lanes.get arm).ended k st := by
    rw [State.endWaiting_lane, Lane.ended, kept]
  refine ok.of_lane arm (by simp) (s.endWaiting_lanes_other (Side_other_ne arm) k st) ?_ fun t i _ => ?_
  · rw [lane]
    exact (ok.lanes arm).ended k ends.1 ends.2
  · rw [lane]
    exact Lane.holders_congr (l := s.lanes.get arm) (l' := (s.lanes.get arm).ended k st) kept
      (fun j _ => Lane.ended_zonesOf _ k st j) t i

/-- Ending WAITING traverses one after another, each with work that the claims do not see. -/
theorem State.endRun_claimsKept {arm : Arm} {st : SlotState} (ends : st ≠ .waiting ∧ st ≠ .granted)
    {after : State → Slot → State} (view : ∀ x k, (after x k).claimView = x.claimView) {ks : List Slot} (nodup : ks.Nodup)
    {s : State} (waiting : ∀ k ∈ ks, (s.entry arm k).state = .waiting) :
    s.ClaimsKept (ks.foldl (fun x k => after (x.endWaiting arm k st) k) s) := by
  induction ks generalizing s with
  | nil => exact .refl s
  | cons k ks ih =>
    obtain ⟨first, rest⟩ := List.nodup_cons.mp nodup
    have ended := State.endWaiting_claimsKept (waiting k (by simp)) ends
    refine State.ClaimsKept.trans (ended.trans (.of_view (view _ k))) (ih rest fun j hj => ?_)
    have lanes : (after (s.endWaiting arm k st) k).lanes = (s.endWaiting arm k st).lanes :=
      congrArg (fun v => v.2.2.1) (view _ k)
    have other : j ≠ k := fun e => first (e ▸ hj)
    rw [State.entry, lanes, State.endWaiting_lane, Vector_get_set_slot, if_neg other]
    exact waiting j (by simp [hj])

/-- R95, R97: a run of withdrawals. -/
theorem State.withdrawRun_claimsKept (s : State) (arm : Arm) (r : SlotResult) :
    s.ClaimsKept (((s.lanes.get arm).slotsIn .waiting).foldl
      (fun s k => (s.endWaiting arm k .withdrawn).writeResult arm k r none) s) :=
  State.endRun_claimsKept (st := .withdrawn) ⟨nofun, nofun⟩ (after := fun x k => x.writeResult arm k r none) (fun _ _ => rfl)
    (Lane.slotsIn_nodup _ _) (fun _ => (Lane.mem_slotsIn _ _ _).mp)

/-- R89: a yield. -/
theorem State.yieldLane_claimsKept (s : State) (arm : Arm) : s.ClaimsKept (s.yieldLane arm) := by
  intro ok
  obtain ⟨inWaiting, -, nodup, -⟩ := (ok.lanes arm).ok
  have moved : (s.modLane arm Lane.afterYield).ClaimsSound := ok.of_lane arm rfl (by simp) (by simpa using (ok.lanes arm).afterYield)
    fun t i _ => by simpa using Lane.holders_afterYield _ t i
  have slots : (s.lanes.get arm).afterYield.slots = (s.lanes.get arm).slots := by
    unfold Lane.afterYield
    split <;> rfl
  refine State.endRun_claimsKept (st := .yielded) ⟨nofun, nofun⟩ (after := fun x _ => x) (fun _ _ => rfl) nodup (fun k hk => ?_) moved
  rw [State.entry, State.modLane_lanes, Pair_get_modify_same, slots]
  exact (inWaiting k).mp hk

/-! ## A GRANTED traverse that ends (R85, R93, R95) -/

theorem State.endGranted_lanes_other (s : State) {arm x : Arm} (h : x ≠ arm) (k : Slot) :
    (s.endGranted arm k).lanes.get x = s.lanes.get x := by
  simp [State.endGranted, State.dropGranted, State.writeSlotState, State.setEntry, Pair_get_modify_of_ne _ _ _ _ h]

/-- R60, R61: a GRANTED traverse that ends gives up its holding of each cell of its set. -/
theorem State.endGranted_claimsKept {s : State} {arm : Arm} {k : Slot} (granted : k ∈ (s.lanes.get arm).grantedList) :
    s.ClaimsKept (s.endGranted arm k) := by
  intro ok
  have lane := ok.lanes arm
  obtain ⟨inWaiting, inGranted, -, nodup, held, -⟩ := lane.ok
  have state := (inGranted k).mp granted
  obtain ⟨tr, traverse⟩ := Option.isSome_iff_exists.mp (held k (.inr state))
  obtain ⟨t, table⟩ : ∃ t, s.active = some t := Option.ne_none_iff_exists'.mp fun absent => by
    simp [(lane.noTable absent).2] at granted
  have outside : k ∉ (s.lanes.get arm).waitingList := fun m => by simp [(inWaiting k).mp m] at state
  have ended : (s.endGranted arm k).lanes.get arm = (s.lanes.get arm).ended k .done := by
    rw [State.endGranted_lane, Lane.ended, Lane.filter_ne_of_notMem outside]
  have other := s.endGranted_lanes_other (Side_other_ne arm) k
  have table' : (s.endGranted arm k).active = some t := by simp [table]
  have release : s.endGranted arm k =
      ((s.writeSlotState arm k .done).dropGranted arm k).release arm (t.setHas tr.zones) := by
    simp [State.endGranted, State.releaseTraverse, table, State.entry, traverse]
  have cells : ((s.writeSlotState arm k .done).dropGranted arm k).cells = s.cells := by simp
  refine ⟨?_, ?_, fun i hi => ?_, ?_, ?_, ?_⟩
  · simp [release, State.release, State.putCells, mapCells_eq_mapIdx, ok.records]
  · rw [release]
    rfl
  · have hc : ((s.writeSlotState arm k .done).dropGranted arm k).cell i = s.cell i := congrArg (·.getD i Cell.unowned) cells
    have counted := Lane.holders_ended nodup granted .done t i
    rw [Lane.holds_eq_of_traverse traverse] at counted
    rw [State.barred, State.refillCell_congr (table'.trans table.symm), State.endGranted_refill]
    have fits := ok.cells i hi
    rw [release, State.release_cell _ arm _ (by rw [cells, ok.records]; exact hi), hc, ← release]
    refine fits.released ?_ ?_ <;> simp only [State.holders_of_table table, State.holders_of_table table', ended, other]
    exact counted
  · rw [table', ← table, Arm_forall_iff arm, ended, other]
    exact ⟨lane.ended k nofun nofun, ok.lanes _⟩
  · rw [table', ← table]
    exact ok.table
  · rw [State.endGranted_install]
    exact ok.install

/-- R92: a step of the countdown leaves the traverse's zones. -/
theorem State.writeRemaining_claimsKept (s : State) (arm : Arm) (k : Slot) (n : Nat) :
    s.ClaimsKept (s.writeRemaining arm k n) := by
  intro ok
  have lane : (s.writeRemaining arm k n).lanes.get arm =
      { (s.lanes.get arm) with
        slots := (s.lanes.get arm).slots.set k.val { ((s.lanes.get arm).slots.get k) with
          traverse := ((s.lanes.get arm).slots.get k).traverse.map (fun tr => { tr with remaining := n }) } } := by
    simp [State.writeRemaining, State.setEntry, State.writeWord, State.entry]
  have zones : ∀ j, ((s.writeRemaining arm k n).lanes.get arm).zonesOf j = (s.lanes.get arm).zonesOf j := fun j => by
    rw [lane]
    by_cases hj : j = k <;> simp [Lane.zonesOf, Vector_get_set_slot, hj, Function.comp_def]
  refine ok.of_lane arm rfl (by simp [State.writeRemaining, State.setEntry, State.writeWord]) ?_ fun t i _ =>
    Lane.holders_congr (by rw [lane]) (fun j _ => zones j) t i
  refine (ok.lanes arm).of_same (by rw [lane]) (by rw [lane]) (fun j => ?_) zones (fun next => by rwa [lane] at next)
  rw [lane]
  by_cases hj : j = k <;> simp [Vector_get_set_slot, hj]

/-- R92, R93: the countdown. -/
theorem State.countdown_claimsKept (s : State) (arm : Arm) (gap : Option Nat) : s.ClaimsKept (s.countdown arm gap) := by
  unfold State.countdown
  split
  · rename_i k tr n slot _
    split
    · dsimp only
      split
      · refine (s.writeRemaining_claimsKept arm k _).trans (State.endGranted_claimsKept ?_)
        have granted : k ∈ (s.lanes.get arm).grantedList := List.mem_of_head? slot
        simpa [State.writeRemaining, State.setEntry, State.writeWord] using granted
      · exact s.writeRemaining_claimsKept arm k _
    · exact .refl s
  · exact .refl s

/-! ## A lane restart (R95) -/

theorem releaseRun_claimsKept (during : List Arrival) (arm : Arm) {ks : List Slot} (nodup : ks.Nodup) (point : Nat) {s : State}
    (granted : (s.lanes.get arm).grantedList = ks) : s.ClaimsKept (releaseRun during arm point ks s) := by
  induction ks generalizing point s with
  | nil => exact .refl s
  | cons k ks ih =>
    have lanes := s.arriveWhen_lanes during (fun j => decide (j = point))
    have ended : (s.arriveAt during point).ClaimsKept ((s.arriveAt during point).endGranted arm k) :=
      State.endGranted_claimsKept (by rw [State.arriveAt, lanes, granted]; simp)
    refine State.ClaimsKept.trans (((s.arriveAt_claimsKept during point).trans ended).trans (.of_view ?_))
      (ih (List.nodup_cons.mp nodup).2 (point + 1) ?_)
    · rfl
    · rw [State.writeResult_lanes, State.endGranted_lane, State.arriveAt, lanes, granted]
      exact List_filter_ne_of_nodup k ks nodup

/-- A lane without live traverses becomes UNSET. -/
theorem State.clearLane_claimsKept {s : State} {arm : Arm} (waiting : ∀ k, (s.entry arm k).state ≠ .waiting)
    (granted : (s.lanes.get arm).grantedList = []) :
    s.ClaimsKept (s.modLane arm (fun l => { l with next := none, waitingList := [], grantedList := [] })) := by
  intro ok
  obtain ⟨-, inGranted, -⟩ := (ok.lanes arm).ok
  have idle : Lane.Idle { (s.lanes.get arm) with next := none, waitingList := [], grantedList := [] } := by
    refine ⟨rfl, rfl, fun k live => live.elim (waiting k) fun g => ?_⟩
    have member := (inGranted k).mpr g
    simp [granted] at member
  refine ok.of_lane arm rfl (by simp) ?_ fun t i _ => ?_
  · simpa using idle.fits arm s.active
  · rw [Lane.holders_of_empty granted, Lane.holders_of_empty (by simp)]

theorem State.restartLane_claimsKept (s : State) (during : List Arrival) (point : Nat) (arm : Arm) :
    s.ClaimsKept (s.restartLane during point arm) := by
  intro ok
  obtain ⟨-, -, -, nodup, -⟩ := (ok.lanes arm).ok
  obtain ⟨granted, state⟩ := State.withdrawRun_lane arm .restarted ((s.lanes.get arm).slotsIn .waiting) s
  have withdrawn := s.withdrawRun_claimsKept arm .restarted
  unfold State.restartLane
  dsimp only
  generalize ((s.lanes.get arm).slotsIn .waiting).foldl _ s = x at granted state withdrawn
  obtain ⟨emptied, waiting⟩ := releaseRun_lane during arm (s.lanes.get arm).grantedList point x granted nodup
  have released := releaseRun_claimsKept during arm nodup point granted
  generalize releaseRun during arm point (s.lanes.get arm).grantedList x = y at emptied waiting released
  have noWaiting : ∀ k, (y.entry arm k).state ≠ .waiting := fun k hk => by
    have was := waiting k hk
    rw [state k] at was
    split at was
    · cases was
    · rename_i out
      exact out ((Lane.mem_slotsIn _ _ k).mpr was)
  have cleared := State.clearLane_claimsKept noWaiting emptied (released (withdrawn ok))
  have absorbed := State.ClaimsKept.foldl _ (fun z k => (State.absorbSlot_effects z arm k).claimsKept) slotOrder _ cleared
  exact State.ClaimsKept.of_view (by simp [State.claimView]) absorbed

end Sys2Proof.Machine
end

section
/-! SUPPORT. The claims in order through a POST, a grant and the services, and so through every step. -/

namespace Sys2Proof.Machine

/-! ## A POST (R82, R83) -/

/-- R82: what a POST that nothing refuses has found. -/
theorem State.of_postRefusal_none {s : State} {arm : Arm} {k : Slot} {q : SlotRequest} (h : s.postRefusal arm k q = none) :
    ¬ (s.lanes.get arm).live k ∧ ∃ t, s.active = some t ∧ q.zoneCount ≠ 0 ∧ ∀ z ∈ q.zones, z < t.nz.toNat := by
  unfold State.postRefusal at h
  dsimp only at h
  split at h
  · cases h
  rename_i free
  refine ⟨free, ?_⟩
  split at h
  · cases h
  split at h
  · cases h
  rename_i t table
  refine ⟨t, table, ?_⟩
  split at h
  · cases h
  split at h
  · cases h
  rename_i list
  simp only [List.any_eq_true, decide_eq_true_eq, not_or, not_exists, not_and, Nat.not_le] at list
  exact ⟨list.1, list.2.2⟩

/-- R75: a request half whose zone count is not 0 names a zone. -/
theorem SlotRequest.zones_ne_nil {ws : List Word} (h : (SlotRequest.ofWords ws).zoneCount ≠ 0) :
    (SlotRequest.ofWords ws).zones ≠ [] := by
  simpa [SlotRequest.ofWords, zoneBytes] using h

theorem SlotRequest.traverse_zones (q : SlotRequest) : q.traverse.zones = q.zones := by
  unfold SlotRequest.traverse
  split <;> rfl

theorem State.acceptPost_lanes (s : State) (arm : Arm) (k : Slot) (q : SlotRequest) (tag : Byte) :
    ∃ first dist, (s.acceptPost arm k q tag).lanes.get arm =
        (s.lanes.get arm).posted k first (insertByAhead dist k (s.lanes.get arm).waitingList) q.traverse ∧
      (s.acceptPost arm k q tag).lanes.get arm.other = s.lanes.get arm.other := by
  refine ⟨((s.lanes.get arm).next).getD q.number,
    Lane.aheadOf { (s.lanes.get arm) with
      slots := (s.lanes.get arm).slots.set k.val { ((s.lanes.get arm).slots.get k) with traverse := some q.traverse } }
      (((s.lanes.get arm).next).getD q.number), ?_, ?_⟩
  · simp [State.acceptPost, State.writeRemaining, State.writeSlotState, State.setEntry, State.writeWord, State.writeWords,
      State.entry, Lane.posted, Vector_get_set_slot]
  · simp [State.acceptPost, State.writeRemaining, State.writeSlotState, State.setEntry, State.writeWord, State.writeWords]

/-- R83: a POST taken from a request half. -/
theorem State.acceptPost_claimsKept {s : State} {arm : Arm} {k : Slot} {ws : List Word} (tag : Byte)
    (taken : s.postRefusal arm k (.ofWords ws) = none) : s.ClaimsKept (s.acceptPost arm k (.ofWords ws) tag) := by
  intro ok
  obtain ⟨free, t, table, count, named⟩ := State.of_postRefusal_none taken
  obtain ⟨first, dist, own, other⟩ := s.acceptPost_lanes arm k (.ofWords ws) tag
  refine ok.of_lane arm (by simp) other ?_ fun t i _ => ?_
  · rw [own, table]
    refine (table ▸ ok.lanes arm).posted free first (insertByAhead_perm dist k _) ?_
    rw [SlotRequest.traverse_zones]
    exact ⟨SlotRequest.zones_ne_nil count, named⟩
  · rw [own]
    exact Lane.holders_posted (ok.lanes arm).ok free first _ _ t i

theorem State.refuseCommand_claimsKept (s : State) (arm : Arm) (k : Slot) (r : SlotReason) (tag : Byte) :
    s.ClaimsKept (s.refuseCommand arm k r tag) := (s.refuseCommand_effects arm k r tag).claimsKept

/-- R80: a command taken from a request half. -/
theorem State.takeCommand_claimsKept (s : State) (arm : Arm) (k : Slot) (ws : List Word) (tag : Byte) :
    s.ClaimsKept (s.takeCommand arm k (.ofWords ws) tag) := by
  have answered : ∀ x : State, x.ClaimsKept ((x.writeResult arm k .taken none).writeTag arm k tag) := fun _ => .of_view rfl
  have granted : (s.entry arm k).state = .granted → s.ClaimsKept (s.endGranted arm k) := fun state ok => by
    obtain ⟨-, inGranted, -⟩ := (ok.lanes arm).ok
    exact State.endGranted_claimsKept ((inGranted k).mpr state) ok
  unfold State.takeCommand
  split
  · unfold State.takePost
    split
    · exact s.refuseCommand_claimsKept arm k _ tag
    · rename_i taken
      exact State.acceptPost_claimsKept tag taken
  · unfold State.takeFinish
    split
    case h_1 state => exact (granted state).trans (answered _)
    all_goals exact s.refuseCommand_claimsKept arm k _ tag
  · unfold State.takeWithdraw
    split
    case h_1 state => exact (State.endWaiting_claimsKept (st := .withdrawn) state ⟨nofun, nofun⟩).trans (answered _)
    case h_2 state => exact (granted state).trans (answered _)
    all_goals exact s.refuseCommand_claimsKept arm k _ tag
  · exact s.refuseCommand_claimsKept arm k _ tag

theorem State.intakeLane_claimsKept (s : State) (during : List Arrival) (arm : Arm) :
    s.ClaimsKept (s.intakeLane during arm) := by
  refine .foldl _ (fun s k => ?_) _ s
  have read := (readRecord_effects noLane_arrivals s during (visitPoint arm k) (slotBase arm k) (slotBase arm k + 8) 8).claimsKept
  unfold State.visitSlot
  dsimp only
  split
  · exact read.trans (State.takeCommand_claimsKept _ arm k _ _)
  · exact read

/-! ## A grant (R106–R111) -/

/-- R106: the finding is no grantable head, or one that may be granted in this state. -/
def Finding.Fits (f : Finding) (s : State) (t : ZoneTable) (arm : Arm) : Prop :=
  ∀ k tr, f = .grantable k tr →
    (s.lanes.get arm).head = some k ∧ ((s.lanes.get arm).slots.get k).traverse = some tr ∧
      (s.lanes.get arm).grantedList.length < (t.arms.get arm).w.toNat ∧
      (s.refillFence = true → ∀ i < s.cells.length, t.setHas tr.zones i = true → t.refillHas i = false)

theorem State.find_fits (s : State) (t : ZoneTable) (arm : Arm) : (s.find t s.refillFence arm).Fits s t arm := by
  intro k tr found
  obtain ⟨head, traverse, clear⟩ := (State.find_grantable s t _ arm k tr).mp found
  obtain ⟨-, room, -, refill, -⟩ := (State.blockerOf_none s t _ arm tr).mp clear
  exact ⟨head, traverse, room, refill⟩

theorem Finding.Fits.lose {f g : Finding} {s : State} {t : ZoneTable} {arm : Arm} (h : f.Fits s t arm)
    (settled : g = f ∨ g = f.lose) : g.Fits s t arm := by
  obtain rfl | rfl := settled
  · exact h
  · exact fun k tr found => absurd found (Finding.lose_ne_grantable f k tr)

/-- A finding stays good while the lane, the refill fence and the number of records stand. -/
theorem Finding.Fits.congr {f : Finding} {s s' : State} {t : ZoneTable} {arm : Arm} (h : f.Fits s t arm)
    (lane : s'.lanes.get arm = s.lanes.get arm) (refill : s'.refill = s.refill) (cells : s'.cells.length = s.cells.length) :
    f.Fits s' t arm := by
  unfold Finding.Fits State.refillFence
  rw [lane, refill, cells]
  exact h

theorem State.grant_lane {s : State} {t : ZoneTable} {arm : Arm} {k : Slot} {tr : Traverse}
    (claimable : s.claimable arm (t.setHas tr.zones) = true) :
    (s.grant t arm k tr).lanes.get arm = (s.lanes.get arm).granted k := by
  simp [State.grant, claimable, State.writeSlotState, State.setEntry, State.writeWord, State.entry, Lane.granted]

theorem State.grant_claim {s : State} {t : ZoneTable} {arm : Arm} {k : Slot} {tr : Traverse}
    (claimable : s.claimable arm (t.setHas tr.zones) = true) :
    (s.grant t arm k tr).cells = (s.claim arm (t.setHas tr.zones)).cells ∧
      (s.grant t arm k tr).tallies = (s.claim arm (t.setHas tr.zones)).tallies := by
  simp [State.grant, claimable, State.writeWord]

theorem State.grant_cells_length (s : State) (t : ZoneTable) (arm : Arm) (k : Slot) (tr : Traverse) :
    (s.grant t arm k tr).cells.length = s.cells.length := by
  by_cases claimable : s.claimable arm (t.setHas tr.zones) = true
  · rw [(State.grant_claim claimable).1]
    simp [State.claim, State.putCells, mapCells_eq_mapIdx]
  · simp [State.grant, claimable]

/-- R59, R111: the traverse granted becomes a holder of each cell of its set, none of which is the other arm's or barred. -/
theorem State.grant_claimsKept {s : State} {t : ZoneTable} {arm : Arm} {k : Slot} {tr : Traverse} (table : s.active = some t)
    (fits : (Finding.grantable k tr).Fits s t arm) : s.ClaimsKept (s.grant t arm k tr) := by
  intro ok
  by_cases claimable : s.claimable arm (t.setHas tr.zones) = true
  swap
  · simpa [State.grant, claimable] using ok
  obtain ⟨head, traverse, room, refill⟩ := fits k tr rfl
  have waits : k ∈ (s.lanes.get arm).waitingList := by
    unfold Lane.head at head
    split at head
    · cases head
    · exact List.mem_of_find?_eq_some head
  have own := State.grant_lane (k := k) claimable
  have other := s.grant_lanes_other t arm k tr
  obtain ⟨cells, tallies⟩ := State.grant_claim (k := k) claimable
  have table' : (s.grant t arm k tr).active = some t := by rw [State.grant_active, table]
  refine ⟨by rw [State.grant_cells_length, ok.records], ?_, fun i hi => ?_, ?_, ?_, ?_⟩
  · rw [State.talliesOk, tallies, cells]
    rfl
  · have hc : (s.grant t arm k tr).cell i = (s.claim arm (t.setHas tr.zones)).cell i := congrArg (·.getD i Cell.unowned) cells
    have counted := (s.lanes.get arm).holders_granted k t i
    rw [Lane.holds_eq_of_traverse traverse] at counted
    rw [State.barred, State.refillCell_congr (State.grant_active s t arm k tr), State.grant_refill, hc,
      State.claim_cell _ arm _ (ok.records ▸ hi)]
    refine (ok.cells i hi).claimed (fun member => ⟨fun owner => ?_, fun barred => ?_⟩) ?_ ?_
    · simp only [State.claimable, Bool.not_eq_true', ← Bool.not_eq_true, State.anyCell_iff ok.records] at claimable
      exact claimable ⟨i, hi, by simp [member, Cell.ownedBy, owner]⟩
    · obtain ⟨granted, set⟩ := barred
      have clear := refill (by simp [State.refillFence, granted]) i (ok.records ▸ hi) member
      simp [State.refillCell, table, clear] at set
    · simpa only [State.holders_of_table table, State.holders_of_table table', own] using counted
    · simp only [State.holders_of_table table, State.holders_of_table table', other]
  · rw [table', Arm_forall_iff arm, own, other]
    exact ⟨(table ▸ ok.lanes arm).granted waits room, table ▸ ok.lanes _⟩
  · rw [table', ← table]
    exact ok.table
  · rw [State.grant_install]
    exact ok.install

theorem State.grantFound_claimsKept {s : State} {t : ZoneTable} {arm : Arm} {f : Finding} (table : s.active = some t)
    (fits : f.Fits s t arm) : s.ClaimsKept (s.grantFound t arm f) := by
  cases f with
  | noHead => exact .refl s
  | blocked => exact .refl s
  | grantable k tr => exact State.grant_claimsKept table fits

/-- R111: a grant leaves the other arm's finding good. -/
theorem Finding.Fits.grantFound {f g : Finding} {s : State} {t : ZoneTable} {arm : Arm} (h : f.Fits s t arm.other) :
    f.Fits (s.grantFound t arm g) t arm.other := by
  cases g with
  | noHead => exact h
  | blocked => exact h
  | grantable k tr =>
    exact h.congr (s.grant_lanes_other t arm k tr) (State.grant_refill s t arm k tr) (s.grant_cells_length t arm k tr)

theorem State.setSurvey_claimsKept (s : State) (v : Survey) : s.ClaimsKept (s.setSurvey v) := .of_view rfl

/-- R117, R118. -/
theorem State.updateStandoff_claimsKept (s : State) (t : ZoneTable) (b : Bool) : s.ClaimsKept (s.updateStandoff t b) := by
  unfold State.updateStandoff
  split
  · split
    · exact (s.yieldLane_claimsKept s.survey.favouredNow.other).trans (.of_view (by simp [State.claimView, State.yield]))
    · exact s.setSurvey_claimsKept _
  · exact s.setSurvey_claimsKept _

/-- R106–R118: the grant decision. -/
theorem State.decideGrants_claimsKept (s : State) : s.ClaimsKept s.decideGrants := by
  unfold State.decideGrants
  split
  · exact s.setSurvey_claimsKept _
  · rename_i t table
    obtain ⟨settledA, settledB⟩ := State.settle_findings s t (s.find t s.refillFence .a) (s.find t s.refillFence .b)
    dsimp only
    generalize s.settle t (s.find t s.refillFence .a) (s.find t s.refillFence .b) = r at settledA settledB
    have fitsA := (s.find_fits t .a).lose settledA
    have fitsB := (s.find_fits t .b).lose settledB
    obtain ⟨m, shownA⟩ := State.writeBlockers_frame (s.setSurvey r.2.2) .a r.1
    obtain ⟨n, shownB⟩ := State.writeBlockers_frame ((s.setSurvey r.2.2).writeBlockers .a r.1) .b r.2.1
    rw [shownB, shownA]
    have shown : s.ClaimsKept (((s.setSurvey r.2.2).setMem m).setMem n) := .of_view rfl
    refine State.ClaimsKept.trans ?_ (State.updateStandoff_claimsKept _ t _)
    refine (shown.trans (State.grantFound_claimsKept table (fitsA.congr rfl rfl rfl))).trans
      (State.grantFound_claimsKept ?_ (Finding.Fits.grantFound (arm := .a) (fitsB.congr rfl rfl rfl)))
    rw [State.grantFound_active]
    exact table

/-! ## The services -/

theorem State.serve_claimsKept (s : State) (r : Request) {body : State → State} (h : ∀ x : State, x.ClaimsKept (body x)) :
    s.ClaimsKept (s.serve r body) := by
  unfold State.serve
  split
  · exact State.ClaimsKept.trans (.of_view (by simp [State.claimView])) (h _)
  · exact .refl s

/-- R80, R104–R106: the grant phase. -/
theorem State.grantPhaseBody_claimsKept (s : State) (during : List Arrival) : s.ClaimsKept (s.grantPhaseBody during) := by
  have shown : ∀ x : State, x.ClaimsKept x.captureView.endGrantPhase := fun x => .of_view (by simp [State.claimView])
  unfold State.grantPhaseBody
  refine State.ClaimsKept.trans ?_ (shown _)
  refine State.ClaimsKept.trans ?_ (State.arriveWhen_claimsKept _ during _)
  split
  · exact s.arriveWhen_claimsKept during _
  · exact (((s.intakeLane_claimsKept during .a).trans (State.intakeLane_claimsKept _ during .b)).trans
      (State.arriveAt_claimsKept _ during 320)).trans (State.decideGrants_claimsKept _)

/-- R126 stages 3–6. -/
theorem State.fullStages_claimsKept (s : State) (during : List Arrival) (t : ZoneTable) (arm : Arm) (gap : Option Nat)
    (marked : Bool) (g : Gathered) : s.ClaimsKept (s.fullStages during t arm gap marked g).1 := by
  have counter : ∀ (x : State) (f : Enforcement → Enforcement), x.ClaimsKept (x.modEnf arm f) := fun _ _ => .of_view rfl
  unfold State.fullStages
  refine State.ClaimsKept.trans ?_ (State.countdown_claimsKept _ arm gap)
  refine State.ClaimsKept.trans ?_ (State.arriveAt_claimsKept _ during _)
  refine State.ClaimsKept.trans ?_ (counter _ _)
  refine State.ClaimsKept.trans ?_ (State.arriveAt_claimsKept _ during _)
  refine State.ClaimsKept.trans ?_ (State.arriveAt_claimsKept _ during _)
  refine State.ClaimsKept.trans (s.arriveAt_claimsKept during 3) ?_
  split
  · exact .refl _
  · exact State.lingerSweep_claimsKept _ arm

theorem State.seatingStage_claimsKept (s : State) (arm : Arm) : s.ClaimsKept (s.seatingStage arm).1 := by
  unfold State.seatingStage
  split
  · exact .refl s
  · exact s.seat_claimsKept arm

/-- R126: the stages of an evaluation. -/
theorem State.evaluationStages_claimsKept (s : State) (during : List Arrival) (t : ZoneTable) (arm : Arm) (f : HeldFrame)
    (steady : Bool) : s.ClaimsKept (s.evaluationStages during t arm f steady) := by
  have taken : s.ClaimsKept (s.takeFrame arm f) := .of_view rfl
  have computed : ∀ x : State, x.ClaimsKept (x.arithmetic t arm f) := fun _ => .of_view rfl
  have gathered : ∀ (x : State) (g : Gathered), x.ClaimsKept (x.applyGathered arm g) := fun _ _ =>
    .of_view (by simp [State.claimView])
  have shown : ∀ x : State, x.ClaimsKept (x.writeSnapshot arm) := fun _ => .of_view (by simp [State.claimView])
  unfold State.evaluationStages
  refine State.ClaimsKept.trans ?_ (shown _)
  refine State.ClaimsKept.trans ?_ (State.arriveAt_claimsKept _ during _)
  refine State.ClaimsKept.trans (((taken.trans (State.arriveAt_claimsKept _ during 1)).trans (computed _)).trans
    (State.arriveAt_claimsKept _ during 2)) ?_
  cases steady with
  | false => exact State.arriveBetween_claimsKept _ during 3 7
  | true =>
    simp only [if_true]
    refine State.ClaimsKept.trans ?_ (gathered _ _)
    split
    · exact (State.seatingStage_claimsKept _ arm).trans (State.fullStages_claimsKept _ during t arm _ _ _)
    · exact (State.seatingStage_claimsKept _ arm).trans (State.arriveBetween_claimsKept _ during 3 7)

theorem State.evaluationBody_claimsKept (s : State) (during : List Arrival) (arm : Arm) :
    s.ClaimsKept (s.evaluationBody during arm) := by
  unfold State.evaluationBody
  split
  · exact s.evaluationStages_claimsKept during _ arm _ _
  · exact .refl s

/-- R164 step 1: an accepted command. -/
theorem State.carryOut_claimsKept (s : State) (during : List Arrival) (point : Nat) (c : Accepted) :
    s.ClaimsKept (s.carryOut during point c) := by
  unfold State.carryOut
  split
  · rename_i arm _
    have carried : ∀ x : State, x.ClaimsKept (x.carryClear c arm) := fun x =>
      (State.carryClear_effects (U := NoLane) nofun (fun _ => nofun) x c arm).claimsKept
    exact ((s.arriveAt_claimsKept during point).trans (carried _)).trans (State.arriveBetween_claimsKept _ during _ _)
  · rename_i arm _
    exact ((s.restartLane_claimsKept during point arm).trans (State.writeMailResult_effects _ _ _ _ _).claimsKept).trans
      (State.arriveBetween_claimsKept _ during _ _)

theorem carryOutAll_claimsKept (during : List Arrival) (l : List Accepted) (point : Nat) (s : State) :
    s.ClaimsKept (carryOutAll during point l s) := by
  induction l generalizing s point with
  | nil => exact s.arriveBetween_claimsKept during point 40
  | cons c l ih => exact (s.carryOut_claimsKept during point c).trans (ih _ _)

/-- R164: the configuration service. -/
theorem State.configurationBody_claimsKept (s : State) (during : List Arrival) :
    s.ClaimsKept (s.configurationBody during) := by
  have taken : s.ClaimsKept (s.setAccepted []) := .of_view rfl
  unfold State.configurationBody
  refine State.ClaimsKept.trans ?_ (State.requestTogether_effects _ _).claimsKept
  refine State.ClaimsKept.trans ?_ (State.arriveAt_claimsKept _ during _)
  refine State.ClaimsKept.trans ?_ (State.testGate_effects (U := NoLane) nofun _).claimsKept
  refine State.ClaimsKept.trans ?_ (State.arriveAt_claimsKept _ during _)
  exact taken.trans (carryOutAll_claimsKept during s.accepted 0 _)

/-! ## Every command -/

/-- R58: over unowned records both tallies are 0. -/
theorem tallyOf_unowned (n : Nat) (arm : Arm) : tallyOf (List.replicate n Cell.unowned) arm = ⟨0, 0⟩ := by
  have uncounted : ∀ (p : Nat → Cell → Bool) (k : Nat), (∀ i, p i Cell.unowned = false) →
      countCells p k (List.replicate n Cell.unowned) = 0 := by
    induction n with
    | zero => exact fun _ _ _ => rfl
    | succ n ih => exact fun p k h => by simp [List.replicate_succ, countCells, h, ih p (k + 1) h]
  rw [tallyOf, uncounted _ _ fun _ => rfl, uncounted _ _ fun _ => rfl]

theorem Install.reset_ok : Install.Ok Install.reset := by
  simp [Install.reset, Install.Ok]

/-- R56–R58, R98, R146, R166: a reset leaves unowned records and idle lanes. -/
theorem State.claimsSound_reset : State.reset.ClaimsSound where
  records := List.length_replicate
  tallies := by
    show _ = (⟨tallyOf (List.replicate 1024 Cell.unowned) .a, tallyOf (List.replicate 1024 Cell.unowned) .b⟩ : Pair Tally)
    rw [tallyOf_unowned, tallyOf_unowned]
    rfl
  cells i hi := by
    have record : State.reset.cell i = Cell.unowned := List.getD_replicate _ hi
    rw [record]
    exact .of_unowned fun x => State.holders_of_noTable rfl x i
  lanes x := by
    cases x <;> exact Lane.reset_idle.fits _ _
  table _ active := absurd active.symm (Option.some_ne_none _)
  install := Install.reset_ok

theorem State.claimsSound_of_resetView {s : State} (h : s.claimView = State.reset.claimView) : s.ClaimsSound :=
  State.ClaimsKept.of_view h State.claimsSound_reset

theorem exec_claimsKept {c : Instr} {s t : State} (e : exec c s = .next t) : s.ClaimsKept t := by
  cases c with
  | powerOn => cases e; exact fun _ => State.claimsSound_of_resetView rfl
  | resetNAssert => cases e; exact fun _ => State.claimsSound_of_resetView rfl
  | resetNRelease =>
    cases e
    unfold State.resetRelease
    split
    · exact fun _ => State.claimsSound_of_resetView rfl
    · exact .refl s
  | frameEvaluation arm during => cases e; exact s.serve_claimsKept _ (fun x => x.evaluationBody_claimsKept during arm)
  | surveyTick during =>
    cases e
    exact (State.surveyTick_effects ⟨noLane_arrivals, nofun, nofun, nofun, nofun⟩ s during).claimsKept
  | configurationService during => cases e; exact s.serve_claimsKept _ (fun x => x.configurationBody_claimsKept during)
  | refillTest =>
    cases e
    exact s.serve_claimsKept _ (fun x => (State.refillTestBody_effects (U := NoLane) nofun x).claimsKept)
  | surveyGrantPhase during => cases e; exact s.serve_claimsKept _ (fun x => x.grantPhaseBody_claimsKept during)
  | surveyEnd => cases e; exact (State.surveyEnd_effects (U := NoLane) nofun s).claimsKept
  | debounceExpiry => cases e; exact (State.debounceExpiry_effects (U := NoLane) nofun s).claimsKept
  | stallTimerExpiry => cases e; exact (State.stallExpiry_effects (U := NoLane) nofun s).claimsKept
  | installWindowExpiry => cases e; exact (State.windowExpiry_effects (U := NoLane) nofun s).claimsKept
  | rfreqChange high =>
    cases e
    have sampled : s.ClaimsKept (s.setRfreq high) := .of_view rfl
    unfold State.rfreqChange
    (repeat' split)
    · exact .refl s
    · exact sampled
    · exact sampled.trans (State.setRefill_claimsKept fun granted => .inl granted)
  | readyRise => cases e; exact .of_view (by unfold State.readyRise; split <;> rfl)
  | lockRequest p v m => cases e; exact .of_view (by split <;> simp [State.claimView])
  | feedIdleSeen arm => cases e; exact .of_view (by split <;> rfl)
  | _ => cases e; exact .of_view (by simp [State.claimView])

/-- The claims stay in order through a step. -/
theorem step_claimsKept {s t : State} (e : step s = .next t) : s.ClaimsKept t := by
  unfold step at e
  split at e
  · cases e
    exact .refl s
  · rename_i c rest _
    have taken : s.ClaimsKept (s.setPending rest) := .of_view rfl
    exact taken.trans (exec_claimsKept e)

end Sys2Proof.Machine

open Sys2Proof Sys2Proof.Machine

/-- Settles O55: every command keeps each cell record in agreement with the lanes, and each lane with the table. -/
theorem everyStepKeepsTheClaims : Obligations.EveryStepKeepsTheClaims := fun _ _ claims refill e =>
  (step_claimsKept e (.of_claimsOk claims refill)).claimsOk
end

section
/-! SUPPORT. R76, R179: the fields of a slot's word 10. -/

namespace Sys2Proof.Machine

/-- A field is replaced by clearing its bits and putting the new value in. -/
theorem putBits_eq_mask {w m field : Word} {lo len v : Nat} (hv : v < 2 ^ len) (apart : m &&& field = 0#16)
    (all : m ||| field = 65535#16) (cut : (w &&& field).toNat = bitsAt w lo len * 2 ^ lo)
    (free : m &&& wordOf (v * 2 ^ lo) = 0#16) : putBits w lo len v = (w &&& m) ||| wordOf (v * 2 ^ lo) := by
  have old : (w &&& m) &&& (w &&& field) = 0#16 := by
    rw [show (w &&& m) &&& (w &&& field) = (w &&& w) &&& (m &&& field) by ac_rfl, apart, BitVec.and_zero]
  have new : (w &&& m) &&& wordOf (v * 2 ^ lo) = 0#16 := by rw [BitVec.and_assoc, free, BitVec.and_zero]
  have whole : w = (w &&& m) + (w &&& field) := by
    rw [BitVec.add_eq_or_of_and_eq_zero _ _ old, ← BitVec.and_or_distrib_left, all, and_full]
  have sum : w.toNat = (w &&& m).toNat + bitsAt w lo len * 2 ^ lo := by
    have mod := congrArg BitVec.toNat whole
    rw [BitVec.toNat_add, cut] at mod
    have below : bitsAt w lo len * 2 ^ lo ≤ w.toNat := by
      rw [← cut, BitVec.toNat_and]
      exact Nat.and_le_left
    omega
  rw [← BitVec.add_eq_or_of_and_eq_zero _ _ new, putBits, Nat.mod_eq_of_lt hv]
  refine BitVec.eq_of_toNat_eq ?_
  rw [BitVec.toNat_add, wordOf_toNat, wordOf_toNat]
  omega

/-- R179: a new slot state in bits 0–2. -/
theorem putBits_state (w : Word) {n : Nat} (h : n < 8) : putBits w 0 3 n = (w &&& 0xFFF8) ||| wordOf n := by
  have free : ∀ n < 8, (65528#16) &&& wordOf (n * 2 ^ 0) = 0#16 := by decide
  have cut : (w &&& 7#16).toNat = bitsAt w 0 3 * 2 ^ 0 := by
    rw [toNat_and_low w 7#16 3 rfl]
    simp [bitsAt]
  simpa using putBits_eq_mask (m := 65528#16) h (by decide) (by decide) cut (free n h)

theorem and_middle (w : Word) : w &&& 3840#16 = ((w >>> 8) &&& 15#16) <<< 8 := by
  ext i hi
  interval_cases i <;> simp

/-- R179: a new blocker kind in bits 8–11. -/
theorem putBits_blocker (w : Word) {n : Nat} (h : n < 16) : putBits w 8 4 n = (w &&& 0xF0FF) ||| wordOf (n * 256) := by
  have free : ∀ n < 16, (61695#16) &&& wordOf (n * 2 ^ 8) = 0#16 := by decide
  have cut : (w &&& 3840#16).toNat = bitsAt w 8 4 * 2 ^ 8 := by
    rw [and_middle, BitVec.toNat_shiftLeft, toNat_and_low _ 15#16 4 rfl, BitVec.toNat_ushiftRight, bitsAt,
      Nat.shiftRight_eq_div_pow, Nat.shiftLeft_eq]
    have := w.isLt
    omega
  exact putBits_eq_mask (m := 61695#16) h (by decide) (by decide) cut (free n h)

theorem SlotState.code_lt (st : SlotState) : st.code < 8 := by cases st <;> decide

theorem Blocker.code_lt (b : Blocker) : b.code < 16 := by cases b <;> decide

end Sys2Proof.Machine
end

section
/-! SUPPORT. R76–R95, R183: what each write of a slot leaves, and every lane operation on a slot as work on that slot alone. -/

namespace Sys2Proof.Machine

/-! ## Flags on the lane's own port -/

@[simp] theorem PortRegs.raised_raised (r : PortRegs) (f : Flag) : (r.raised f).raised f = r.raised f := by
  simp [PortRegs.raised, BitVec.or_assoc]

/-- R183: a flag set twice is a flag set. -/
@[simp] theorem Pair_raised_raised (ports : Pair PortRegs) (f : Flag) (p : Port) :
    (ports.modify p (fun r => r.raised f)).modify p (fun r => r.raised f) = ports.modify p (fun r => r.raised f) := by
  simp [Pair_modify_modify]

theorem State.raise_ports (s : State) (f : Flag) (p : Port) : (s.raise f p).ports = s.ports.modify p (fun r => r.raised f) := rfl

/-- R183: an event that sets one flag on one port and leaves every cause. -/
theorem State.portsAfter_of_raised {s u : State} {f : Flag} {p : Port} (enf : u.enf = s.enf)
    (ports : u.ports = s.ports.modify p (fun r => r.raised f)) : s.portsAfter u p [f] [] := by
  have same : u.guardConditions = s.guardConditions := State.guardConditions_congr enf
  simp [State.portsAfter, State.portAfter, ports, same, PortRegs.raised]

theorem Pair_eq_set {α : Type} {p q : Pair α} {x : Side} {v : α} (own : q.get x = v) (other : q.get x.other = p.get x.other) :
    q = p.set x v := by
  obtain ⟨qa, qb⟩ := q
  subst own
  cases x <;> simp_all [Pair.get, Pair.set, Side.other]

/-! ## What each write of a slot leaves -/

section
variable (s : State) (arm : Arm) (k : Slot)

theorem State.writeSlotState_mem (st : SlotState) : (s.writeSlotState arm k st).mem =
    s.mem.write (slotBase arm k + 10) ((s.word (slotBase arm k + 10) &&& 0xFFF8) ||| wordOf st.code) := by
  simp [State.writeSlotState, putBits_state _ st.code_lt]

@[simp] theorem State.writeSlotState_lanes (st : SlotState) : (s.writeSlotState arm k st).lanes =
    s.lanes.modify arm (fun l => { l with slots := l.slots.set k.val { (s.entry arm k) with state := st } }) := by
  simp [State.writeSlotState, State.setEntry]

theorem State.writeSlotState_ports (st : SlotState) : (s.writeSlotState arm k st).ports =
    if (s.entry arm k).state = st then s.ports else s.ports.modify arm (fun r => r.raised .lane) := by
  by_cases h : (s.entry arm k).state = st <;> simp [State.writeSlotState, State.raiseIf, h, State.raise_ports]

theorem State.writeBlocker_mem (b : Blocker) (zone : Option Nat) : (s.writeBlocker arm k b zone).mem =
    (s.mem.write (slotBase arm k + 10) ((s.word (slotBase arm k + 10) &&& 0xF0FF) ||| wordOf (b.code * 256))).write
      (slotBase arm k + 11) (blockerZoneWord zone) := by
  simp [State.writeBlocker, putBits_blocker _ b.code_lt]

theorem State.writeResult_mem (r : SlotResult) (x : Option SlotReason) : (s.writeResult arm k r x).mem =
    s.mem.write (slotBase arm k + 9) (wordOf (r.code + (match x with | none => 0 | some x => x.code) * 2 ^ 8)) := rfl

theorem State.writeResult_none_mem (r : SlotResult) : (s.writeResult arm k r none).mem =
    s.mem.write (slotBase arm k + 9) (wordOf r.code) := by
  simp [State.writeResult_mem]

@[simp] theorem State.writeResult_ports (r : SlotResult) (x : Option SlotReason) :
    (s.writeResult arm k r x).ports = s.ports.modify arm (fun r => r.raised .lane) := rfl

theorem State.writeTag_mem (tag : Byte) :
    (s.writeTag arm k tag).mem = s.mem.write (slotBase arm k + 8) (wordOf tag.toNat) := rfl

theorem State.writeRemaining_mem (n : Nat) :
    (s.writeRemaining arm k n).mem = s.mem.write (slotBase arm k + 12) (wordOf n) := rfl

end

/-! ## Work on one slot -/

/-- The change from `s` to `u` touches the lanes, the claim table, the flags and memory alone. -/
def State.LaneWork (s u : State) : Prop :=
  u = { s with mem := u.mem, ports := u.ports, lanes := u.lanes, cells := u.cells, tallies := u.tallies }

theorem State.LaneWork.refl (s : State) : s.LaneWork s := rfl

theorem State.LaneWork.trans {s t u : State} (h : s.LaneWork t) (h' : t.LaneWork u) : s.LaneWork u := by
  unfold State.LaneWork at *
  rw [h']
  conv_lhs => rw [h]

theorem State.LaneWork.waiting {s t : State} (h : s.LaneWork t) : t.waiting = s.waiting := by
  unfold State.LaneWork at h
  rw [h]

theorem State.LaneWork.enf {s t : State} (h : s.LaneWork t) : t.enf = s.enf := by
  unfold State.LaneWork at h
  rw [h]

theorem State.LaneWork.survey {s t : State} (h : s.LaneWork t) : t.survey = s.survey := by
  unfold State.LaneWork at h
  rw [h]

theorem State.LaneWork.ready {s t : State} (h : s.LaneWork t) : t.ready = s.ready := by
  unfold State.LaneWork at h
  rw [h]

/-- The change from `s` to `u` is work on one slot: of State it touches the arm's lane, the claim table, the flag LANE of
the lane's own port and memory; of the lane no other slot's entry; and of memory the slot's result half. -/
structure State.SlotWork (s u : State) (arm : Arm) (k : Slot) : Prop where
  frame : s.LaneWork u
  other : u.lanes.get arm.other = s.lanes.get arm.other
  entries : ∀ j ≠ k, u.entry arm j = s.entry arm j
  ports : u.ports = s.ports ∨ u.ports = s.ports.modify arm (fun r => r.raised .lane)
  words : s.wordsKept u (offsets (slotBase arm k + 8) 8)
  canonical : s.memoryOk → u.memoryOk

section
variable {s t u : State} {arm : Arm} {k : Slot}

theorem State.SlotWork.refl (s : State) (arm : Arm) (k : Slot) : s.SlotWork s arm k :=
  ⟨rfl, rfl, fun _ _ => rfl, .inl rfl, fun _ _ => rfl, id⟩

theorem State.SlotWork.trans (h : s.SlotWork t arm k) (h' : t.SlotWork u arm k) : s.SlotWork u arm k where
  frame := h.frame.trans h'.frame
  other := h'.other.trans h.other
  entries j hj := (h'.entries j hj).trans (h.entries j hj)
  ports := by
    obtain h1 | h1 := h.ports <;> obtain h2 | h2 := h'.ports <;> simp [h2, h1]
  words a ha := (h'.words a ha).trans (h.words a ha)
  canonical := h'.canonical ∘ h.canonical

/-- Work that leaves the claim table alone. -/
theorem State.SlotWork.frame_of_claims (h : s.SlotWork u arm k) (claims : (u.cells, u.tallies) = (s.cells, s.tallies)) :
    u = { s with mem := u.mem, ports := u.ports, lanes := u.lanes } := by
  obtain ⟨cells, tallies⟩ := Prod.mk.inj claims
  refine Eq.trans h.frame ?_
  rw [cells, tallies]

/-- A word of the slot's result half written. -/
theorem State.writeWord_work (s : State) (arm : Arm) (k : Slot) {j : Nat} (low : 8 ≤ j) (high : j < 16) (v : Word) :
    s.SlotWork (s.writeWord (slotBase arm k + j) v) arm k where
  frame := rfl
  other := rfl
  entries _ _ := rfl
  ports := .inl rfl
  words a ha := Memory.read_write_of_ne _ _ (by rw [mem_offsets] at ha; omega)
  canonical := Memory.wf_write _ _

theorem State.writeWords_work (s : State) (arm : Arm) (k : Slot) {j : Nat} {vs : List Word} (low : 8 ≤ j)
    (high : j + vs.length ≤ 16) : s.SlotWork (s.writeWords (slotBase arm k + j) vs) arm k where
  frame := rfl
  other := rfl
  entries _ _ := rfl
  ports := .inl rfl
  words a ha := Memory.read_writeFrom_outside _ _ (by rw [mem_offsets] at ha; omega)
  canonical := Memory.wf_writeFrom _ _

theorem State.raiseLane_work (s : State) (arm : Arm) (k : Slot) : s.SlotWork (s.raise .lane arm) arm k :=
  ⟨rfl, rfl, fun _ _ => rfl, .inr rfl, fun _ _ => rfl, id⟩

/-- A change of the arm's lane that leaves the entries of the other slots. -/
theorem State.modLane_work (s : State) (arm : Arm) (k : Slot) {g : Lane → Lane}
    (h : ∀ l : Lane, ∀ j ≠ k, (g l).slots.get j = l.slots.get j) : s.SlotWork (s.modLane arm g) arm k where
  frame := rfl
  other := by simp
  entries j hj := by simpa [State.entry] using h _ j hj
  ports := .inl rfl
  words _ _ := rfl
  canonical := id

theorem State.putCells_work (s : State) (arm : Arm) (k : Slot) (cs : List Cell) : s.SlotWork (s.putCells cs) arm k :=
  ⟨rfl, rfl, fun _ _ => rfl, .inl rfl, fun _ _ => rfl, id⟩

variable (s arm k)

theorem State.setEntry_work (e : SlotEntry) : s.SlotWork (s.setEntry arm k e) arm k :=
  s.modLane_work arm k fun l j hj => by simp [Vector_get_set_slot, hj]

theorem State.dropWaiting_work : s.SlotWork (s.dropWaiting arm k) arm k := s.modLane_work arm k fun _ _ _ => rfl

theorem State.dropGranted_work : s.SlotWork (s.dropGranted arm k) arm k := s.modLane_work arm k fun _ _ _ => rfl

theorem State.writeSlotState_work (st : SlotState) : s.SlotWork (s.writeSlotState arm k st) arm k := by
  unfold State.writeSlotState State.raiseIf
  dsimp only
  have written := (s.setEntry_work arm k { (s.entry arm k) with state := st }).trans
    (State.writeWord_work _ arm k (j := 10) (by omega) (by omega) (putBits (s.word (slotBase arm k + 10)) 0 3 st.code))
  split
  · exact written.trans (State.raiseLane_work _ arm k)
  · exact written

theorem State.writeBlocker_work (b : Blocker) (zone : Option Nat) : s.SlotWork (s.writeBlocker arm k b zone) arm k :=
  (s.writeWord_work arm k (j := 10) (by omega) (by omega) _).trans
    (State.writeWord_work _ arm k (j := 11) (by omega) (by omega) _)

theorem State.writeResult_work (r : SlotResult) (x : Option SlotReason) : s.SlotWork (s.writeResult arm k r x) arm k :=
  (s.writeWord_work arm k (j := 9) (by omega) (by omega) _).trans (State.raiseLane_work _ arm k)

theorem State.writeTag_work (tag : Byte) : s.SlotWork (s.writeTag arm k tag) arm k :=
  s.writeWord_work arm k (j := 8) (by omega) (by omega) _

theorem State.writeRemaining_work (n : Nat) : s.SlotWork (s.writeRemaining arm k n) arm k :=
  (s.setEntry_work arm k _).trans (State.writeWord_work _ arm k (j := 12) (by omega) (by omega) _)

theorem State.releaseTraverse_work (tr : Option Traverse) : s.SlotWork (s.releaseTraverse arm tr) arm k := by
  unfold State.releaseTraverse
  split
  · exact s.putCells_work arm k _
  · exact .refl s arm k

theorem State.endGranted_work : s.SlotWork (s.endGranted arm k) arm k :=
  ((s.writeSlotState_work arm k .done).trans (State.dropGranted_work _ arm k)).trans
    (State.releaseTraverse_work _ arm k _)

theorem State.endWaiting_work (st : SlotState) : s.SlotWork (s.endWaiting arm k st) arm k :=
  ((s.writeSlotState_work arm k st).trans (State.dropWaiting_work _ arm k)).trans
    (State.writeBlocker_work _ arm k .none none)

/-- R83: a taken POST is work on its slot, with the result tag written last. -/
theorem State.acceptPost_tagged (q : SlotRequest) (tag : Byte) :
    ∃ x, s.SlotWork x arm k ∧ s.acceptPost arm k q tag = x.writeTag arm k tag := by
  refine ⟨_, ?_, rfl⟩
  refine .trans ?_ (State.writeWords_work _ arm k (j := 13) (vs := [0, q.number]) (by omega) (by simp))
  refine .trans ?_ (State.writeRemaining_work _ arm k _)
  refine .trans ?_ (State.writeBlocker_work _ arm k _ none)
  refine .trans ?_ (State.writeSlotState_work _ arm k .waiting)
  refine .trans ?_ (State.writeResult_work _ arm k .taken none)
  refine .trans ?_ (State.modLane_work _ arm k fun _ _ _ => rfl)
  exact s.setEntry_work arm k _

/-- R80: so is every command. -/
theorem State.takeCommand_tagged (q : SlotRequest) (tag : Byte) :
    ∃ x, s.SlotWork x arm k ∧ s.takeCommand arm k q tag = x.writeTag arm k tag := by
  have answered : ∀ {x : State} (r : SlotResult) (y : Option SlotReason), s.SlotWork x arm k →
      ∃ z, s.SlotWork z arm k ∧ (x.writeResult arm k r y).writeTag arm k tag = z.writeTag arm k tag := fun r y h =>
    ⟨_, h.trans (State.writeResult_work _ arm k r y), rfl⟩
  have refused : ∀ r, ∃ z, s.SlotWork z arm k ∧ s.refuseCommand arm k r tag = z.writeTag arm k tag := fun r =>
    answered .refused (some r) (.refl s arm k)
  unfold State.takeCommand
  split
  · unfold State.takePost
    split
    · exact refused _
    · exact s.acceptPost_tagged arm k q tag
  · unfold State.takeFinish
    split
    case h_1 => exact answered .taken none (s.endGranted_work arm k)
    all_goals exact refused _
  · unfold State.takeWithdraw
    split
    case h_1 => exact answered .taken none (s.endWaiting_work arm k .withdrawn)
    case h_2 => exact answered .taken none (s.endGranted_work arm k)
    all_goals exact refused _
  · exact refused _

theorem State.acceptPost_work (q : SlotRequest) (tag : Byte) : s.SlotWork (s.acceptPost arm k q tag) arm k := by
  obtain ⟨x, work, eq⟩ := s.acceptPost_tagged arm k q tag
  rw [eq]
  exact work.trans (x.writeTag_work arm k tag)

theorem State.takeCommand_work (q : SlotRequest) (tag : Byte) : s.SlotWork (s.takeCommand arm k q tag) arm k := by
  obtain ⟨x, work, eq⟩ := s.takeCommand_tagged arm k q tag
  rw [eq]
  exact work.trans (x.writeTag_work arm k tag)

end

end Sys2Proof.Machine
end

section
/-! SUPPORT. R61, R76, R80, R85, R86: the words, flags and cells that a command's result and the end of a traverse leave. -/

namespace Sys2Proof.Machine

/-! ## Words kept by one change after another -/

theorem State.wordsKept_trans {s t u : State} {l l' but : List Nat} (h : s.wordsKept t l) (h' : t.wordsKept u l')
    (sub : ∀ a, a ∈ l ∨ a ∈ l' → a ∈ but) : s.wordsKept u but := fun a ha =>
  (h' a fun m => ha (sub a (.inr m))).trans (h a fun m => ha (sub a (.inl m)))

/-! ## A command's result (R76, R80) -/

section
variable {s : State} {arm : Arm} {k : Slot}

/-- R76: a result with its reason, and the result tag. -/
theorem State.result_words (wf : s.memoryOk) (r : SlotResult) (x : Option SlotReason) (tag : Byte) :
    let u := (s.writeResult arm k r x).writeTag arm k tag
    u.word (slotBase arm k + 9) = wordOf (r.code + (match x with | none => 0 | some x => x.code) * 2 ^ 8) ∧
      u.word (slotBase arm k + 8) = wordOf tag.toNat ∧ s.wordsKept u [slotBase arm k + 8, slotBase arm k + 9] := by
  have wf' : (s.writeResult arm k r x).memoryOk := (s.writeResult_work arm k r x).canonical wf
  refine ⟨?_, Memory.read_write_same _ _ wf', fun a ha => ?_⟩
  · rw [State.word, State.writeTag_mem, Memory.read_write_of_ne _ _ (by omega), State.writeResult_mem]
    exact Memory.read_write_same _ _ wf
  · simp only [List.mem_cons, List.not_mem_nil, or_false, not_or] at ha
    rw [State.word, State.writeTag_mem, Memory.read_write_of_ne _ _ ha.1, State.writeResult_mem]
    exact Memory.read_write_of_ne _ _ ha.2

/-! ## The end of a traverse (R85, R86, R93, R95) -/

theorem State.endGranted_mem (s : State) (arm : Arm) (k : Slot) : (s.endGranted arm k).mem =
    s.mem.write (slotBase arm k + 10) ((s.word (slotBase arm k + 10) &&& 0xFFF8) ||| 3) := by
  simp [State.endGranted, State.writeSlotState_mem, SlotState.code, wordOf]

/-- R179: the words of a slot whose GRANTED traverse ends. -/
theorem State.endGranted_words (wf : s.memoryOk) :
    (s.endGranted arm k).word (slotBase arm k + 10) = (s.word (slotBase arm k + 10) &&& 0xFFF8) ||| 3 ∧
      s.wordsKept (s.endGranted arm k) [slotBase arm k + 10] := by
  refine ⟨?_, fun a ha => ?_⟩ <;> rw [State.word, State.endGranted_mem]
  · exact Memory.read_write_same _ _ wf
  · exact Memory.read_write_of_ne _ _ (by simpa using ha)

/-- R179: the words of a slot whose state and blocker are written. -/
theorem State.writeSlotState_writeBlocker_words (wf : s.memoryOk) {t : State} {st : SlotState}
    (mem : t.mem = (s.writeSlotState arm k st).mem) (b : Blocker) (zone : Option Nat) :
    s.reports (t.writeBlocker arm k b zone) arm k (some st.code) b (blockerZoneWord zone) ∧
      s.wordsKept (t.writeBlocker arm k b zone) [slotBase arm k + 10, slotBase arm k + 11] := by
  have codes : ∀ n < 8, wordOf n &&& 61695#16 = wordOf n := by decide
  have wf' : t.mem.wf = true := by
    rw [mem]
    exact (s.writeSlotState_work arm k st).canonical wf
  have state : t.word (slotBase arm k + 10) = (s.word (slotBase arm k + 10) &&& 0xFFF8) ||| wordOf st.code := by
    rw [State.word, mem, State.writeSlotState_mem]
    exact Memory.read_write_same _ _ wf
  have kept : ∀ a, a ≠ slotBase arm k + 10 → t.word a = s.word a := fun a ha => by
    rw [State.word, mem, State.writeSlotState_mem]
    exact Memory.read_write_of_ne _ _ ha
  refine ⟨⟨?_, ?_⟩, fun a ha => ?_⟩ <;> rw [State.word, State.writeBlocker_mem]
  · rw [Memory.read_write_of_ne _ _ (by omega), Memory.read_write_same _ _ wf', state]
    simp [BitVec.and_or_distrib_right, codes _ st.code_lt, BitVec.and_assoc]
  · exact Memory.read_write_same _ _ (Memory.wf_write _ _ wf')
  · simp only [List.mem_cons, List.not_mem_nil, or_false, not_or] at ha
    rw [Memory.read_write_of_ne _ _ ha.2, Memory.read_write_of_ne _ _ ha.1]
    exact kept a ha.1

/-- R86, R89, R97: the words of a slot whose WAITING traverse ends. -/
theorem State.endWaiting_words (wf : s.memoryOk) (st : SlotState) :
    s.reports (s.endWaiting arm k st) arm k (some st.code) .none 0 ∧
      s.wordsKept (s.endWaiting arm k st) [slotBase arm k + 10, slotBase arm k + 11] :=
  State.writeSlotState_writeBlocker_words (t := (s.writeSlotState arm k st).dropWaiting arm k) wf rfl .none none

theorem State.endGranted_ports (h : (s.entry arm k).state ≠ .done) :
    (s.endGranted arm k).ports = s.ports.modify arm (fun r => r.raised .lane) := by
  simp [State.endGranted, State.writeSlotState_ports, h]

theorem State.endWaiting_ports {st : SlotState} (h : (s.entry arm k).state ≠ st) :
    (s.endWaiting arm k st).ports = s.ports.modify arm (fun r => r.raised .lane) := by
  simp [State.endWaiting, State.writeSlotState_ports, h]

/-- R61: the cells of a GRANTED traverse that ends are released, by the feed and the sweep block as they stand. -/
theorem State.endGranted_cells {t : ZoneTable} {tr : Traverse} (table : s.active = some t)
    (traverse : (s.entry arm k).traverse = some tr) : (s.endGranted arm k).cells = (s.release arm (t.setHas tr.zones)).cells := by
  have frees : ((s.writeSlotState arm k .done).dropGranted arm k).freesOnRelease arm = s.freesOnRelease arm := by
    funext i
    simp [State.freesOnRelease]
  simp [State.endGranted, State.releaseTraverse, table, traverse, State.release, frees]
  rfl

end

end Sys2Proof.Machine

open Sys2Proof Sys2Proof.Machine

/-- Settles O47: the traverse ends, and the result and the tag are written. -/
theorem finishAndWithdrawEndTheTraverse : Obligations.FinishAndWithdrawEndTheTraverse := by
  intro s arm k q tag t tr wf table traverse
  dsimp only
  have work := s.takeCommand_work arm k q tag
  have kept : (s.lanes.get arm).slots.get k = ⟨(s.entry arm k).state, some tr⟩ := by rw [← traverse]; rfl
  refine ⟨fun command granted => ?_, fun command waiting => ?_⟩
  · have taken : s.takeCommand arm k q tag = ((s.endGranted arm k).writeResult arm k .taken none).writeTag arm k tag := by
      obtain command | command := command <;>
        simp [State.takeCommand, command, State.takeFinish, State.takeWithdraw, granted]
    have ports := State.endGranted_ports (s := s) (arm := arm) (k := k) (by simp [granted])
    obtain ⟨ended, within⟩ := State.endGranted_words (arm := arm) (k := k) wf
    obtain ⟨result, answered, rest⟩ := State.result_words (arm := arm) (k := k)
      ((s.endGranted_work arm k).canonical wf) .taken none tag
    rw [← taken] at result answered rest
    refine ⟨work.frame, Pair_eq_set ?_ work.other, ?_, State.portsAfter_of_raised (by simp [taken]) (by simp [taken, ports]),
      result, ?_, answered, State.wordsKept_trans within rest fun a ha => ?_⟩
    · simp [taken, State.endGranted_lane, kept]
    · simp [taken, State.endGranted_cells table traverse]
    · rw [rest _ (by simp), ended]
    · simp at ha
      rw [mem_offsets]
      omega
  · have taken : s.takeCommand arm k q tag =
        ((s.endWaiting arm k .withdrawn).writeResult arm k .taken none).writeTag arm k tag := by
      simp [State.takeCommand, command, State.takeWithdraw, waiting]
    have ports := State.endWaiting_ports (s := s) (arm := arm) (k := k) (st := .withdrawn) (by simp [waiting])
    obtain ⟨ended, within⟩ := State.endWaiting_words (arm := arm) (k := k) wf .withdrawn
    obtain ⟨result, answered, rest⟩ := State.result_words (arm := arm) (k := k)
      ((s.endWaiting_work arm k .withdrawn).canonical wf) .taken none tag
    rw [← taken] at result answered rest
    refine ⟨work.frame_of_claims (by simp [taken]), Pair_eq_set ?_ work.other,
      State.portsAfter_of_raised (by simp [taken]) (by simp [taken, ports]), result, ?_, answered,
      State.wordsKept_trans within rest fun a ha => ?_⟩
    · simp [taken, State.endWaiting_lane, kept]
    · obtain ⟨state, zone⟩ := ended
      exact ⟨(rest _ (by simp)).trans state, (rest _ (by simp)).trans zone⟩
    · simp at ha
      rw [mem_offsets]
      omega
end

section
/-! SUPPORT. R75, R79, R83, R84, R179: the fields of a request half, and the lane and the result half that a taken POST leaves. -/

namespace Sys2Proof.Machine

/-! ## The request half (R75, R179) -/

theorem bitsAt_eq (w : Word) (lo len : Nat) : bitsAt w lo len = w.toNat / 2 ^ lo % 2 ^ len := rfl

theorem SlotCommand.ofCode_iff (n : Nat) : (SlotCommand.ofCode n = .post ↔ n = 1) ∧ (SlotCommand.ofCode n = .finish ↔ n = 2) ∧
    (SlotCommand.ofCode n = .withdraw ↔ n = 3) := by
  unfold SlotCommand.ofCode
  split <;> simp_all

theorem Mode.ofCode_iff (n : Nat) : (Mode.ofCode n = some .counted ↔ n = 1) ∧ (Mode.ofCode n = some .openEnded ↔ n = 2) := by
  unfold Mode.ofCode
  split <;> simp_all

theorem zoneBytes_getD (w5 w6 w7 : Word) {j : Nat} (h : j < 6) : (zoneBytes w5 w6 w7).getD j 0 =
    ([w5, w6, w7].getD (j / 2) 0).toNat / 256 ^ (j % 2) % 256 := by
  interval_cases j <;> simp [zoneBytes, bitsAt_eq]

theorem slotLayout_holds (ws : List Word) : slotLayout ws := by
  have top : bitsAt (ws.getD 1 0) 12 4 = (ws.getD 1 0).toNat / 4096 := by
    have := (ws.getD 1 0).isLt
    rw [bitsAt_eq]
    omega
  obtain ⟨post, finish, withdraw⟩ := SlotCommand.ofCode_iff (bitsAt (ws.getD 1 0) 0 8)
  obtain ⟨counted, openEnded⟩ := Mode.ofCode_iff ((ws.getD 1 0).toNat / 4096)
  have low : bitsAt (ws.getD 1 0) 0 8 = (ws.getD 1 0).toNat % 256 := by simp [bitsAt_eq]
  rw [low] at post finish withdraw
  unfold slotLayout
  dsimp only [SlotRequest.ofWords]
  rw [low, top]
  refine ⟨post, finish, withdraw, rfl, counted, openEnded, rfl, rfl, ?_, ?_, fun j hj => ?_⟩
  · simp [bitsAt_eq]
  · rw [List.length_take, Nat.min_comm]
    rfl
  · simp only [List.length_take, Nat.lt_min] at hj
    obtain ⟨inCount, inBytes⟩ := hj
    have h6 : j < 6 := inBytes
    rw [List.getD_eq_getElem?_getD, List.getElem?_take_of_lt inCount, ← List.getD_eq_getElem?_getD, zoneBytes_getD _ _ _ h6]
    have h3 : j / 2 < 3 := by omega
    interval_cases j / 2 <;> rfl

/-! ## A POST taken (R83) -/

theorem insertByAhead_pairwise (dist : Slot → Nat) (k : Slot) {ks : List Slot} (h : ks.Pairwise (fun i j => dist i ≤ dist j)) :
    (insertByAhead dist k ks).Pairwise (fun i j => dist i ≤ dist j) := by
  induction ks with
  | nil => simp [insertByAhead]
  | cons j ks ih =>
    obtain ⟨first, rest⟩ := List.pairwise_cons.mp h
    unfold insertByAhead
    split
    next near =>
      refine List.pairwise_cons.mpr ⟨fun i hi => ?_, h⟩
      obtain rfl | hi := List.mem_cons.mp hi
      · exact near.le
      · exact near.le.trans (first i hi)
    next far =>
      refine List.pairwise_cons.mpr ⟨fun i hi => ?_, ih rest⟩
      obtain rfl | hi := List.mem_cons.mp ((insertByAhead_perm dist k ks).mem_iff.mp hi)
      · exact Nat.le_of_not_lt far
      · exact first i hi

theorem SlotRequest.traverse_of_mode {q : SlotRequest} {m : Mode} (h : q.mode = some m) :
    q.traverse = ⟨q.number, m, q.budget, if m = .counted then q.budget else 0, q.zones⟩ := by
  unfold SlotRequest.traverse
  rw [h]
  cases m <;> rfl

/-- How far each slot's number lies ahead once the traverse stands in the slot `k`. -/
def Lane.aheadWith (l : Lane) (k : Slot) (tr : Traverse) (ref : Word) (j : Slot) : Nat :=
  if j = k then (tr.number - ref).toNat else l.aheadOf ref j

theorem Lane.aheadOf_set (l : Lane) (k : Slot) (tr : Traverse) (ref : Word) (st : SlotState) (next : Option Word)
    (waiting granted : List Slot) :
    Lane.aheadOf ⟨next, waiting, granted, l.slots.set k.val ⟨st, some tr⟩⟩ ref = l.aheadWith k tr ref := by
  funext j
  by_cases hj : j = k <;> simp [Lane.aheadOf, Lane.aheadWith, Lane.numberOf, Vector_get_set_slot, hj]

/-- R83: the lane after a POST is taken. -/
theorem State.acceptPost_lane (s : State) (arm : Arm) (k : Slot) (q : SlotRequest) (tag : Byte) :
    (s.acceptPost arm k q tag).lanes.get arm =
      let l := s.lanes.get arm
      let first := l.next.getD q.number
      l.posted k first (insertByAhead (l.aheadWith k q.traverse first) k l.waitingList) q.traverse := by
  dsimp only
  rw [← Lane.aheadOf_set (s.lanes.get arm) k q.traverse _ ((s.entry arm k).state) (s.lanes.get arm).next
    (s.lanes.get arm).waitingList (s.lanes.get arm).grantedList]
  simp [State.acceptPost, State.writeRemaining, State.setEntry, State.writeWord, State.writeWords, State.entry, Lane.posted,
    Vector_get_set_slot]

theorem State.acceptPost_ports (s : State) (arm : Arm) (k : Slot) (q : SlotRequest) (tag : Byte) :
    (s.acceptPost arm k q tag).ports = s.ports.modify arm (fun r => r.raised .lane) := by
  simp [State.acceptPost, State.writeSlotState_ports]

/-- R83, R179: the last words of a taken POST: frames remaining, the grant's survey count, the number and the result tag. -/
theorem State.postTail_words {s : State} (wf : s.memoryOk) (arm : Arm) (k : Slot) (n : Nat) (number : Word) (tag : Byte) :
    let u := ((s.writeRemaining arm k n).writeWords (slotBase arm k + 13) [0, number]).writeTag arm k tag
    let b := slotBase arm k
    u.word (b + 12) = wordOf n ∧ u.word (b + 13) = 0 ∧ u.word (b + 14) = number ∧ u.word (b + 8) = wordOf tag.toNat ∧
      s.wordsKept u [b + 8, b + 12, b + 13, b + 14] := by
  dsimp only
  have wf12 := Memory.wf_write (slotBase arm k + 12) (wordOf n) wf
  have wf13 := Memory.wf_write (slotBase arm k + 13) 0 wf12
  have wf14 := Memory.wf_write (slotBase arm k + 14) number wf13
  have mem : (((s.writeRemaining arm k n).writeWords (slotBase arm k + 13) [0, number]).writeTag arm k tag).mem =
    (((s.mem.write (slotBase arm k + 12) (wordOf n)).write (slotBase arm k + 13) 0).write (slotBase arm k + 14) number).write
      (slotBase arm k + 8) (wordOf tag.toNat) := rfl
  unfold State.word
  rw [mem]
  refine ⟨?_, ?_, ?_, Memory.read_write_same _ _ wf14, fun a ha => ?_⟩
  · rw [Memory.read_write_of_ne _ _ (by omega), Memory.read_write_of_ne _ _ (by omega), Memory.read_write_of_ne _ _ (by omega)]
    exact Memory.read_write_same _ _ wf
  · rw [Memory.read_write_of_ne _ _ (by omega), Memory.read_write_of_ne _ _ (by omega)]
    exact Memory.read_write_same _ _ wf12
  · rw [Memory.read_write_of_ne _ _ (by omega)]
    exact Memory.read_write_same _ _ wf13
  · simp only [List.mem_cons, List.not_mem_nil, or_false, not_or] at ha
    obtain ⟨h8, h12, h13, h14⟩ := ha
    rw [State.word, mem, Memory.read_write_of_ne _ _ h8, Memory.read_write_of_ne _ _ h14, Memory.read_write_of_ne _ _ h13,
      Memory.read_write_of_ne _ _ h12]
    rfl

/-- R83, R179: the result half after a POST is taken. -/
theorem State.acceptPost_words {s : State} (wf : s.memoryOk) (arm : Arm) (k : Slot) (q : SlotRequest) (tag : Byte) :
    let u := s.acceptPost arm k q tag
    let b := slotBase arm k
    u.word (b + 9) = 1 ∧
      s.reports u arm k (some 1) (if q.number = (s.lanes.get arm).next.getD q.number then .none else .early) 0 ∧
      u.word (b + 12) = wordOf q.traverse.remaining ∧ u.word (b + 13) = 0 ∧ u.word (b + 14) = q.number ∧
      u.word (b + 8) = wordOf tag.toNat ∧ s.wordsKept u (offsets (b + 8) 7) := by
  unfold State.acceptPost
  dsimp only
  generalize (if q.number = (s.lanes.get arm).next.getD q.number then Blocker.none else Blocker.early) = blocker
  generalize hx : (State.writeResult _ arm k .taken none) = x
  have mem : x.mem = s.mem.write (slotBase arm k + 9) 1 := by
    rw [← hx]
    rfl
  have canonical : x.memoryOk := (congrArg Memory.wf mem).trans (Memory.wf_write _ _ wf)
  have taken : x.word (slotBase arm k + 9) = 1 := by
    rw [State.word, mem]
    exact Memory.read_write_same _ _ wf
  have before : s.wordsKept x [slotBase arm k + 9] := fun a ha => by
    rw [State.word, mem]
    exact Memory.read_write_of_ne _ _ (by simpa using ha)
  obtain ⟨⟨state, zone⟩, reported⟩ :=
    State.writeSlotState_writeBlocker_words (s := x) (arm := arm) (k := k) (st := .waiting) canonical rfl blocker none
  have canonical' := ((x.writeSlotState_work arm k .waiting).trans (State.writeBlocker_work _ arm k blocker none)).canonical canonical
  generalize (x.writeSlotState arm k .waiting).writeBlocker arm k blocker none = y at state zone reported canonical'
  obtain ⟨remaining, none, number, answered, rest⟩ :=
    State.postTail_words canonical' arm k q.traverse.remaining q.number tag
  refine ⟨?_, ⟨?_, ?_⟩, remaining, none, number, answered,
    fun a ha => ?_⟩
  · rw [rest _ (by simp), reported _ (by simp), taken]
  · rw [rest _ (by simp), state, before _ (by simp)]
    rfl
  · rw [rest _ (by simp), zone]
    rfl
  · rw [mem_offsets] at ha
    rw [rest a (by simp; omega), reported a (by simp; omega), before a (by simp; omega)]
end Sys2Proof.Machine

open Sys2Proof Sys2Proof.Machine

/-- Settles O46: the fields of the request, and the entry, the list and the result half that a POST leaves. -/
theorem takenPostWaitsInOrder : Obligations.TakenPostWaitsInOrder := by
  refine ⟨fun ws _ => slotLayout_holds ws, fun s arm k q tag m wf command free mode outside => ?_⟩
  have taken : s.takeCommand arm k q tag = s.acceptPost arm k q tag := by
    simp [State.takeCommand, command, State.takePost, free]
  have work := s.acceptPost_work arm k q tag
  obtain ⟨result, shown, remaining, none, number, answered, kept⟩ := State.acceptPost_words wf arm k q tag
  have lane := s.acceptPost_lane arm k q tag
  have traverse := SlotRequest.traverse_of_mode mode
  have count : q.traverse.remaining = if m = .counted then q.budget else 0 := by rw [traverse]
  rw [taken]
  refine ⟨work.frame_of_claims (by simp), work.other, ?_, ?_, ?_, ?_, fun sorted => ?_,
    State.portsAfter_of_raised (by simp) (s.acceptPost_ports arm k q tag), result, shown, remaining.trans (by rw [count]), none,
    number, answered, kept⟩ <;> rw [lane]
  · rw [traverse]
    rfl
  · rfl
  · rfl
  · exact insertByAhead_perm _ k _
  · have same := Lane.aheadOf_set (s.lanes.get arm) k q.traverse
    unfold Lane.posted
    rw [same]
    refine insertByAhead_pairwise _ k (sorted.imp_of_mem fun {i j} hi hj le => ?_)
    have ne : ∀ x ∈ (s.lanes.get arm).waitingList, x ≠ k := fun x hx e => outside (e ▸ hx)
    simpa [Lane.aheadWith, ne i hi, ne j hj] using le
end

section
/-! SUPPORT. R171: two memories in canonical form with the same words are equal, so the order of writes to different words
does not matter. -/

namespace Sys2Proof.Machine

theorem Memory.wfFrom_cons {lo b : Nat} {w : Word} {m : Memory} : Memory.wfFrom lo ((b, w) :: m) = true ↔
    lo ≤ b ∧ w ≠ 0 ∧ Memory.wfFrom (b + 1) m = true := by
  simp only [Memory.wfFrom, Bool.and_eq_true, decide_eq_true_eq, and_assoc]
  rfl

theorem Memory.read_cons (b : Nat) (w : Word) (m : Memory) (a : Nat) :
    Memory.read ((b, w) :: m) a = if b = a then w else m.read a := rfl

/-- The first offset listed is the least whose word is not 0. -/
theorem Memory.first_le {lo b a : Nat} {w : Word} {m : Memory} (h : Memory.wfFrom lo ((b, w) :: m) = true)
    (listed : Memory.read ((b, w) :: m) a ≠ 0) : b ≤ a := by
  obtain ⟨-, nonzero, rest⟩ := Memory.wfFrom_cons.mp h
  by_contra below
  exact listed (Memory.read_below (Memory.wfFrom_cons.mpr ⟨le_refl b, nonzero, rest⟩) (Nat.lt_of_not_le below))

theorem Memory.eq_of_read {m m' : Memory} {lo : Nat} (h : Memory.wfFrom lo m = true) (h' : Memory.wfFrom lo m' = true)
    (same : ∀ a, m.read a = m'.read a) : m = m' := by
  induction m generalizing m' lo with
  | nil =>
    cases m' with
    | nil => rfl
    | cons c m' =>
      have first := same c.1
      rw [Memory.read_cons, if_pos rfl] at first
      exact absurd first.symm (Memory.wfFrom_cons.mp h').2.1
  | cons c m ih =>
    obtain ⟨b, w⟩ := c
    obtain ⟨-, nonzero, rest⟩ := Memory.wfFrom_cons.mp h
    have own : Memory.read ((b, w) :: m) b = w := if_pos rfl
    cases m' with
    | nil => exact absurd (own.symm.trans (same b)) nonzero
    | cons c' m' =>
      obtain ⟨b', w'⟩ := c'
      obtain ⟨-, nonzero', rest'⟩ := Memory.wfFrom_cons.mp h'
      have own' : Memory.read ((b', w') :: m') b' = w' := if_pos rfl
      obtain rfl : b = b' := le_antisymm (Memory.first_le h (by rwa [same, own'])) (Memory.first_le h' (by rwa [← same, own]))
      obtain rfl : w = w' := own.symm.trans ((same b).trans own')
      rw [ih rest rest' fun a => ?_]
      by_cases ha : b = a
      · subst ha
        rw [Memory.read_below rest (Nat.lt_succ_self b), Memory.read_below rest' (Nat.lt_succ_self b)]
      · simpa [Memory.read_cons, ha] using same a

theorem Memory.write_comm {m : Memory} (wf : m.wf = true) {a b : Nat} (ne : a ≠ b) (v w : Word) :
    (m.write a v).write b w = (m.write b w).write a v := by
  refine Memory.eq_of_read (lo := 0) (Memory.wf_write b w (Memory.wf_write a v wf)) (Memory.wf_write a v (Memory.wf_write b w wf))
    fun c => ?_
  rw [Memory.read_write _ _ _ (Memory.wf_write a v wf), Memory.read_write _ _ _ wf,
    Memory.read_write _ _ _ (Memory.wf_write b w wf), Memory.read_write _ _ _ wf]
  by_cases ha : c = a
  · simp [ha, ne]
  · simp [ha]

theorem Memory.write_write {m : Memory} (wf : m.wf = true) (a : Nat) (v w : Word) :
    (m.write a v).write a w = m.write a w := by
  refine Memory.eq_of_read (lo := 0) (Memory.wf_write a w (Memory.wf_write a v wf)) (Memory.wf_write a w wf) fun c => ?_
  rw [Memory.read_write _ _ _ (Memory.wf_write a v wf), Memory.read_write _ _ _ wf, Memory.read_write _ _ _ wf]
  by_cases ha : c = a <;> simp [ha]

end Sys2Proof.Machine
end

section
/-! SUPPORT. R80, R81: a slot's visit with no event between its reads, and the visits of a grant phase in their order. -/

namespace Sys2Proof.Machine

/-! ## A slot's visit -/

/-- The eight words of a slot's request half. -/
def State.requestWords (s : State) (arm : Arm) (k : Slot) : List Word :=
  (List.range 8).map (fun j => s.word (slotBase arm k + j))

theorem readRun_nil (n point a : Nat) (s : State) :
    (readRun [] n point a s).1 = (List.range n).map (fun j => s.word (a + j)) := by
  induction n generalizing point a with
  | zero => rfl
  | succ n ih =>
    rw [List.range_succ_eq_map, List.map_cons, List.map_map]
    refine congrArg (s.word a :: ·) ((ih (point + 1) (a + 1)).trans ?_)
    simp [Nat.add_assoc, Nat.add_comm 1]

/-- R80, R81: a visit takes a new command, as the request half holds it, and passes over any other slot. -/
theorem State.visitSlot_nil (s : State) (arm : Arm) (k : Slot) : s.visitSlot [] arm k =
    if s.slotNew arm k then s.takeCommand arm k (SlotRequest.ofWords (s.requestWords arm k)) (tagOf (s.word (slotBase arm k)))
    else s := by
  unfold State.visitSlot
  simp only [readRecord_nil, readRun_nil, Bool.and_true, decide_eq_true_eq]
  rfl

section
variable (s : State) (arm : Arm) (k : Slot)

theorem State.visitSlot_work : s.SlotWork (s.visitSlot [] arm k) arm k := by
  rw [State.visitSlot_nil]
  split
  · exact s.takeCommand_work arm k _ _
  · exact .refl s arm k

theorem tagOf_wordOf (tag : Byte) : tagOf (wordOf tag.toNat) = tag := by
  refine BitVec.eq_of_toNat_eq ?_
  have := tag.isLt
  simp only [tagOf, wordOf_toNat, BitVec.toNat_ofNat]
  omega

variable {s arm k}

/-- The words of a slot that work on another slot leaves alone. -/
theorem State.SlotWork.word_other {t : State} {x : Arm} {j : Slot} (h : s.SlotWork t x j) (ne : (x, j) ≠ (arm, k)) {i : Nat}
    (hi : i < 16) : t.word (slotBase arm k + i) = s.word (slotBase arm k + i) := by
  refine h.words _ fun m => ?_
  have hk := k.isLt
  have hj := j.isLt
  rw [mem_offsets] at m
  simp only [ne_eq, Prod.mk.injEq, not_and, Fin.ext_iff] at ne
  cases x <;> cases arm <;> simp only [slotBase, laneBase] at m <;> simp at ne <;> omega

/-- R171: work on a slot leaves its request half alone. -/
theorem State.SlotWork.word_request {t : State} (h : s.SlotWork t arm k) {i : Nat} (hi : i < 8) :
    t.word (slotBase arm k + i) = s.word (slotBase arm k + i) :=
  h.words _ fun m => by
    rw [mem_offsets] at m
    omega

/-- R80: after its visit a slot holds no new command. -/
theorem State.visitSlot_notNew (wf : s.memoryOk) : ¬ (s.visitSlot [] arm k).slotNew arm k := by
  rw [State.visitSlot_nil]
  split
  · obtain ⟨x, work, eq⟩ := s.takeCommand_tagged arm k (SlotRequest.ofWords (s.requestWords arm k)) (tagOf (s.word (slotBase arm k)))
    have post := (s.takeCommand_work arm k (SlotRequest.ofWords (s.requestWords arm k)) (tagOf (s.word (slotBase arm k)))).word_request
      (i := 0) (by omega)
    rw [Nat.add_zero] at post
    have tag : (x.writeTag arm k (tagOf (s.word (slotBase arm k)))).word (slotBase arm k + 8) =
      wordOf (tagOf (s.word (slotBase arm k))).toNat := Memory.read_write_same _ _ (work.canonical wf)
    rw [State.slotNew, post, eq, tag, tagOf_wordOf]
    exact fun h => h rfl
  · assumption

/-- A visit brings no new command to any slot. -/
theorem State.visitSlot_notNew_of_notNew {x : Arm} {j : Slot} (h : ¬ s.slotNew arm k) : ¬ (s.visitSlot [] x j).slotNew arm k := by
  by_cases same : (x, j) = (arm, k)
  · cases same
    rwa [State.visitSlot_nil, if_neg h]
  · have work := s.visitSlot_work x j
    have post := work.word_other same (i := 0) (by omega)
    rw [Nat.add_zero] at post
    rwa [State.slotNew, post, work.word_other same (by omega)]

end

/-! ## The visits in their order -/

/-- R80: lane A and then lane B, each in slot order. -/
def visitOrder : List (Arm × Slot) := slotOrder.map (Prod.mk .a) ++ slotOrder.map (Prod.mk .b)

theorem mem_visitOrder (x : Arm × Slot) : x ∈ visitOrder := by
  obtain ⟨arm, k⟩ := x
  cases arm <;> simp [visitOrder, mem_slotOrder]

theorem visitOrder_nodup : visitOrder.Nodup := by decide

/-- R80: the visits of a list, one after another. -/
def State.visits (s : State) (during : List Arrival) (l : List (Arm × Slot)) : State :=
  l.foldl (fun s x => s.visitSlot during x.1 x.2) s

theorem State.visits_append (s : State) (during : List Arrival) (l r : List (Arm × Slot)) :
    s.visits during (l ++ r) = (s.visits during l).visits during r := List.foldl_append

theorem State.visits_cons (s : State) (during : List Arrival) (x : Arm × Slot) (l : List (Arm × Slot)) :
    s.visits during (x :: l) = (s.visitSlot during x.1 x.2).visits during l := rfl

theorem State.intakeLane_eq_visits (s : State) (during : List Arrival) :
    (s.intakeLane during .a).intakeLane during .b = s.visits during visitOrder := by
  simp only [State.visits, visitOrder, List.foldl_append, List.foldl_map]
  rfl

theorem State.takenIn_eq_visits (s : State) : s.takenIn = s.visits [] visitOrder := by
  have order : List.finRange 16 = slotOrder := by decide
  rw [← State.intakeLane_eq_visits, State.takenIn, order]
  simp only [List.foldl_cons, List.foldl_nil, State.intakeLane]

section
variable {s : State}

theorem State.visits_work (s : State) (l : List (Arm × Slot)) : s.LaneWork (s.visits [] l) := by
  induction l generalizing s with
  | nil => exact .refl s
  | cons x l ih => exact (s.visitSlot_work x.1 x.2).frame.trans (ih _)

theorem State.visits_memoryOk (wf : s.memoryOk) (l : List (Arm × Slot)) : (s.visits [] l).memoryOk := by
  induction l generalizing s with
  | nil => exact wf
  | cons x l ih => exact ih ((s.visitSlot_work x.1 x.2).canonical wf)

/-- The words of a slot that is not visited. -/
theorem State.visits_word {l : List (Arm × Slot)} {arm : Arm} {k : Slot} (h : (arm, k) ∉ l) {i : Nat} (hi : i < 16) :
    (s.visits [] l).word (slotBase arm k + i) = s.word (slotBase arm k + i) := by
  induction l generalizing s with
  | nil => rfl
  | cons x l ih =>
    rw [List.mem_cons, not_or] at h
    obtain ⟨ne, rest⟩ := h
    exact (ih rest).trans ((s.visitSlot_work x.1 x.2).word_other (Ne.symm ne) hi)

theorem State.visits_setWaiting (s : State) (w : List (List Request)) (l : List (Arm × Slot)) :
    (s.setWaiting w).visits [] l = (s.visits [] l).setWaiting w := by
  induction l generalizing s with
  | nil => rfl
  | cons x l ih => rw [State.visits_cons, State.visitSlot_setWaiting, ih]; rfl

/-- R80: visits of slots that hold no new command change nothing. -/
theorem State.visits_of_notNew (h : ∀ arm k, ¬ s.slotNew arm k) (l : List (Arm × Slot)) : s.visits [] l = s := by
  induction l with
  | nil => rfl
  | cons x l ih => rw [State.visits_cons, State.visitSlot_nil, if_neg (h x.1 x.2), ih]

/-- R80: once every slot has been visited no command is new. -/
theorem State.visits_notNew (wf : s.memoryOk) {l : List (Arm × Slot)} {arm : Arm} {k : Slot}
    (h : (arm, k) ∈ l ∨ ¬ s.slotNew arm k) : ¬ (s.visits [] l).slotNew arm k := by
  induction l generalizing s with
  | nil => exact h.resolve_left List.not_mem_nil
  | cons x l ih =>
    refine ih ((s.visitSlot_work x.1 x.2).canonical wf) ?_
    obtain h | h := h
    · obtain rfl | rest := List.mem_cons.mp h
      · exact .inr (State.visitSlot_notNew wf)
      · exact .inl rest
    · exact .inr (State.visitSlot_notNew_of_notNew h)

end

/-! ## The grant phase after its intake -/

/-- R106, R74, R104: what a grant phase without HOLD does once the commands are taken. -/
def State.afterIntake (s : State) : State := s.decideGrants.captureView.endGrantPhase

theorem State.grantPhaseBody_nil {s : State} (hold : s.survey.hold = false) :
    s.grantPhaseBody [] = (s.visits [] visitOrder).afterIntake := by
  have later : ∀ x : State, x.arriveFrom [] 321 = x := fun _ => rfl
  rw [← State.intakeLane_eq_visits]
  simp only [State.grantPhaseBody, hold, Bool.false_eq_true, if_false, State.arriveAt_nil, later, State.afterIntake]

/-- R69, R80: a grant phase that is due, without HOLD. -/
theorem exec_surveyGrantPhase_of_readyFor {s : State} (due : s.readyFor .grantPhase) (hold : s.survey.hold = false) :
    exec (.surveyGrantPhase []) s = .next ((s.dropRequest .grantPhase).visits [] visitOrder).afterIntake :=
  congrArg Host.Outcome.next ((State.serve_of_readyFor due _).trans (State.grantPhaseBody_nil hold))

end Sys2Proof.Machine
end

section
/-! SUPPORT. R80, R171: a word of a request half that a port rewrites passes through the rest of a grant phase: what the phase
does is the same, but for that word. -/

namespace Sys2Proof.Machine

/-- The state `t` is `s` with a port's word `a` rewritten to `v`. -/
structure State.Rewritten (a : Nat) (v : Word) (s t : State) : Prop where
  eq : t = s.writeWord a v
  canonical : s.memoryOk
  port : portWritten a = true

theorem portWritten_of_plain {a : Nat} (h : plainWord a = true) : portWritten a = false := by
  simp only [plainWord, Bool.and_eq_true, Bool.not_eq_true'] at h
  exact h.1.1.1

section
variable {a : Nat} {v : Word} {s t : State}

theorem State.Rewritten.word (h : Rewritten a v s t) {b : Nat} (ne : b ≠ a) : t.word b = s.word b := by
  rw [h.eq]
  exact Memory.read_write_of_ne _ _ ne

theorem State.Rewritten.word_of_plain (h : Rewritten a v s t) {b : Nat} (plain : plainWord b = true) : t.word b = s.word b :=
  h.word fun e => by simpa [← e, portWritten_of_plain plain] using h.port

/-- Work that does not see memory. -/
theorem State.Rewritten.unseen (h : Rewritten a v s t) {F : State → State} (commutes : F (s.writeWord a v) = (F s).writeWord a v)
    (mem : (F s).mem = s.mem) : Rewritten a v (F s) (F t) where
  eq := by rw [h.eq, commutes]
  canonical := (congrArg Memory.wf mem).trans h.canonical
  port := h.port

theorem State.Rewritten.writeWord (h : Rewritten a v s t) {b : Nat} (plain : plainWord b = true) (w : Word) :
    Rewritten a v (s.writeWord b w) (t.writeWord b w) where
  eq := by
    have ne : a ≠ b := fun e => by simpa [e, portWritten_of_plain plain] using h.port
    rw [h.eq]
    exact congrArg s.setMem (Memory.write_comm h.canonical ne v w)
  canonical := Memory.wf_write b w h.canonical
  port := h.port

theorem State.Rewritten.writeWords (h : Rewritten a v s t) {b : Nat} {ws : List Word} (plain : ∀ k < ws.length, plainWord (b + k) = true) :
    Rewritten a v (s.writeWords b ws) (t.writeWords b ws) := by
  induction ws generalizing s t b with
  | nil => exact h
  | cons w ws ih =>
    refine ih (h.writeWord (plain 0 (by simp)) w) fun k hk => ?_
    rw [show b + 1 + k = b + (k + 1) by omega]
    exact plain (k + 1) (by simpa using hk)

theorem State.Rewritten.foldl {α : Type} {F : State → α → State} (h : Rewritten a v s t)
    (step : ∀ {s t : State} (x : α), Rewritten a v s t → Rewritten a v (F s x) (F t x)) (l : List α) :
    Rewritten a v (l.foldl F s) (l.foldl F t) := by
  induction l generalizing s t with
  | nil => exact h
  | cons x l ih => exact ih (step x h)

/-- What a rewritten word leaves of State. -/
theorem State.Rewritten.lanes (h : Rewritten a v s t) : t.lanes = s.lanes := by rw [h.eq]; rfl
theorem State.Rewritten.active (h : Rewritten a v s t) : t.active = s.active := by rw [h.eq]; rfl
theorem State.Rewritten.survey (h : Rewritten a v s t) : t.survey = s.survey := by rw [h.eq]; rfl
theorem State.Rewritten.entry (h : Rewritten a v s t) (arm : Arm) (k : Slot) : t.entry arm k = s.entry arm k := by rw [h.eq]; rfl

/-! ## Slot commands (R80–R86) -/

variable (arm : Arm) (k : Slot)

theorem State.Rewritten.raise (h : Rewritten a v s t) (f : Flag) (p : Port) : Rewritten a v (s.raise f p) (t.raise f p) :=
  h.unseen (F := fun s => s.raise f p) rfl rfl

theorem State.Rewritten.modLane (h : Rewritten a v s t) (g : Lane → Lane) : Rewritten a v (s.modLane arm g) (t.modLane arm g) :=
  h.unseen (F := fun s => s.modLane arm g) rfl rfl

theorem State.Rewritten.setSurvey (h : Rewritten a v s t) (w : Survey) : Rewritten a v (s.setSurvey w) (t.setSurvey w) :=
  h.unseen (F := fun s => s.setSurvey w) rfl rfl

theorem State.Rewritten.writeSlot (h : Rewritten a v s t) {j : Nat} (low : 8 ≤ j) (high : j < 16) (w : Word) :
    Rewritten a v (s.writeWord (slotBase arm k + j) w) (t.writeWord (slotBase arm k + j) w) :=
  h.writeWord (plainWord_slot arm k j low high) w

theorem State.Rewritten.writeSlotState (h : Rewritten a v s t) (st : SlotState) :
    Rewritten a v (s.writeSlotState arm k st) (t.writeSlotState arm k st) := by
  unfold State.writeSlotState
  dsimp only
  rw [h.entry, h.word_of_plain (plainWord_slot arm k 10 (by omega) (by omega))]
  have written := (h.modLane arm fun l => { l with slots := l.slots.set k.val { (s.entry arm k) with state := st } }).writeSlot arm k
    (j := 10) (by omega) (by omega) (putBits (s.word (slotBase arm k + 10)) 0 3 st.code)
  unfold State.raiseIf
  split
  · exact written.raise .lane arm
  · exact written

theorem State.Rewritten.writeBlocker (h : Rewritten a v s t) (b : Blocker) (zone : Option Nat) :
    Rewritten a v (s.writeBlocker arm k b zone) (t.writeBlocker arm k b zone) := by
  unfold State.writeBlocker
  dsimp only
  rw [h.word_of_plain (plainWord_slot arm k 10 (by omega) (by omega))]
  exact (h.writeSlot arm k (j := 10) (by omega) (by omega) _).writeSlot arm k (j := 11) (by omega) (by omega) _

theorem State.Rewritten.writeResult (h : Rewritten a v s t) (r : SlotResult) (x : Option SlotReason) :
    Rewritten a v (s.writeResult arm k r x) (t.writeResult arm k r x) :=
  (h.writeSlot arm k (j := 9) (by omega) (by omega) _).raise .lane arm

theorem State.Rewritten.writeTag (h : Rewritten a v s t) (tag : Byte) : Rewritten a v (s.writeTag arm k tag) (t.writeTag arm k tag) :=
  h.writeSlot arm k (j := 8) (by omega) (by omega) _

theorem State.Rewritten.writeRemaining (h : Rewritten a v s t) (n : Nat) :
    Rewritten a v (s.writeRemaining arm k n) (t.writeRemaining arm k n) := by
  unfold State.writeRemaining State.setEntry
  dsimp only
  rw [h.entry]
  exact (h.modLane arm _).writeSlot arm k (j := 12) (by omega) (by omega) _

theorem State.Rewritten.releaseTraverse (h : Rewritten a v s t) (tr : Option Traverse) :
    Rewritten a v (s.releaseTraverse arm tr) (t.releaseTraverse arm tr) := by
  unfold State.releaseTraverse
  rw [h.active]
  split
  · exact h.unseen (F := fun s => s.release arm _) rfl rfl
  · exact h

theorem State.Rewritten.endGranted (h : Rewritten a v s t) : Rewritten a v (s.endGranted arm k) (t.endGranted arm k) := by
  unfold State.endGranted
  rw [h.entry]
  exact ((h.writeSlotState arm k .done).modLane arm _).releaseTraverse arm _

theorem State.Rewritten.endWaiting (h : Rewritten a v s t) (st : SlotState) :
    Rewritten a v (s.endWaiting arm k st) (t.endWaiting arm k st) :=
  ((h.writeSlotState arm k st).modLane arm _).writeBlocker arm k .none none

theorem State.Rewritten.refuseCommand (h : Rewritten a v s t) (r : SlotReason) (tag : Byte) :
    Rewritten a v (s.refuseCommand arm k r tag) (t.refuseCommand arm k r tag) :=
  (h.writeResult arm k _ _).writeTag arm k tag

theorem State.Rewritten.acceptPost (h : Rewritten a v s t) (q : SlotRequest) (tag : Byte) :
    Rewritten a v (s.acceptPost arm k q tag) (t.acceptPost arm k q tag) := by
  unfold State.acceptPost State.setEntry
  dsimp only
  rw [h.entry, h.lanes]
  refine State.Rewritten.writeTag arm k ?_ tag
  refine State.Rewritten.writeWords ?_ fun j hj => ?_
  · exact (((((h.modLane arm _).modLane arm _).writeResult arm k .taken none).writeSlotState arm k .waiting).writeBlocker arm k
      _ none).writeRemaining arm k _
  · simp only [List.length_cons, List.length_nil] at hj
    rw [Nat.add_assoc]
    exact plainWord_slot arm k _ (by omega) (by omega)

theorem State.Rewritten.takeCommand (h : Rewritten a v s t) (q : SlotRequest) (tag : Byte) :
    Rewritten a v (s.takeCommand arm k q tag) (t.takeCommand arm k q tag) := by
  have answered : ∀ {s t : State}, Rewritten a v s t → Rewritten a v ((s.writeResult arm k .taken none).writeTag arm k tag)
      ((t.writeResult arm k .taken none).writeTag arm k tag) := fun h => (h.writeResult arm k _ _).writeTag arm k tag
  unfold State.takeCommand
  split
  · have same : t.postRefusal arm k q = s.postRefusal arm k q := by rw [h.eq]; rfl
    unfold State.takePost
    rw [same]
    split
    · exact h.refuseCommand arm k _ tag
    · exact h.acceptPost arm k q tag
  · unfold State.takeFinish
    rw [h.entry]
    split
    case h_1 => exact answered (h.endGranted arm k)
    all_goals exact h.refuseCommand arm k _ tag
  · unfold State.takeWithdraw
    rw [h.entry]
    split
    case h_1 => exact answered (h.endWaiting arm k .withdrawn)
    case h_2 => exact answered (h.endGranted arm k)
    all_goals exact h.refuseCommand arm k _ tag
  · exact h.refuseCommand arm k _ tag

/-- R80: a visit of another slot. -/
theorem State.Rewritten.visitSlot {x : Arm} {j : Slot} {i : Nat} (h : Rewritten (slotBase x j + i) v s t) (hi : i < 16)
    (ne : (arm, k) ≠ (x, j)) : Rewritten (slotBase x j + i) v (s.visitSlot [] arm k) (t.visitSlot [] arm k) := by
  have kept : ∀ n < 16, t.word (slotBase arm k + n) = s.word (slotBase arm k + n) := fun n hn => h.word fun e => by
    have hk := k.isLt
    have hj := j.isLt
    simp only [ne_eq, Prod.mk.injEq, not_and, Fin.ext_iff] at ne
    cases x <;> cases arm <;> simp only [slotBase, laneBase] at e <;> simp at ne <;> omega
  have request : t.requestWords arm k = s.requestWords arm k :=
    List.map_congr_left fun n hn => kept n (by have := List.mem_range.mp hn; omega)
  have post := kept 0 (by omega)
  rw [Nat.add_zero] at post
  rw [State.visitSlot_nil, State.visitSlot_nil]
  simp only [State.slotNew, post, kept 8 (by omega), request]
  split
  · exact h.takeCommand arm k _ _
  · exact h

theorem State.Rewritten.visits {x : Arm} {j : Slot} {i : Nat} (h : Rewritten (slotBase x j + i) v s t) (hi : i < 16)
    {l : List (Arm × Slot)} (out : (x, j) ∉ l) : Rewritten (slotBase x j + i) v (s.visits [] l) (t.visits [] l) := by
  induction l generalizing s t with
  | nil => exact h
  | cons y l ih =>
    rw [List.mem_cons, not_or] at out
    obtain ⟨ne, rest⟩ := out
    exact ih (h.visitSlot y.1 y.2 hi (Ne.symm ne)) rest

/-! ## The grant decision (R106–R118) and the end of the phase -/

theorem State.Rewritten.writeBlockers (h : Rewritten a v s t) (f : Finding) :
    Rewritten a v (s.writeBlockers arm f) (t.writeBlockers arm f) := by
  unfold State.writeBlockers
  rw [h.lanes]
  exact h.foldl (F := fun s x => s.writeBlocker arm x (f.blockerFor x).1 (f.blockerFor x).2)
    (fun x h => h.writeBlocker arm x _ _) _

theorem State.Rewritten.grant (h : Rewritten a v s t) (z : ZoneTable) (tr : Traverse) :
    Rewritten a v (s.grant z arm k tr) (t.grant z arm k tr) := by
  have same : t.claimable arm (z.setHas tr.zones) = s.claimable arm (z.setHas tr.zones) := by rw [h.eq]; rfl
  unfold State.grant
  rw [same, h.survey]
  split
  · have claimed := h.unseen (F := fun s => s.claim arm (z.setHas tr.zones)) rfl rfl
    exact (((claimed.modLane arm _).writeSlotState arm k .granted).writeBlocker arm k .none none).writeSlot arm k (j := 13)
      (by omega) (by omega) _
  · exact h

theorem State.Rewritten.grantFound (h : Rewritten a v s t) (z : ZoneTable) (f : Finding) :
    Rewritten a v (s.grantFound z arm f) (t.grantFound z arm f) := by
  cases f with
  | noHead => exact h
  | blocked _ _ _ => exact h
  | grantable k tr => exact h.grant arm k z tr

theorem State.Rewritten.yieldLane (h : Rewritten a v s t) : Rewritten a v (s.yieldLane arm) (t.yieldLane arm) := by
  unfold State.yieldLane
  rw [h.lanes]
  exact (h.modLane arm _).foldl (F := fun s x => s.endWaiting arm x .yielded) (fun x h => h.endWaiting arm x .yielded) _

theorem State.Rewritten.updateStandoff (h : Rewritten a v s t) (z : ZoneTable) (b : Bool) :
    Rewritten a v (s.updateStandoff z b) (t.updateStandoff z b) := by
  unfold State.updateStandoff State.yield
  rw [h.survey]
  split
  · split
    · have yielded : Rewritten a v ((s.yieldLane s.survey.favouredNow.other).raiseBoth .standoff)
          ((t.yieldLane s.survey.favouredNow.other).raiseBoth .standoff) :=
        ((h.yieldLane s.survey.favouredNow.other).raise .standoff .a).raise .standoff .b
      dsimp only
      rw [yielded.survey]
      exact yielded.setSurvey _
    · exact h.setSurvey _
  · exact h.setSurvey _

theorem State.Rewritten.decideGrants (h : Rewritten a v s t) : Rewritten a v s.decideGrants t.decideGrants := by
  have found : ∀ z up x, t.find z up x = s.find z up x := fun z up x => by rw [h.eq]; rfl
  have settled : ∀ z fa fb, t.settle z fa fb = s.settle z fa fb := fun z fa fb => by rw [h.eq]; rfl
  have fence : t.refillFence = s.refillFence := by rw [h.eq]; rfl
  unfold State.decideGrants
  rw [h.active, h.survey]
  split
  · exact h.setSurvey _
  · dsimp only
    rw [fence, found, found, settled]
    exact (((((h.setSurvey _).writeBlockers .a _).writeBlockers .b _).grantFound .a _ _).grantFound .b _ _).updateStandoff _ _

theorem State.Rewritten.afterIntake (h : Rewritten a v s t) : Rewritten a v s.afterIntake t.afterIntake := by
  have decided := h.decideGrants
  unfold State.afterIntake
  generalize s.decideGrants = x at decided
  generalize t.decideGrants = y at decided
  have view : y.viewWord = x.viewWord := by rw [decided.eq]; rfl
  have captured : Rewritten a v x.captureView y.captureView := by
    unfold State.captureView
    rw [view]
    refine decided.writeWords fun j hj => ?_
    simp only [List.length_map, List.length_range] at hj
    exact plainWord_header _ (by omega) (by omega) (by omega)
  unfold State.endGrantPhase State.writeSurveyRecord
  rw [captured.survey]
  refine State.Rewritten.writeWords (State.Rewritten.writeWords (captured.setSurvey _) fun j hj => ?_) fun j hj => ?_
  all_goals
    simp only [List.length_cons, List.length_nil] at hj
    exact plainWord_header _ (by omega) (by omega) (by omega)

end
end Sys2Proof.Machine
end

section
/-! SUPPORT. R81: a port's write that falls within a slot's visit. It passes over the visits of the other slots; a post tag
rewritten after its first read leaves the slot; another word of the request half is taken as it was or as it is. -/

namespace Sys2Proof.Machine

/-! ## One arrival among the reads -/

theorem State.arriveWhen_single (s : State) (x : Arrival) (p : Nat → Bool) :
    s.arriveWhen [x] p = if p x.point then s.arrive x.event else s := rfl

theorem State.arriveAt_single (s : State) (x : Arrival) (point : Nat) :
    s.arriveAt [x] point = if x.point = point then s.arrive x.event else s := by
  simp [State.arriveAt, State.arriveWhen_single]

/-- A run of reads before which the arrival has fallen, or after which it falls. -/
theorem readRun_elsewhere {x : Arrival} {n point : Nat} (h : x.point < point ∨ point + n ≤ x.point) (a : Nat) (s : State) :
    readRun [x] n point a s = ((List.range n).map (fun j => s.word (a + j)), s) := by
  induction n generalizing point a with
  | zero => rfl
  | succ n ih =>
    rw [readRun, State.arriveAt_single, if_neg (by omega), ih (by omega), List.range_succ_eq_map, List.map_cons, List.map_map]
    simp [Nat.add_assoc, Nat.add_comm 1]

/-- A run of reads among which the arrival falls: the words before it are read as they were, the others as they are. -/
theorem readRun_among {x : Arrival} {n point : Nat} (h : point ≤ x.point ∧ x.point < point + n) (a : Nat) (s : State) :
    readRun [x] n point a s =
      ((List.range n).map (fun j => if point + j < x.point then s.word (a + j) else (s.arrive x.event).word (a + j)),
        s.arrive x.event) := by
  induction n generalizing point a s with
  | zero => omega
  | succ n ih =>
    rw [readRun, State.arriveAt_single, List.range_succ_eq_map, List.map_cons, List.map_map]
    by_cases now : x.point = point
    · rw [if_pos now, readRun_elsewhere (by omega)]
      simp [now, Nat.add_assoc, Nat.add_comm 1]
    · rw [if_neg now, ih (by omega)]
      simp [show point < x.point by omega, Nat.add_assoc, Nat.add_comm 1]

/-- The points of a slot's visit. -/
abbrev inVisit (arm : Arm) (k : Slot) (point : Nat) : Prop := visitPoint arm k ≤ point ∧ point < visitPoint arm k + 10

/-- Every visit has points of its own. -/
theorem inVisit_unique {arm x : Arm} {k j : Slot} {point : Nat} (h : inVisit arm k point) (h' : inVisit x j point) :
    (arm, k) = (x, j) := by
  have hk := k.isLt
  have hj := j.isLt
  cases arm <;> cases x <;> simp only [inVisit, visitPoint] at h h' <;> simp only [Prod.mk.injEq, Fin.ext_iff] <;> simp <;> omega

theorem inVisit_lt {arm : Arm} {k : Slot} {point : Nat} (h : inVisit arm k point) : point < 320 := by
  have hk := k.isLt
  cases arm <;> simp only [inVisit, visitPoint] at h <;> omega

/-- A visit does not see an arrival at another's point. -/
theorem State.visitSlot_elsewhere {x : Arrival} {arm : Arm} {k : Slot} (h : ¬ inVisit arm k x.point) (s : State) :
    s.visitSlot [x] arm k = s.visitSlot [] arm k := by
  have read : readRecord [x] (visitPoint arm k) (slotBase arm k) (slotBase arm k + 8) 8 s =
      readRecord [] (visitPoint arm k) (slotBase arm k) (slotBase arm k + 8) 8 s := by
    rw [readRecord_nil, readRun_nil]
    unfold readRecord
    dsimp only
    rw [State.arriveAt_single, if_neg (by omega), readRun_elsewhere (by omega), State.arriveAt_single, if_neg (by omega)]
    simp
  unfold State.visitSlot
  dsimp only
  rw [read]

theorem State.visits_elsewhere {x : Arrival} {arm : Arm} {k : Slot} (h : inVisit arm k x.point) {l : List (Arm × Slot)}
    (out : (arm, k) ∉ l) (s : State) : s.visits [x] l = s.visits [] l := by
  induction l generalizing s with
  | nil => rfl
  | cons y l ih =>
    rw [List.mem_cons, not_or] at out
    obtain ⟨ne, rest⟩ := out
    rw [State.visits_cons, State.visitSlot_elsewhere fun h' => ne (inVisit_unique h h'), ih rest]
    rfl

/-- The record of a slot within whose visit an event arrives. -/
theorem readRecord_within {x : Arrival} {arm : Arm} {k : Slot} (h : inVisit arm k x.point) (s : State) :
    let b := slotBase arm k
    let t := s.arrive x.event
    let first := if x.point = visitPoint arm k then t else s
    readRecord [x] (visitPoint arm k) b (b + 8) 8 s =
      { tag := tagOf (first.word b), isNew := decide (tagOf (first.word b) ≠ tagOf (first.word (b + 8)))
        agrees := decide (tagOf (t.word b) = tagOf (first.word b))
        words := (List.range 8).map
          (fun n => if visitPoint arm k + 1 + n < x.point then s.word (b + n) else t.word (b + n))
        after := t } := by
  unfold readRecord
  dsimp only
  simp only [State.arriveAt_single]
  obtain first | among | last : x.point = visitPoint arm k ∨ (visitPoint arm k + 1 ≤ x.point ∧ x.point < visitPoint arm k + 1 + 8) ∨
      x.point = visitPoint arm k + 1 + 8 := by omega
  · have later : ∀ n, ¬ visitPoint arm k + 1 + n < x.point := fun n => by omega
    rw [readRun_elsewhere (by omega), if_pos first, if_neg (by omega)]
    simp only [later, if_false]
  · rw [if_neg (by omega), readRun_among among, if_neg (by omega)]
  · have sooner : ∀ n ∈ List.range 8, visitPoint arm k + 1 + n < x.point := fun n hn => by
      have := List.mem_range.mp hn
      omega
    rw [if_neg (by omega), readRun_elsewhere (by omega), if_pos last]
    congr 1
    exact List.map_congr_left fun n hn => (if_pos (sooner n hn)).symm

/-- A visit within which an event arrives. -/
theorem State.visitSlot_within {x : Arrival} {arm : Arm} {k : Slot} (h : inVisit arm k x.point) (s : State) :
    s.visitSlot [x] arm k =
      let b := slotBase arm k
      let t := s.arrive x.event
      let first := if x.point = visitPoint arm k then t else s
      let words := (List.range 8).map
        (fun n => if visitPoint arm k + 1 + n < x.point then s.word (b + n) else t.word (b + n))
      if tagOf (first.word b) ≠ tagOf (first.word (b + 8)) ∧ tagOf (t.word b) = tagOf (first.word b) then
        t.takeCommand arm k (SlotRequest.ofWords words) (tagOf (first.word b))
      else t := by
  have read := readRecord_within h s
  dsimp only at read ⊢
  unfold State.visitSlot
  dsimp only
  rw [read]
  simp only [Bool.and_eq_true, decide_eq_true_eq]

/-! ## A port's write among the reads (R81) -/

/-- R171: a slot's request half is among those of its lane. -/
theorem inLaneRequest_slot (arm : Arm) (k : Slot) {i : Nat} (hi : i < 8) : inLaneRequest arm (slotBase arm k + i) = true := by
  have hk := k.isLt
  have half : laneBase arm ≤ slotBase arm k + i ∧ slotBase arm k + i < laneBase arm + 256 ∧ (slotBase arm k + i) % 16 < 8 := by
    cases arm <;> simp only [slotBase, laneBase] <;> omega
  simpa [inLaneRequest, and_assoc] using half

theorem State.arrive_portWrite {s : State} (ready : s.ready = true) {arm : Arm} {k : Slot} {addr : BitVec 11} {i : Nat} (hi : i < 8)
    (place : addr.toNat = slotBase arm k + i) (v : Word) : s.arrive (.portWrite arm addr v) = s.writeWord (slotBase arm k + i) v := by
  simp [State.arrive, State.portWrite, ready, place, State.mayWrite, inRequestHalf, inLaneRequest_slot arm k hi]

theorem portWritten_request (arm : Arm) (k : Slot) {i : Nat} (hi : i < 8) : portWritten (slotBase arm k + i) = true := by
  have lane := inLaneRequest_slot arm k hi
  cases arm <;> simp [portWritten, inRequestHalf, lane]

section
variable {s : State} {arm : Arm} {k : Slot} {x : Arrival} {v : Word}

/-- R81: a post tag rewritten after its first read: the slot is left, with its result half. -/
theorem State.visitSlot_rewrittenTag (h : inVisit arm k x.point) (wf : s.memoryOk) (late : x.point ≠ visitPoint arm k)
    (write : s.arrive x.event = s.writeWord (slotBase arm k) v) (differs : tagOf v ≠ tagOf (s.word (slotBase arm k))) :
    s.visitSlot [x] arm k = s.writeWord (slotBase arm k) v := by
  have read : (s.writeWord (slotBase arm k) v).word (slotBase arm k) = v := Memory.read_write_same _ _ wf
  rw [State.visitSlot_within h]
  dsimp only
  rw [write, if_neg late, read, if_neg fun both => differs both.2]

/-- R81: another word rewritten during the visit, before it is read. -/
theorem State.visitSlot_rewrittenBefore {i : Nat} (h : inVisit arm k x.point) (low : 1 ≤ i) (high : i ≤ 7)
    (write : s.arrive x.event = s.writeWord (slotBase arm k + i) v) (soon : x.point ≤ visitPoint arm k + 1 + i) :
    s.visitSlot [x] arm k = (s.writeWord (slotBase arm k + i) v).visitSlot [] arm k := by
  have other : ∀ n, n ≠ i → (s.writeWord (slotBase arm k + i) v).word (slotBase arm k + n) = s.word (slotBase arm k + n) :=
    fun n hn => Memory.read_write_of_ne _ _ (by omega)
  have post := other 0 (by omega)
  rw [Nat.add_zero] at post
  have first : ∀ c : Prop, [Decidable c] → (if c then s.writeWord (slotBase arm k + i) v else s).word (slotBase arm k) =
      (s.writeWord (slotBase arm k + i) v).word (slotBase arm k) := fun c _ => by split <;> simp [post]
  have result : ∀ c : Prop, [Decidable c] → (if c then s.writeWord (slotBase arm k + i) v else s).word (slotBase arm k + 8) =
      (s.writeWord (slotBase arm k + i) v).word (slotBase arm k + 8) := fun c _ => by split <;> simp [other 8 (by omega)]
  have words : (List.range 8).map (fun n => if visitPoint arm k + 1 + n < x.point then s.word (slotBase arm k + n)
      else (s.writeWord (slotBase arm k + i) v).word (slotBase arm k + n)) =
        (s.writeWord (slotBase arm k + i) v).requestWords arm k := List.map_congr_left fun n _ => by
    split
    · exact (other n (by omega)).symm
    · rfl
  rw [State.visitSlot_within h, State.visitSlot_nil]
  dsimp only
  rw [write, words, first, result]
  simp only [and_true]

/-- R81: another word rewritten during the visit, after it is read. -/
theorem State.visitSlot_rewrittenAfter {i : Nat} (h : inVisit arm k x.point) (low : 1 ≤ i) (high : i ≤ 7) (wf : s.memoryOk)
    (write : s.arrive x.event = s.writeWord (slotBase arm k + i) v) (late : visitPoint arm k + 1 + i < x.point) :
    Rewritten (slotBase arm k + i) v (s.visitSlot [] arm k) (s.visitSlot [x] arm k) := by
  have rewritten : Rewritten (slotBase arm k + i) v s (s.writeWord (slotBase arm k + i) v) :=
    ⟨rfl, wf, portWritten_request arm k (by omega)⟩
  have other : ∀ n, n ≠ i → (s.writeWord (slotBase arm k + i) v).word (slotBase arm k + n) = s.word (slotBase arm k + n) :=
    fun n hn => Memory.read_write_of_ne _ _ (by omega)
  have post := other 0 (by omega)
  rw [Nat.add_zero] at post
  have words : (List.range 8).map (fun n => if visitPoint arm k + 1 + n < x.point then s.word (slotBase arm k + n)
      else (s.writeWord (slotBase arm k + i) v).word (slotBase arm k + n)) = s.requestWords arm k :=
    List.map_congr_left fun n _ => by
      split
      · rfl
      · exact other n (by omega)
  rw [State.visitSlot_within h, State.visitSlot_nil]
  dsimp only
  rw [write, words, if_neg (by omega : x.point ≠ visitPoint arm k), post]
  simp only [and_true]
  split
  · exact rewritten.takeCommand arm k _ _
  · exact rewritten

end

/-! ## The grant phase -/

/-- R80: a grant phase without HOLD, with an event within one visit. -/
theorem exec_surveyGrantPhase_within {s : State} {x : Arrival} {arm : Arm} {k : Slot} (due : s.readyFor .grantPhase)
    (hold : s.survey.hold = false) (h : inVisit arm k x.point) {before after : List (Arm × Slot)}
    (order : visitOrder = before ++ (arm, k) :: after) (first : (arm, k) ∉ before) (rest : (arm, k) ∉ after) :
    exec (.surveyGrantPhase [x]) s =
      .next (((((s.dropRequest .grantPhase).visits [] before).visitSlot [x] arm k).visits [] after).afterIntake) := by
  have point := inVisit_lt h
  have at320 : ∀ t : State, t.arriveAt [x] 320 = t := fun t => by rw [State.arriveAt_single, if_neg (by omega)]
  have later : ∀ t : State, t.arriveFrom [x] 321 = t := fun t => by
    simp [State.arriveFrom, State.arriveWhen_single, show ¬ 321 ≤ x.point by omega]
  have hold' : (s.dropRequest .grantPhase).survey.hold = false := hold
  refine congrArg Host.Outcome.next ((State.serve_of_readyFor due _).trans ?_)
  simp only [State.grantPhaseBody, hold', Bool.false_eq_true, if_false, at320, later]
  rw [State.intakeLane_eq_visits, order, State.visits_append, State.visits_cons, State.visits_elsewhere h first,
    State.visits_elsewhere h rest]
  rfl

/-- R80, R87: a grant phase without HOLD is the grant phase on the state which the visits leave. -/
theorem exec_surveyGrantPhase_takenIn {s : State} (wf : s.memoryOk) (due : s.readyFor .grantPhase) (hold : s.survey.hold = false) :
    exec (.surveyGrantPhase []) s = exec (.surveyGrantPhase []) s.takenIn := by
  have work := s.visits_work visitOrder
  have waiting : (s.visits [] visitOrder).waiting = s.waiting := work.waiting
  have enf : (s.visits [] visitOrder).enf = s.enf := work.enf
  have survey : (s.visits [] visitOrder).survey = s.survey := work.survey
  have calm : ∀ arm k, ¬ (s.visits [] visitOrder).slotNew arm k := fun arm k =>
    State.visits_notNew wf (.inl (mem_visitOrder (arm, k)))
  have due' : (s.visits [] visitOrder).readyFor .grantPhase := by
    unfold State.readyFor State.servable
    rw [waiting, enf]
    exact due
  have later : (s.dropRequest .grantPhase).visits [] visitOrder =
      ((s.visits [] visitOrder).dropRequest .grantPhase).visits [] visitOrder := by
    simp only [State.dropRequest, State.visits_setWaiting, State.visits_of_notNew calm, waiting]
  rw [State.takenIn_eq_visits, exec_surveyGrantPhase_of_readyFor due hold,
    exec_surveyGrantPhase_of_readyFor due' (by rw [survey]; exact hold), later]

/-- Each slot is visited once. -/
theorem visitOrder_split (arm : Arm) (k : Slot) :
    ∃ before after, visitOrder = before ++ (arm, k) :: after ∧ (arm, k) ∉ before ∧ (arm, k) ∉ after := by
  obtain ⟨before, after, order⟩ := List.append_of_mem (mem_visitOrder (arm, k))
  have nodup := visitOrder_nodup
  rw [order, List.nodup_append, List.nodup_cons] at nodup
  obtain ⟨-, ⟨rest, -⟩, apart⟩ := nodup
  exact ⟨before, after, order, fun m => apart _ m _ (List.mem_cons_self ..) rfl, rest⟩

/-- R82: the conditions in their order. -/
theorem State.postRefusal_order (s : State) (arm : Arm) (k : Slot) (q : SlotRequest) :
    let x := s.postRefusal arm k q
    let l := s.lanes.get arm
    let busy := (s.entry arm k).state = .waiting ∨ (s.entry arm k).state = .granted
    (busy → x = some .slotBusy) ∧ (¬ busy → q.armTag ≠ armTagCode arm → x = some .wrongArm) ∧
      (¬ busy → ¬ q.armTag ≠ armTagCode arm → s.active = none → x = some .noTable) ∧
      ∀ t, s.active = some t → ¬ busy → ¬ q.armTag ≠ armTagCode arm →
        let badZone := q.zoneCount = 0 ∨ 6 < q.zoneCount ∨ ∃ z ∈ q.zones, t.nz.toNat ≤ z
        let live := ∃ j ∈ l.waitingList ++ l.grantedList, l.numberOf j = some q.number
        (q.mode = none → x = some .badMode) ∧ (q.mode ≠ none → badZone → x = some .badZone) ∧
        (q.mode ≠ none → ¬ badZone → live → x = some .duplicate) ∧
        (q.mode ≠ none → ¬ badZone → ¬ live → (l.next = none → x = none) ∧ ∀ n, l.next = some n →
          (32768 ≤ (q.number - n).toNat → x = some .stale) ∧
          (16 ≤ (q.number - n).toNat → (q.number - n).toNat < 32768 → x = some .far) ∧
          ((q.number - n).toNat < 16 → x = none)) := by
  have zones : ∀ t : ZoneTable, (q.zones.any (fun z => decide (t.nz.toNat ≤ z)) = true ↔ ∃ z ∈ q.zones, t.nz.toNat ≤ z) := by
    simp
  have numbers : ((s.lanes.get arm).liveNumbers.contains q.number = true ↔
      ∃ j ∈ (s.lanes.get arm).waitingList ++ (s.lanes.get arm).grantedList, (s.lanes.get arm).numberOf j = some q.number) := by
    simp only [Lane.liveNumbers, List.contains_iff_mem, List.mem_filterMap]
  unfold State.postRefusal
  dsimp only
  refine ⟨fun busy => if_pos busy, fun free wrong => ?_, fun free right absent => ?_, fun t table free right => ?_⟩
  · rw [if_neg free, if_pos wrong]
  · rw [if_neg free, if_neg right, absent]
  · rw [if_neg free, if_neg right, table]
    simp only [zones, numbers]
    refine ⟨fun mode => if_pos mode, fun mode bad => ?_, fun mode good live => ?_, fun mode good new => ⟨fun next => ?_, fun n next =>
      ⟨fun stale => ?_, fun far near => ?_, fun near => ?_⟩⟩⟩
    · rw [if_neg mode, if_pos bad]
    · rw [if_neg mode, if_neg good, if_pos live]
    · rw [if_neg mode, if_neg good, if_neg new, next]
    · rw [if_neg mode, if_neg good, if_neg new, next]
      exact if_pos stale
    · rw [if_neg mode, if_neg good, if_neg new, next]
      simp only
      rw [if_neg (by omega), if_pos far]
    · rw [if_neg mode, if_neg good, if_neg new, next]
      simp only
      rw [if_neg (by omega), if_neg (by omega)]

/-- R80, R85, R86: the refusals of the four commands. -/
theorem State.takeCommand_refused {s : State} {arm : Arm} {k : Slot} {q : SlotRequest} {r : SlotReason}
    (why : (q.command = .post ∧ s.postRefusal arm k q = some r) ∨
      (q.command = .finish ∧ (s.entry arm k).state = .waiting ∧ r = .notGranted) ∨
      ((q.command = .finish ∨ q.command = .withdraw) ∧ (s.entry arm k).state ≠ .waiting ∧
        (s.entry arm k).state ≠ .granted ∧ r = .noTraverse) ∨ (q.command = .other ∧ r = .badCommand)) (tag : Byte) :
    s.takeCommand arm k q tag = s.refuseCommand arm k r tag := by
  unfold State.takeCommand
  obtain ⟨command, refusal⟩ | ⟨command, state, rfl⟩ | ⟨command, waiting, granted, rfl⟩ | ⟨command, rfl⟩ := why
  · simp [command, State.takePost, refusal]
  · simp [command, State.takeFinish, state]
  · obtain command | command := command
    · cases state : (s.entry arm k).state <;> simp_all [State.takeFinish]
    · cases state : (s.entry arm k).state <;> simp_all [State.takeWithdraw]
  · simp [command]

end Sys2Proof.Machine

open Sys2Proof Sys2Proof.Machine

/-- Settles O45: the intake visit by visit, with or without a write among the reads; the conditions; a refusal's result. -/
theorem refusedSlotCommandsChangeOnlyTheResult : Obligations.RefusedSlotCommandsChangeOnlyTheResult := by
  refine ⟨fun s arm k addr v j due wf ready hold place differs low high => ?_, fun s arm k addr v i j due wf ready hold place low
    high hj => ?_, fun s due wf hold => ?_, fun s arm k => ⟨fun new => ?_, fun old => ?_⟩, fun s arm k q => ?_,
    fun s arm k q tag r wf why => ?_⟩
  · obtain ⟨before, after, order, first, rest⟩ := visitOrder_split arm k
    have within : inVisit arm k (visitPoint arm k + j) := ⟨by omega, by omega⟩
    have wf0 : (s.dropRequest .grantPhase).memoryOk := wf
    have wfx := State.visits_memoryOk wf0 before
    have readyx : ((s.dropRequest .grantPhase).visits [] before).ready = true :=
      (State.visits_work (s.dropRequest .grantPhase) before).ready.trans ready
    have postx := State.visits_word (s := s.dropRequest .grantPhase) first (i := 0) (by omega)
    have resultx := State.visits_word (s := s.dropRequest .grantPhase) first (i := 8) (by omega)
    have calm : State.Rewritten (slotBase arm k + 0) (s.word (slotBase arm k + 8)) (s.dropRequest .grantPhase)
        ((s.withoutCommand (slotBase arm k) (slotBase arm k + 8)).dropRequest .grantPhase) :=
      ⟨rfl, wf, portWritten_request arm k (by omega)⟩
    have calmx := calm.visits (by omega) first
    have taken := exec_surveyGrantPhase_within (x := ⟨visitPoint arm k + j, .portWrite arm addr v⟩) due hold within order first rest
    have idle := exec_surveyGrantPhase_of_readyFor (s := s.withoutCommand (slotBase arm k) (slotBase arm k + 8)) due hold
    rw [order, State.visits_append, State.visits_cons] at idle
    generalize (s.dropRequest .grantPhase).visits [] before = x at *
    generalize ((s.withoutCommand (slotBase arm k) (slotBase arm k + 8)).dropRequest .grantPhase).visits [] before = y at *
    rw [Nat.add_zero] at postx calmx
    have old : ¬ y.slotNew arm k := by
      have tag : y.word (slotBase arm k) = s.word (slotBase arm k + 8) := by
        rw [calmx.eq]
        exact Memory.read_write_same _ _ wfx
      have result : y.word (slotBase arm k + 8) = s.word (slotBase arm k + 8) := (calmx.word (by omega)).trans resultx
      rw [State.slotNew, tag, result]
      exact fun h => h rfl
    have left := State.visitSlot_rewrittenTag (s := x) (x := ⟨visitPoint arm k + j, .portWrite arm addr v⟩) (v := v) within wfx (by dsimp only; omega)
      (State.arrive_portWrite (i := 0) readyx (by omega) place v) (by rw [postx]; exact differs)
    have apart : State.Rewritten (slotBase arm k) v y (x.writeWord (slotBase arm k) v) := by
      refine ⟨?_, (congrArg State.memoryOk calmx.eq).mpr (Memory.wf_write _ _ wfx), calmx.port⟩
      rw [calmx.eq]
      exact congrArg x.setMem (Memory.write_write wfx _ _ _).symm
    rw [State.visitSlot_nil, if_neg old] at idle
    rw [left] at taken
    refine ⟨_, idle, taken.trans ?_⟩
    rw [((apart.visits (i := 0) (by omega) rest).afterIntake).eq]
    rfl
  · obtain ⟨before, after, order, first, rest⟩ := visitOrder_split arm k
    have within : inVisit arm k (visitPoint arm k + j) := ⟨by omega, by omega⟩
    have wf0 : (s.dropRequest .grantPhase).memoryOk := wf
    have wfx := State.visits_memoryOk wf0 before
    have readyx : ((s.dropRequest .grantPhase).visits [] before).ready = true :=
      (State.visits_work (s.dropRequest .grantPhase) before).ready.trans ready
    have write := State.arrive_portWrite (i := i) readyx (by omega) place v
    have taken := exec_surveyGrantPhase_within (x := ⟨visitPoint arm k + j, .portWrite arm addr v⟩) due hold within order first rest
    obtain late | soon := Nat.lt_or_ge (1 + i) j
    · have idle := exec_surveyGrantPhase_of_readyFor due hold
      rw [order, State.visits_append, State.visits_cons] at idle
      have apart := State.visitSlot_rewrittenAfter (x := ⟨visitPoint arm k + j, .portWrite arm addr v⟩) within low high wfx write (by dsimp only; omega)
      refine .inr ⟨_, idle, taken.trans ?_⟩
      rw [place, ((apart.visits (by omega) rest).afterIntake).eq]
    · refine .inl (taken.trans ?_)
      have idle := exec_surveyGrantPhase_of_readyFor (s := s.writeWord (slotBase arm k + i) v) due hold
      have moved : State.Rewritten (slotBase arm k + i) v (s.dropRequest .grantPhase)
          ((s.writeWord (slotBase arm k + i) v).dropRequest .grantPhase) := ⟨rfl, wf, portWritten_request arm k (by omega)⟩
      rw [place, idle, order, State.visits_append, State.visits_cons, (moved.visits (by omega) first).eq,
        State.visitSlot_rewrittenBefore within low high write (by dsimp only; omega)]
  · exact ⟨exec_surveyGrantPhase_takenIn wf due hold, fun arm k => by
      rw [State.takenIn_eq_visits]
      exact State.visits_notNew wf (.inl (mem_visitOrder _))⟩
  · rw [State.visitSlot_nil, if_pos new]
    rfl
  · rw [State.visitSlot_nil, if_neg old]
  · have order := s.postRefusal_order arm k q
    cases arm <;> exact order
  · obtain ⟨result, answered, kept⟩ := State.result_words (arm := arm) (k := k) wf .refused (some r) tag
    dsimp only
    rw [State.takeCommand_refused why tag]
    exact ⟨rfl, State.portsAfter_of_raised rfl rfl, result, answered, kept⟩
end

section
/-! SUPPORT. R95, R97: one work after another on slots of a lane: what the run leaves of the rest, and of each of its slots. -/

namespace Sys2Proof.Machine

/-! ## What work on a lane's slots leaves -/

/-- The change from `s` to `u` is work on slots of the arm's lane: of State it touches that lane, the claim table, the flag LANE of
the lane's own port and memory, and of memory the lane's words. -/
structure State.LaneRun (s u : State) (arm : Arm) : Prop where
  frame : s.LaneWork u
  other : u.lanes.get arm.other = s.lanes.get arm.other
  ports : u.ports = s.ports ∨ u.ports = s.ports.modify arm (fun r => r.raised .lane)
  words : s.wordsKept u (offsets (laneBase arm) 256)
  canonical : s.memoryOk → u.memoryOk

/-- The slot stands in `u` as it does in `s`. -/
structure State.SlotSame (s u : State) (arm : Arm) (k : Slot) : Prop where
  entry : u.entry arm k = s.entry arm k
  words : ∀ i < 16, u.word (slotBase arm k + i) = s.word (slotBase arm k + i)
  canonical : s.memoryOk → u.memoryOk

section
variable {s t u : State} {arm : Arm} {k : Slot}

theorem State.LaneRun.refl (s : State) (arm : Arm) : s.LaneRun s arm := ⟨rfl, rfl, .inl rfl, fun _ _ => rfl, id⟩

theorem State.LaneRun.trans (h : s.LaneRun t arm) (h' : t.LaneRun u arm) : s.LaneRun u arm where
  frame := h.frame.trans h'.frame
  other := h'.other.trans h.other
  ports := by
    obtain h1 | h1 := h.ports <;> obtain h2 | h2 := h'.ports <;> simp [h2, h1]
  words a ha := (h'.words a ha).trans (h.words a ha)
  canonical := h'.canonical ∘ h.canonical

theorem State.SlotWork.laneRun (h : s.SlotWork u arm k) : s.LaneRun u arm where
  frame := h.frame
  other := h.other
  ports := h.ports
  words a ha := h.words a fun m => ha (by
    have hk := k.isLt
    rw [mem_offsets] at m ⊢
    simp only [slotBase] at m
    omega)
  canonical := h.canonical

theorem State.SlotSame.refl (s : State) (arm : Arm) (k : Slot) : s.SlotSame s arm k := ⟨rfl, fun _ _ => rfl, id⟩

theorem State.SlotSame.raise (s : State) (arm : Arm) (k : Slot) {f : Flag} {p : Port} : s.SlotSame (s.raise f p) arm k :=
  ⟨rfl, fun _ _ => rfl, id⟩

theorem State.SlotSame.trans (h : s.SlotSame t arm k) (h' : t.SlotSame u arm k) : s.SlotSame u arm k where
  entry := h'.entry.trans h.entry
  words i hi := (h'.words i hi).trans (h.words i hi)
  canonical := h'.canonical ∘ h.canonical

theorem State.SlotWork.slotSame {j : Slot} (h : s.SlotWork u arm j) (ne : k ≠ j) : s.SlotSame u arm k where
  entry := h.entries k ne
  words _ hi := h.word_other (fun e => ne (Prod.mk.inj e).2.symm) hi
  canonical := h.canonical

end

/-! ## Runs -/

section
variable {f : State → Slot → State} {arm : Arm} (work : ∀ (s : State) (k : Slot), s.SlotWork (f s k) arm k)
include work

theorem State.LaneRun.foldl (l : List Slot) (s : State) : s.LaneRun (l.foldl f s) arm := by
  induction l generalizing s with
  | nil => exact .refl s arm
  | cons j l ih => exact (work s j).laneRun.trans (ih _)

theorem State.SlotSame.foldl {l : List Slot} {k : Slot} (h : k ∉ l) (s : State) : s.SlotSame (l.foldl f s) arm k := by
  induction l generalizing s with
  | nil => exact .refl s arm k
  | cons j l ih =>
    rw [List.mem_cons, not_or] at h
    obtain ⟨ne, rest⟩ := h
    exact ((work s j).slotSame ne).trans (ih rest _)

/-- A slot that a run works on once: it is as the run found it before, and as that work leaves it after. -/
theorem State.slotRun {l : List Slot} {k : Slot} (nodup : l.Nodup) (h : k ∈ l) (s : State) :
    ∃ x, s.SlotSame x arm k ∧ (f x k).SlotSame (l.foldl f s) arm k := by
  obtain ⟨before, after, rfl⟩ := List.append_of_mem h
  rw [List.nodup_append, List.nodup_cons] at nodup
  obtain ⟨-, ⟨rest, -⟩, apart⟩ := nodup
  have first : k ∉ before := fun m => apart _ m _ (List.mem_cons_self ..) rfl
  rw [List.foldl_append, List.foldl_cons]
  exact ⟨_, .foldl work first s, .foldl work rest _⟩

end

/-! ## The works of a lane restart (R95) -/

/-- R95: a WAITING traverse is withdrawn. -/
def State.withdrawSlot (s : State) (arm : Arm) (k : Slot) : State :=
  (s.endWaiting arm k .withdrawn).writeResult arm k .restarted none

/-- R95: a GRANTED traverse is released. -/
def State.releaseSlot (s : State) (arm : Arm) (k : Slot) : State :=
  (s.endGranted arm k).writeResult arm k .restarted none

/-- R95: the traverses of a lane end. -/
def State.endLane (s : State) (arm : Arm) : State :=
  (s.lanes.get arm).grantedList.foldl (fun s k => s.releaseSlot arm k)
    (((s.lanes.get arm).slotsIn .waiting).foldl (fun s k => s.withdrawSlot arm k) s)

theorem releaseRun_nil (arm : Arm) (point : Nat) (l : List Slot) (s : State) :
    releaseRun [] arm point l s = l.foldl (fun s k => s.releaseSlot arm k) s := by
  induction l generalizing point s with
  | nil => rfl
  | cons k l ih => exact ih (point + 1) _

theorem State.restartLane_nil (s : State) (point : Nat) (arm : Arm) :
    s.restartLane [] point arm = (slotOrder.foldl (fun s k => s.absorbSlot arm k)
      ((s.endLane arm).modLane arm fun l => { l with next := none, waitingList := [], grantedList := [] })).raise .lane arm := by
  unfold State.restartLane
  dsimp only
  rw [releaseRun_nil]
  rfl

section
variable (s : State) (arm : Arm) (k : Slot)

theorem State.withdrawSlot_work : s.SlotWork (s.withdrawSlot arm k) arm k :=
  (s.endWaiting_work arm k .withdrawn).trans (State.writeResult_work _ arm k .restarted none)

theorem State.releaseSlot_work : s.SlotWork (s.releaseSlot arm k) arm k :=
  (s.endGranted_work arm k).trans (State.writeResult_work _ arm k .restarted none)

theorem State.absorbSlot_eq : s.absorbSlot arm k = if s.slotNew arm k then
    (s.writeResult arm k .restarted none).writeTag arm k (tagOf (s.word (slotBase arm k))) else s := by
  unfold State.absorbSlot
  dsimp only
  rw [ite_not]

theorem State.absorbSlot_work : s.SlotWork (s.absorbSlot arm k) arm k := by
  rw [State.absorbSlot_eq]
  split
  · exact (s.writeResult_work arm k .restarted none).trans (State.writeTag_work _ arm k _)
  · exact .refl s arm k

variable {s arm k}

theorem State.writeResult_words (wf : s.memoryOk) (r : SlotResult) :
    (s.writeResult arm k r none).word (slotBase arm k + 9) = wordOf r.code ∧
      s.wordsKept (s.writeResult arm k r none) [slotBase arm k + 9] := by
  refine ⟨?_, fun a ha => ?_⟩ <;> rw [State.word, State.writeResult_none_mem]
  · exact Memory.read_write_same _ _ wf
  · exact Memory.read_write_of_ne _ _ (by simpa using ha)

theorem State.withdrawSlot_words (wf : s.memoryOk) :
    let u := s.withdrawSlot arm k
    s.reports u arm k (some 4) .none 0 ∧ u.word (slotBase arm k + 9) = 4 ∧
      s.wordsKept u [slotBase arm k + 9, slotBase arm k + 10, slotBase arm k + 11] := by
  obtain ⟨⟨state, zone⟩, within⟩ := State.endWaiting_words (arm := arm) (k := k) wf .withdrawn
  obtain ⟨result, rest⟩ := State.writeResult_words (arm := arm) (k := k) ((s.endWaiting_work arm k .withdrawn).canonical wf) .restarted
  exact ⟨⟨(rest _ (by simp)).trans state, (rest _ (by simp)).trans zone⟩, result,
    State.wordsKept_trans within rest fun a ha => by simp at ha ⊢; omega⟩

theorem State.releaseSlot_words (wf : s.memoryOk) :
    let u := s.releaseSlot arm k
    u.word (slotBase arm k + 10) = (s.word (slotBase arm k + 10) &&& 0xFFF8) ||| 3 ∧ u.word (slotBase arm k + 9) = 4 ∧
      s.wordsKept u [slotBase arm k + 9, slotBase arm k + 10] := by
  obtain ⟨state, within⟩ := State.endGranted_words (arm := arm) (k := k) wf
  obtain ⟨result, rest⟩ := State.writeResult_words (arm := arm) (k := k) ((s.endGranted_work arm k).canonical wf) .restarted
  exact ⟨(rest _ (by simp)).trans state, result, State.wordsKept_trans within rest fun a ha => by simp at ha ⊢; omega⟩

theorem State.absorbSlot_words (wf : s.memoryOk) :
    let u := s.absorbSlot arm k
    let b := slotBase arm k
    (u.word (b + 8) = if s.slotNew arm k then wordOf (tagOf (s.word b)).toNat else s.word (b + 8)) ∧
      (u.word (b + 9) = if s.slotNew arm k then 4 else s.word (b + 9)) ∧ s.wordsKept u [b + 8, b + 9] := by
  dsimp only
  rw [State.absorbSlot_eq]
  by_cases new : s.slotNew arm k
  · obtain ⟨result, answered, rest⟩ := State.result_words (arm := arm) (k := k) wf .restarted none (tagOf (s.word (slotBase arm k)))
    simp only [if_pos new]
    exact ⟨answered, result, rest⟩
  · simp only [if_neg new]
    exact ⟨trivial, trivial, fun _ _ => rfl⟩

end

/-! ## A slot in a lane restart (R95) -/

/-- R95: the state of a slot after a restart. -/
def SlotState.afterRestart : SlotState → SlotState
  | .waiting => .withdrawn
  | .granted => .done
  | st => st

theorem SlotState.afterRestart_of_idle {st : SlotState} (waiting : st ≠ .waiting) (granted : st ≠ .granted) :
    st.afterRestart = st := by
  cases st <;> simp_all [SlotState.afterRestart]

/-- R95: the slot's traverse, where it has a live one, has ended from `s` to `u` with its result written. -/
structure State.SlotEnded (s u : State) (arm : Arm) (k : Slot) : Prop where
  entry : u.entry arm k = { (s.entry arm k) with state := (s.entry arm k).state.afterRestart }
  result : u.word (slotBase arm k + 9) =
    if (s.entry arm k).state = .waiting ∨ (s.entry arm k).state = .granted then 4 else s.word (slotBase arm k + 9)
  waiting : (s.entry arm k).state = .waiting → s.reports u arm k (some 4) .none 0
  granted : (s.entry arm k).state = .granted →
    u.word (slotBase arm k + 10) = (s.word (slotBase arm k + 10) &&& 0xFFF8) ||| 3 ∧
      u.word (slotBase arm k + 11) = s.word (slotBase arm k + 11)
  idle : (s.entry arm k).state ≠ .waiting → (s.entry arm k).state ≠ .granted →
    u.word (slotBase arm k + 10) = s.word (slotBase arm k + 10) ∧ u.word (slotBase arm k + 11) = s.word (slotBase arm k + 11)
  rest : ∀ i < 16, i < 9 ∨ 12 ≤ i → u.word (slotBase arm k + i) = s.word (slotBase arm k + i)
  canonical : u.memoryOk

section
variable {s x u : State} {arm : Arm} {k : Slot}

theorem State.SlotEnded.of_withdrawn (wf : s.memoryOk) (found : s.SlotSame x arm k) (left : (x.withdrawSlot arm k).SlotSame u arm k)
    (waiting : (s.entry arm k).state = .waiting) : s.SlotEnded u arm k := by
  obtain ⟨⟨state, zone⟩, result, kept⟩ := State.withdrawSlot_words (s := x) (arm := arm) (k := k) (found.canonical wf)
  have entry : (x.withdrawSlot arm k).entry arm k = { (x.entry arm k) with state := .withdrawn } := by
    simp [State.withdrawSlot, State.entry, State.endWaiting_lane, Vector_get_set_slot]
  exact {
    entry := by rw [left.entry, entry, found.entry, waiting]; rfl
    result := by rw [left.words 9 (by omega), if_pos (.inl waiting), result]
    waiting := fun _ => ⟨by rw [left.words 10 (by omega), state, found.words 10 (by omega)], by rw [left.words 11 (by omega), zone]⟩
    granted := fun granted => by simp [waiting] at granted
    idle := fun other => absurd waiting other
    rest := fun i hi far => by
      rw [left.words i hi, kept _ (by simp; omega), found.words i hi]
    canonical := left.canonical ((x.withdrawSlot_work arm k).canonical (found.canonical wf)) }

theorem State.SlotEnded.of_released (wf : s.memoryOk) (found : s.SlotSame x arm k) (left : (x.releaseSlot arm k).SlotSame u arm k)
    (granted : (s.entry arm k).state = .granted) : s.SlotEnded u arm k := by
  obtain ⟨state, result, kept⟩ := State.releaseSlot_words (s := x) (arm := arm) (k := k) (found.canonical wf)
  have entry : (x.releaseSlot arm k).entry arm k = { (x.entry arm k) with state := .done } := by
    simp [State.releaseSlot, State.entry, State.endGranted_lane, Vector_get_set_slot]
  exact {
    entry := by rw [left.entry, entry, found.entry, granted]; rfl
    result := by rw [left.words 9 (by omega), if_pos (.inr granted), result]
    waiting := fun waiting => by simp [granted] at waiting
    granted := fun _ => ⟨by rw [left.words 10 (by omega), state, found.words 10 (by omega)], by
      rw [left.words 11 (by omega), kept _ (by simp), found.words 11 (by omega)]⟩
    idle := fun _ other => absurd granted other
    rest := fun i hi far => by
      rw [left.words i hi, kept _ (by simp; omega), found.words i hi]
    canonical := left.canonical ((x.releaseSlot_work arm k).canonical (found.canonical wf)) }

theorem State.SlotEnded.of_idle (wf : s.memoryOk) (same : s.SlotSame u arm k) (waiting : (s.entry arm k).state ≠ .waiting)
    (granted : (s.entry arm k).state ≠ .granted) : s.SlotEnded u arm k where
  entry := by
    rw [same.entry, SlotState.afterRestart_of_idle waiting granted]
  result := by rw [same.words 9 (by omega), if_neg (not_or.mpr ⟨waiting, granted⟩)]
  waiting h := absurd h waiting
  granted h := absurd h granted
  idle _ _ := ⟨same.words 10 (by omega), same.words 11 (by omega)⟩
  rest i hi _ := same.words i hi
  canonical := same.canonical wf

/-- R95: what the end of a lane's traverses leaves of a slot. -/
theorem State.endLane_slot (wf : s.memoryOk) (ok : (s.lanes.get arm).Ok) (k : Slot) : s.SlotEnded (s.endLane arm) arm k := by
  obtain ⟨-, inGranted, -, nodup, -⟩ := ok
  have inWaiting := Lane.mem_slotsIn (s.lanes.get arm) .waiting k
  have waitings := Lane.slotsIn_nodup (s.lanes.get arm) .waiting
  have withdraw := fun s k => State.withdrawSlot_work s arm k
  have release := fun s k => State.releaseSlot_work s arm k
  by_cases waiting : (s.entry arm k).state = .waiting
  · obtain ⟨x, found, left⟩ := State.slotRun withdraw waitings (inWaiting.mpr waiting) s
    refine .of_withdrawn wf found (left.trans (.foldl release (fun m => ?_) _)) waiting
    simp [State.entry, (inGranted k).mp m] at waiting
  · have kept := State.SlotSame.foldl withdraw (mt inWaiting.mp waiting) s
    by_cases granted : (s.entry arm k).state = .granted
    · obtain ⟨x, found, left⟩ := State.slotRun release nodup ((inGranted k).mpr granted) _
      exact .of_released wf (kept.trans found) left granted
    · exact .of_idle wf (kept.trans (.foldl release (mt (inGranted k).mp granted) _)) waiting granted

end

/-- R95: a lane restart is work on the slots of the lane. -/
theorem State.restartLane_run (s : State) (point : Nat) (arm : Arm) : s.LaneRun (s.restartLane [] point arm) arm := by
  rw [State.restartLane_nil]
  have ended : s.LaneRun (s.endLane arm) arm :=
    (State.LaneRun.foldl (fun s k => State.withdrawSlot_work s arm k) ((s.lanes.get arm).slotsIn .waiting) s).trans
    (.foldl (fun s k => State.releaseSlot_work s arm k) (s.lanes.get arm).grantedList _)
  refine .trans ?_ (State.raiseLane_work _ arm 0).laneRun
  refine .trans ?_ (.foldl (fun s k => State.absorbSlot_work s arm k) slotOrder _)
  exact ended.trans (State.modLane_work (s.endLane arm) arm 0 (g := fun l => { l with next := none, waitingList := [], grantedList := [] })
    fun _ _ _ => rfl).laneRun

/-- R95: a lane restart sets LANE. -/
theorem State.restartLane_ports (s : State) (point : Nat) (arm : Arm) :
    (s.restartLane [] point arm).ports = s.ports.modify arm (fun r => r.raised .lane) := by
  have again : (s.restartLane [] point arm).ports.modify arm (fun r => r.raised .lane) = (s.restartLane [] point arm).ports := by
    rw [State.restartLane_nil, State.raise_ports, Pair_raised_raised]
  obtain kept | raised := (s.restartLane_run point arm).ports
  · rw [← again, kept]
  · exact raised

section
variable {s : State} {arm : Arm}

/-- R95: what a lane restart leaves of a slot. -/
theorem State.restartLane_slot (wf : s.memoryOk) (ok : (s.lanes.get arm).Ok) (point : Nat) (k : Slot) :
    ∃ x, s.SlotEnded x arm k ∧ (x.absorbSlot arm k).SlotSame (s.restartLane [] point arm) arm k := by
  have ended := State.endLane_slot wf ok k
  have cleared : (s.endLane arm).SlotSame
      ((s.endLane arm).modLane arm fun l => { l with next := none, waitingList := [], grantedList := [] }) arm k :=
    ⟨by simp [State.entry], fun _ _ => rfl, id⟩
  obtain ⟨x, found, left⟩ := State.slotRun (fun s k => State.absorbSlot_work s arm k) (by decide) (mem_slotOrder k)
    ((s.endLane arm).modLane arm fun l => { l with next := none, waitingList := [], grantedList := [] })
  have same := cleared.trans found
  refine ⟨x, ⟨same.entry.trans ended.entry, (same.words 9 (by omega)).trans ended.result, fun h => ?_, fun h => ?_, fun h h' => ?_,
    fun i hi far => (same.words i hi).trans (ended.rest i hi far), same.canonical ended.canonical⟩, ?_⟩
  · obtain ⟨state, zone⟩ := ended.waiting h
    exact ⟨(same.words 10 (by omega)).trans state, (same.words 11 (by omega)).trans zone⟩
  · rw [same.words 10 (by omega), same.words 11 (by omega)]
    exact ended.granted h
  · rw [same.words 10 (by omega), same.words 11 (by omega)]
    exact ended.idle h h'
  · rw [State.restartLane_nil]
    exact left.trans (.raise _ arm k)

/-- R95: the words of a slot that a lane restart leaves. -/
theorem State.SlotEnded.absorbed_words {s x u : State} {arm : Arm} {k : Slot} (ended : s.SlotEnded x arm k)
    (left : (x.absorbSlot arm k).SlotSame u arm k) :
    let b := slotBase arm k
    let st := (s.entry arm k).state
    tagOf (u.word (b + 8)) = tagOf (s.word b) ∧ (¬ s.slotNew arm k → u.word (b + 8) = s.word (b + 8)) ∧
      (s.slotNew arm k → u.word (b + 8) = wordOf (tagOf (s.word b)).toNat) ∧
      u.word (b + 9) = (if st = .waiting ∨ st = .granted ∨ s.slotNew arm k then 4 else s.word (b + 9)) ∧
      (st = .waiting → s.reports u arm k (some 4) .none 0) ∧
      (st = .granted → u.word (b + 10) = (s.word (b + 10) &&& 0xFFF8) ||| 3 ∧ u.word (b + 11) = s.word (b + 11)) ∧
      (st ≠ .waiting → st ≠ .granted → u.word (b + 10) = s.word (b + 10) ∧ u.word (b + 11) = s.word (b + 11)) ∧
      ∀ i < 16, i < 8 ∨ 12 ≤ i → u.word (b + i) = s.word (b + i) := by
  dsimp only
  obtain ⟨tag, result, rest⟩ := State.absorbSlot_words (arm := arm) (k := k) ended.canonical
  have post := ended.rest 0 (by omega) (by omega)
  have answered := ended.rest 8 (by omega) (by omega)
  rw [Nat.add_zero] at post
  have same : x.slotNew arm k ↔ s.slotNew arm k := by rw [State.slotNew, post, answered]
  rw [if_congr same rfl rfl, post, answered, ← left.words 8 (by omega)] at tag
  rw [if_congr same rfl rfl, ended.result, ← left.words 9 (by omega)] at result
  have kept : ∀ i < 16, i ≠ 8 → i ≠ 9 → u.word (slotBase arm k + i) = x.word (slotBase arm k + i) := fun i hi h8 h9 =>
    (left.words i hi).trans (rest _ (by simp [h8, h9]))
  have ten := kept 10 (by omega) (by omega) (by omega)
  have eleven := kept 11 (by omega) (by omega) (by omega)
  refine ⟨?_, fun old => by rw [tag, if_neg old], fun new => by rw [tag, if_pos new], ?_, fun waiting => ?_, fun granted => ?_,
    fun waiting granted => ?_, fun i hi far => (kept i hi (by omega) (by omega)).trans (ended.rest i hi (by omega))⟩
  · rw [tag]
    split
    · exact tagOf_wordOf _
    · rename_i old
      exact (not_not.mp old).symm
  · rw [result, ← ite_or]
    exact if_congr (by tauto) rfl rfl
  · obtain ⟨state, zone⟩ := ended.waiting waiting
    exact ⟨ten.trans state, eleven.trans zone⟩
  · rw [ten, eleven]
    exact ended.granted granted
  · rw [ten, eleven]
    exact ended.idle waiting granted

/-! ## The cells in a lane restart (R62, R63) -/

theorem State.releaseSlot_cells {t : ZoneTable} {tr : Traverse} {k : Slot} (table : s.active = some t)
    (traverse : (s.entry arm k).traverse = some tr) :
    (s.releaseSlot arm k).cells = (s.release arm (t.setHas tr.zones)).cells := by
  simpa [State.releaseSlot] using State.endGranted_cells table traverse

/-- R62: a cell whose last claim is released. -/
def freedCell (arm : Arm) (frees : Bool) : Cell := if frees then ⟨none, 0, false⟩ else ⟨some arm, 0, true⟩

theorem freedCell_freesOnRelease (s : State) (arm : Arm) (i : Nat) : freedCell arm (s.freesOnRelease arm i) =
    if (s.feeds.get arm).state = .steady ∧ (s.reach.get arm).firstMark = false ∧ blockHas (s.reach.get arm).sweep i = false then
      ⟨none, 0, false⟩ else ⟨some arm, 0, true⟩ := by
  simp [freedCell, State.freesOnRelease, and_assoc]

/-- R61–R63: the traverses of a list are released one after another: a cell that its owner holds by them alone is freed or left
lingering, and every other cell stays. -/
theorem releaseRun_cell {t : ZoneTable} {i : Nat} (hi : i < 1024) {l : List Slot} (nodup : l.Nodup) (records : s.cells.length = 1024)
    (table : s.active = some t) (held : ∀ k ∈ l, (s.entry arm k).traverse.isSome = true)
    (counted : 0 < l.countP ((s.lanes.get arm).holds t i) →
      s.cell i = ⟨some arm, l.countP ((s.lanes.get arm).holds t i), false⟩) :
    (l.foldl (fun s k => s.releaseSlot arm k) s).cell i =
      if 0 < l.countP ((s.lanes.get arm).holds t i) then freedCell arm (s.freesOnRelease arm i) else s.cell i := by
  induction l generalizing s with
  | nil => simp
  | cons k l ih =>
    obtain ⟨first, rest⟩ := List.nodup_cons.mp nodup
    obtain ⟨tr, traverse⟩ := Option.isSome_iff_exists.mp (held k (by simp))
    have holds : (s.lanes.get arm).holds t i k = t.setHas tr.zones i := Lane.holds_eq_of_traverse traverse t i
    have work := s.releaseSlot_work arm k
    have cells := State.releaseSlot_cells table traverse
    have table' : (s.releaseSlot arm k).active = some t := by rw [work.frame]; exact table
    have frees : (s.releaseSlot arm k).freesOnRelease arm i = s.freesOnRelease arm i := by rw [work.frame]; rfl
    have records' : (s.releaseSlot arm k).cells.length = 1024 := by
      rw [cells]
      simp [State.release, State.putCells, mapCells_eq_mapIdx, records]
    have same : l.countP (((s.releaseSlot arm k).lanes.get arm).holds t i) = l.countP ((s.lanes.get arm).holds t i) :=
      List.countP_congr fun j hj => by
        have entry := work.entries j fun e => first (e ▸ hj)
        simp only [State.entry] at entry
        simp only [Lane.holds, entry]
    have cell : (s.releaseSlot arm k).cell i =
        releaseCell arm (t.setHas tr.zones) (s.freesOnRelease arm) i (s.cell i) := by
      rw [← s.release_cell arm _ (records ▸ hi), State.cell, cells]
      rfl
    have held' : ∀ j ∈ l, ((s.releaseSlot arm k).entry arm j).traverse.isSome = true := fun j hj => by
      rw [work.entries j fun e => first (e ▸ hj)]
      exact held j (by simp [hj])
    rw [List.countP_cons, holds] at counted
    rw [List.foldl_cons, List.countP_cons, holds]
    by_cases member : t.setHas tr.zones i = true
    · simp only [member, if_true] at counted ⊢
      have here := counted (by omega)
      by_cases last : l.countP ((s.lanes.get arm).holds t i) = 0
      · have freed := releaseCell_last (c := s.cell i) (s.freesOnRelease arm) member (by rw [here]) (by rw [here, last])
        rw [ih rest records' table' held' (by rw [same]; omega), same, last, cell, freed]
        simp [freedCell]
      · have kept := releaseCell_still_held (c := s.cell i) (s.freesOnRelease arm) member (by rw [here]) (by rw [here]; exact Nat.succ_lt_succ (Nat.pos_of_ne_zero last))
        rw [ih rest records' table' held' (by rw [same, cell, kept, here]; simp), same, frees, if_pos (by omega), if_pos (by omega)]
    · have outside := releaseCell_outside (arm := arm) (c := s.cell i) (s.freesOnRelease arm) (Bool.eq_false_iff.mpr member)
      simp only [member, Bool.false_eq_true, if_false, Nat.add_zero] at counted ⊢
      rw [ih rest records' table' held' (by rw [same, cell, outside]; exact counted), same, frees, cell, outside]

/-- R56: the cells that an arm holds are those of its GRANTED traverses. -/
theorem State.holders_of_claimsOk (claims : s.claimsOk) (arm : Arm) {i : Nat} (hi : i < 1024) {t : ZoneTable}
    (table : s.active = some t) :
    (((s.cell i).owner = some arm ∧ 0 < (s.cell i).count) ↔ 0 < (s.lanes.get arm).holders t i) ∧
      (0 < (s.lanes.get arm).holders t i → s.cell i = ⟨some arm, (s.lanes.get arm).holders t i, false⟩) := by
  obtain ⟨⟨records, cellsOk, -⟩, -, ownership, -⟩ := claims
  rw [State.forall_mem_cells records] at cellsOk
  simp only [State.ownershipOk, table] at ownership
  obtain ⟨-, grantsA, grantsB⟩ := ownership
  obtain ⟨-, -, grants⟩ : s.grantsOk t arm := by cases arm <;> assumption
  obtain ⟨count, owner⟩ := grants i hi
  obtain ⟨-, linger⟩ := cellsOk i hi
  refine ⟨⟨fun ⟨own, pos⟩ => count own ▸ pos, fun pos => ⟨owner pos, (count (owner pos)).symm ▸ pos⟩⟩, fun pos => ?_⟩
  have own := owner pos
  have counted := count own
  have clear := linger (by simp [own])
  cases cell : s.cell i with | mk o c m =>
  simp only [cell] at own counted clear
  subst own counted
  have : m = false := by
    cases m with
    | false => rfl
    | true => have := clear.mp rfl; omega
  rw [this]

/-- R62, R63: what a lane restart leaves of the cells. -/
theorem State.restartLane_cell (claims : s.claimsOk) (point : Nat) (arm : Arm) {i : Nat} (hi : i < 1024) :
    (s.restartLane [] point arm).cell i = if (s.cell i).owner = some arm ∧ 0 < (s.cell i).count then
      freedCell arm (s.freesOnRelease arm i) else s.cell i := by
  have withdrawn := State.LaneRun.foldl (fun s k => State.withdrawSlot_work s arm k) ((s.lanes.get arm).slotsIn .waiting) s
  obtain ⟨⟨records, -, -⟩, ⟨laneA, laneB⟩, ownership, -⟩ := id claims
  obtain ⟨inWaiting, inGranted, -, nodup, held, -⟩ : (s.lanes.get arm).Ok := by cases arm <;> assumption
  have absorbed : (s.restartLane [] point arm).cells = (s.endLane arm).cells := by
    have kept : ∀ (x : State) (k : Slot), (x.absorbSlot arm k).cells = x.cells := fun x k => by
      rw [State.absorbSlot_eq]
      split <;> simp
    rw [State.restartLane_nil, State.raise_cells, State.foldl_keeps State.cells _ kept slotOrder, State.modLane_cells]
  have sameCells : (((s.lanes.get arm).slotsIn .waiting).foldl (fun s k => s.withdrawSlot arm k) s).cells = s.cells :=
    State.foldl_keeps State.cells _ (fun x k => by simp [State.withdrawSlot]) _ s
  have sameSlots : ∀ k ∈ (s.lanes.get arm).grantedList,
      (((s.lanes.get arm).slotsIn .waiting).foldl (fun s k => s.withdrawSlot arm k) s).entry arm k = s.entry arm k := fun k hk =>
    (State.SlotSame.foldl (fun s k => State.withdrawSlot_work s arm k) (fun m => by
      simp [(inGranted k).mp hk, Lane.mem_slotsIn] at m) s).entry
  have frees : (((s.lanes.get arm).slotsIn .waiting).foldl (fun s k => s.withdrawSlot arm k) s).freesOnRelease arm i =
      s.freesOnRelease arm i := by rw [withdrawn.frame]; rfl
  have sameTable : (((s.lanes.get arm).slotsIn .waiting).foldl (fun s k => s.withdrawSlot arm k) s).active = s.active := by
    rw [withdrawn.frame]
  rw [State.cell, absorbed, State.endLane]
  cases table : s.active with
  | none =>
    simp only [State.ownershipOk, table] at ownership
    obtain ⟨⟨listsA, listsB⟩, counts⟩ := ownership
    rw [State.forall_mem_cells records] at counts
    have empty : (s.lanes.get arm).grantedList = [] := by cases arm <;> simp_all
    rw [empty, List.foldl_nil, sameCells, if_neg (by simp [counts i hi])]
    rfl
  | some t =>
    obtain ⟨holds, figure⟩ := State.holders_of_claimsOk claims arm hi table
    generalize ((s.lanes.get arm).slotsIn .waiting).foldl (fun s k => s.withdrawSlot arm k) s = x at *
    have same : (s.lanes.get arm).grantedList.countP ((x.lanes.get arm).holds t i) = (s.lanes.get arm).holders t i := by
      rw [Lane.holders_eq_countP]
      refine List.countP_congr fun k hk => ?_
      have entry := sameSlots k hk
      simp only [State.entry] at entry
      simp only [Lane.holds, entry]
    have cell : x.cell i = s.cell i := by rw [State.cell, sameCells]; rfl
    have released := releaseRun_cell (s := x) (arm := arm) hi nodup (sameCells ▸ records) (sameTable.trans table)
      (fun k hk => by rw [sameSlots k hk]; exact held k (.inr ((inGranted k).mp hk)))
      (by rw [same, cell]; exact figure)
    rw [same, cell, frees] at released
    simp only [holds]
    exact released

end

/-! ## A mailbox's result half (R162) -/

theorem State.writeMailResult_words {s : State} (wf : s.memoryOk) (p : Port) (r : MailResult) (x : Option HeldReason) (tag : Byte) :
    (s.writeMailResult p r x tag).mailResult p tag r (match x with | none => 0 | some x => x.code) ∧
      s.wordsKept (s.writeMailResult p r x tag) (mailResultWords p) := by
  have wf1 := Memory.wf_write (mailboxBase p + 18) (wordOf (match x with | none => 0 | some x => x.code)) wf
  have wf2 := Memory.wf_write (mailboxBase p + 17) (wordOf r.code) wf1
  refine ⟨⟨Memory.read_write_same _ _ wf2, ?_, ?_⟩, fun a ha => ?_⟩
  · exact (Memory.read_write_of_ne _ _ (by omega)).trans (Memory.read_write_same _ _ wf1)
  · exact (Memory.read_write_of_ne _ _ (by omega)).trans ((Memory.read_write_of_ne _ _ (by omega)).trans
      (Memory.read_write_same _ _ wf))
  · rw [mailResultWords, mem_offsets] at ha
    exact (Memory.read_write_of_ne _ _ (by omega)).trans ((Memory.read_write_of_ne _ _ (by omega)).trans
      (Memory.read_write_of_ne _ _ (by omega)))

theorem State.writeMailResult_work (s : State) (p : Port) (r : MailResult) (x : Option HeldReason) (tag : Byte) :
    s.LaneWork (s.writeMailResult p r x tag) := rfl

theorem State.writeMailResult_ports (s : State) (p : Port) (r : MailResult) (x : Option HeldReason) (tag : Byte) :
    (s.writeMailResult p r x tag).ports = s.ports.modify p (fun r => r.raised .mailbox) := rfl

/-- R95, R162: a service whose one command is a RESTART_LANE. -/
def State.restarted (s : State) (arm : Arm) (p : Port) (tag : Byte) : State :=
  ((((s.dropRequest .configuration).setAccepted []).restartLane [] 0 arm).writeMailResult p .done none tag).requestTogether
    [.grantPhase]

theorem exec_configurationService_restartLane {s : State} {arm : Arm} {p : Port} {tag : Byte}
    (due : s.serviceOf ⟨p, tag, .restartLane arm⟩) : exec (.configurationService []) s = .next (s.restarted arm p tag) := by
  obtain ⟨ready, -, -, pending, accepted⟩ := due
  have accepted' : (s.dropRequest .configuration).accepted = [⟨p, tag, .restartLane arm⟩] := accepted
  have run := ((s.dropRequest .configuration).setAccepted []).restartLane_run 0 arm
  have still : (((s.dropRequest .configuration).setAccepted []).restartLane [] 0 arm).install.pendingTable = none := by
    rw [run.frame]
    exact pending
  refine congrArg Host.Outcome.next ((State.serve_of_readyFor ready _).trans ?_)
  simp only [State.configurationBody, accepted', carryOutAll, State.carryOut, State.arriveAt_nil, State.arriveBetween_nil,
    State.testGate, State.writeMailResult_install, still]
  rfl

section
variable (s : State) (arm : Arm) (p : Port) (tag : Byte)

theorem State.restarted_frame : s.restarted arm p tag = { s with
    accepted := [], waiting := (s.dropRequest .configuration).waiting ++ [[.grantPhase]]
    ports := (s.restarted arm p tag).ports, mem := (s.restarted arm p tag).mem, cells := (s.restarted arm p tag).cells
    tallies := (s.restarted arm p tag).tallies, lanes := (s.restarted arm p tag).lanes } := by
  have work := (((s.dropRequest .configuration).setAccepted []).restartLane_run 0 arm).frame.trans
    (State.writeMailResult_work _ p .done none tag)
  unfold State.restarted
  generalize (((s.dropRequest .configuration).setAccepted []).restartLane [] 0 arm).writeMailResult p .done none tag = y at work
  rw [work]
  rfl

/-- R183: LANE on the lane's port and MAILBOX on the mailbox's. -/
theorem State.restarted_ports : s.portsAfter (s.restarted arm p tag) arm (.lane :: (if p = arm then [.mailbox] else []))
    (if p = arm then [] else [.mailbox]) := by
  have same : (s.restarted arm p tag).guardConditions = s.guardConditions :=
    State.guardConditions_congr (by rw [State.restarted_frame])
  have ports : (s.restarted arm p tag).ports =
      (s.ports.modify arm (fun r => r.raised .lane)).modify p (fun r => r.raised .mailbox) := by
    rw [State.restarted, State.requestTogether_ports, State.writeMailResult_ports, State.restartLane_ports]
    rfl
  by_cases own : p = arm
  · subst own
    simp [State.portsAfter, State.portAfter, ports, same, PortRegs.raised, flagBits_cons, BitVec.or_assoc]
  · obtain rfl : p = arm.other := by cases p <;> cases arm <;> simp_all [Side.other]
    simp [State.portsAfter, State.portAfter, ports, same, PortRegs.raised, Pair_get_modify_of_ne _ _ _ _ (Side_other_ne arm).symm]

end

/-- R171: no word of a slot is a word of a mailbox. -/
theorem slotWord_notMem_mailResultWords (arm : Arm) (k : Slot) (i : Nat) (p : Port) : slotBase arm k + i ∉ mailResultWords p := by
  rw [mailResultWords, mem_offsets]
  cases arm <;> cases p <;> simp only [slotBase, laneBase, mailboxBase] <;> omega

end Sys2Proof.Machine

open Sys2Proof Sys2Proof.Machine

/-- Settles O35: the traverses end slot by slot, the commands are absorbed, the lane is cleared, and the mailbox answers. -/
theorem restartLaneInTheService : Obligations.RestartLaneInTheService := by
  intro s arm p tag due claims
  refine ⟨_, exec_configurationService_restartLane due, s.restarted_frame arm p tag, ?_⟩
  obtain ⟨-, wf, -, -, -⟩ := due
  obtain ⟨-, ⟨laneA, laneB⟩, -, -⟩ := id claims
  have ok : (s.lanes.get arm).Ok := by cases arm <;> assumption
  have run := ((s.dropRequest .configuration).setAccepted []).restartLane_run 0 arm
  have lanes := ((s.dropRequest .configuration).setAccepted []).restartLane_lanes [] 0 arm
  have slot := State.restartLane_slot (s := (s.dropRequest .configuration).setAccepted []) wf ok 0
  have cell := fun i hi => State.restartLane_cell (s := (s.dropRequest .configuration).setAccepted []) claims 0 arm (i := i) hi
  have ports := s.restarted_ports arm p tag
  obtain ⟨mail, kept⟩ := State.writeMailResult_words (run.canonical wf) p .done none tag
  have mem : (s.restarted arm p tag).mem = ((((s.dropRequest .configuration).setAccepted []).restartLane [] 0 arm).writeMailResult
    p .done none tag).mem := by simp [State.restarted]
  have finalLanes : (s.restarted arm p tag).lanes = (((s.dropRequest .configuration).setAccepted []).restartLane [] 0 arm).lanes := by
    simp [State.restarted]
  have finalCells : (s.restarted arm p tag).cells = (((s.dropRequest .configuration).setAccepted []).restartLane [] 0 arm).cells := by
    simp [State.restarted]
  generalize s.restarted arm p tag = u at *
  generalize ((s.dropRequest .configuration).setAccepted []).restartLane [] 0 arm = x at *
  obtain ⟨other, next, waitingList, grantedList⟩ := lanes
  have word : ∀ a, a ∉ mailResultWords p → u.word a = x.word a := fun a ha => by
    rw [State.word, mem]
    exact kept a ha
  have slotWord : ∀ (k : Slot) i, u.word (slotBase arm k + i) = x.word (slotBase arm k + i) := fun k i =>
    word _ (slotWord_notMem_mailResultWords arm k i p)
  have mail' : u.mailResult p tag .done 0 := by
    simp only [State.mailResult, State.word, mem]
    exact mail
  refine ⟨by rw [finalLanes]; exact other, ⟨by rw [finalLanes]; exact next, by rw [finalLanes]; exact waitingList,
    by rw [finalLanes]; exact grantedList, fun k => ?_⟩, fun i hi => ?_, fun k => ?_, ports, mail', fun a out ha => ?_⟩
  · obtain ⟨y, ended, left⟩ := slot k
    have absorbed : (y.absorbSlot arm k).entry arm k = y.entry arm k := by rw [State.entry, State.absorbSlot_lanes]; rfl
    have entry := (left.entry.trans absorbed).trans ended.entry
    rw [finalLanes]
    refine entry.trans ?_
    show SlotEntry.mk (SlotState.afterRestart ((s.lanes.get arm).slots.get k).state) _ = SlotEntry.mk _ _
    congr 1
    cases ((s.lanes.get arm).slots.get k).state <;> rfl
  · rw [State.cell, finalCells]
    refine (cell i hi).trans ?_
    rw [freedCell_freesOnRelease]
    rfl
  · obtain ⟨y, ended, left⟩ := slot k
    exact ended.absorbed_words (left.trans ⟨by rw [State.entry, finalLanes]; rfl, fun i _ => slotWord k i, fun h => by
      rw [State.memoryOk, mem]
      exact Memory.wf_write _ _ (Memory.wf_write _ _ (Memory.wf_write _ _ h))⟩)
  · refine (word a ha).trans (run.words a fun m => out ?_)
    rwa [mem_offsets] at m
end

section
/-! SUPPORT. R91–R93, R126: a fully evaluated frame as the stages before its countdown, the countdown, and what is shown after it. -/

namespace Sys2Proof.Machine

/-! ## What an evaluation changes beside the frame and the record -/

/-- The change from `s` to `u` touches the causes, the claim table, the lanes, the flags and memory alone. -/
def State.EvalWork (s u : State) : Prop :=
  u = { s with enf := u.enf, cells := u.cells, tallies := u.tallies, lanes := u.lanes, ports := u.ports, mem := u.mem }

section
variable {s t u : State}

theorem State.EvalWork.trans (h : s.EvalWork t) (h' : t.EvalWork u) : s.EvalWork u := by
  unfold State.EvalWork at *
  rw [h']
  conv_lhs => rw [h]

theorem State.LaneWork.evalWork (h : s.LaneWork u) : s.EvalWork u := by
  unfold State.LaneWork at h
  unfold State.EvalWork
  rw [h]

variable (s)

theorem State.raiseIf_evalWork (b : Bool) (f : Flag) (p : Port) : s.EvalWork (s.raiseIf b f p) := by
  cases b <;> rfl

theorem State.noteConditions_evalWork (w : Word) : s.EvalWork (s.noteConditions w) := by
  unfold State.noteConditions
  split <;> rfl

theorem State.modEnf_evalWork (arm : Arm) (g : Enforcement → Enforcement) : s.EvalWork (s.modEnf arm g) := rfl

theorem State.putCells_evalWork (cs : List Cell) : s.EvalWork (s.putCells cs) := rfl

theorem State.writeWord_evalWork (a : Nat) (v : Word) : s.EvalWork (s.writeWord a v) := rfl

theorem State.setCauses_evalWork (arm : Arm) (p : PauseSet) (q : StopSet) : s.EvalWork (s.setCauses arm p q) :=
  ((((s.modEnf_evalWork arm _).trans (State.noteConditions_evalWork _ _)).trans (State.raiseIf_evalWork _ _ _ _)).trans
    (State.raiseIf_evalWork _ _ _ _)).trans (State.writeWord_evalWork _ _ _)

theorem State.writeSnapshot_evalWork (arm : Arm) : s.EvalWork (s.writeSnapshot arm) := by
  obtain ⟨m, hm⟩ := s.writeSnapshot_memory arm
  rw [hm]
  rfl

end

/-! ## The stages before the countdown (R126 stages 1 to 5) -/

/-- The stages of a fully evaluated frame up to its countdown, with a run counter for the arm. -/
def State.staged (s : State) (t : ZoneTable) (arm : Arm) (f : HeldFrame) (counter : Nat → Nat) : State :=
  (((s.computed t arm f).seatingStage arm).1.lingerSweep arm).modEnf arm (fun e => { e with runCounter := counter e.runCounter })

/-- R126: a fully evaluated frame. -/
theorem State.evaluationStages_of_full (s : State) {t : ZoneTable} {arm : Arm} {f : HeldFrame} {k : Nat} (gap : f.gap = some k) :
    ∃ (counter : Nat → Nat) (g : Gathered), s.evaluationStages [] t arm f true =
      (((s.staged t arm f counter).countdown arm (some k)).applyGathered arm g).writeSnapshot arm := by
  have unmarked : ((s.computed t arm f).reach.get arm).firstMark = false := by
    rw [State.computed_eq]
    simp [State.reachAfter, Reach.run, gap]
  have computed : (s.takeFrame arm f).arithmetic t arm f = s.computed t arm f := rfl
  unfold State.evaluationStages State.fullStages
  simp only [State.arriveAt_nil, computed, unmarked, gap, Option.isSome_some, if_true, Bool.false_eq_true, if_false]
  exact ⟨fun n => runAfter n _, _, rfl⟩

section
variable {s : State} {t : ZoneTable} {arm : Arm} {f : HeldFrame} (counter : Nat → Nat)

theorem State.seatingStage_evalWork (s : State) (arm : Arm) : s.EvalWork (s.seatingStage arm).1 := by
  unfold State.seatingStage
  split
  · rfl
  · exact (s.putCells_evalWork _).trans (State.modEnf_evalWork _ arm _)

theorem State.staged_evalWork (s : State) (t : ZoneTable) (arm : Arm) (f : HeldFrame) :
    (s.computed t arm f).EvalWork (s.staged t arm f counter) :=
  ((State.seatingStage_evalWork _ arm).trans (State.putCells_evalWork _ _)).trans (State.modEnf_evalWork _ arm _)

/-- The parts that no stage before the countdown touches. -/
theorem State.staged_kept (s : State) (t : ZoneTable) (arm : Arm) (f : HeldFrame) :
    let m := s.staged t arm f counter
    m.mem = s.mem ∧ m.ports = s.ports ∧ m.lanes = s.lanes ∧ m.enf.get arm.other = s.enf.get arm.other ∧
      (m.enf.get arm).pause = (s.enf.get arm).pause ∧ (m.enf.get arm).stop = (s.enf.get arm).stop := by
  have seated : ∀ x : State, let y := (x.seatingStage arm).1
      y.mem = x.mem ∧ y.ports = x.ports ∧ y.lanes = x.lanes ∧ y.enf.get arm.other = x.enf.get arm.other ∧
        (y.enf.get arm).pause = (x.enf.get arm).pause ∧ (y.enf.get arm).stop = (x.enf.get arm).stop := fun x => by
    unfold State.seatingStage
    split
    · exact ⟨rfl, rfl, rfl, rfl, rfl, rfl⟩
    · simp [State.seat, State.seize]
  have swept := seated (s.computed t arm f)
  dsimp only at swept ⊢
  simpa [State.staged, State.lingerSweep, State.computed_eq] using swept

/-- R144, R153: the cells that seating may not take. -/
theorem State.seatExcluded_iff (s : State) (i : Nat) : s.seatExcluded i = false ↔ ¬ s.taboo i := by
  cases h : s.refill.state <;> simp [State.seatExcluded, State.closedCell, State.taboo, State.refillFence, State.rfgnt, h]

/-- R64, R129: the cells after seating and linger sweep. -/
theorem State.staged_cell (records : s.cells.length = 1024) {i : Nat} (hi : i < 1024) :
    (s.staged t arm f counter).cell i = s.stagedCell arm (s.reachAfter t arm f) i := by
  have length : (s.computed t arm f).cells.length = 1024 := records
  have reach : ((s.computed t arm f).reach.get arm) = s.reachAfter t arm f := by
    rw [State.computed_eq]
    simp
  have cell : (s.computed t arm f).cell i = s.cell i := rfl
  have taboo : (s.computed t arm f).seatExcluded i = false ↔ ¬ s.taboo i := State.seatExcluded_iff _ i
  have enf : (s.computed t arm f).enf = s.enf := rfl
  have swept : ∀ x : State, x.cells.length = 1024 → (x.reach.get arm) = s.reachAfter t arm f →
      (x.lingerSweep arm).cell i = sweepCell arm (s.reachAfter t arm f).sweep i (x.cell i) := fun x hx hr => by
    rw [x.lingerSweep_cell arm (hx ▸ hi), hr]
  show (((s.computed t arm f).seatingStage arm).1.lingerSweep arm).cell i = _
  unfold State.stagedCell
  by_cases seated : (s.enf.get arm).seated = true
  · have stage : (s.computed t arm f).seatingStage arm = (s.computed t arm f, Gathered.none) := if_pos seated
    rw [stage, swept _ length reach, if_neg (by simp [seated]), cell]
  · have stage : ((s.computed t arm f).seatingStage arm).1 = (s.computed t arm f).seat arm := by
      rw [State.seatingStage, enf, if_neg seated]
    have seized : ((s.computed t arm f).seat arm).cell i = if s.seatTakes (s.reachAfter t arm f) i then ⟨some arm, 0, true⟩
        else s.cell i := by
      show ((s.computed t arm f).seize arm (s.computed t arm f).seatExcluded).cell i = _
      rw [State.seize_cell _ arm _ (length ▸ hi), seizeCell_eq, reach, cell]
      refine if_congr ?_ rfl rfl
      rw [taboo]
      tauto
    have length' : ((s.computed t arm f).seat arm).cells.length = 1024 := by
      simp [State.seat, State.seize, State.putCells, mapCells_eq_mapIdx, length]
    rw [stage, swept ((s.computed t arm f).seat arm) length' reach, seized]
    congr 1
    exact if_congr (by simp [seated]) rfl rfl

end

/-! ## What is shown after the countdown (R126 stages 6 and 7) -/

/-- R186: a change of causes after flags set on the arm's own port. -/
theorem State.portsAfter_of_flagged {s c u : State} {arm : Arm} {fs : List Flag} (causes : ∀ x, (c.enf.get x).pause =
      (s.enf.get x).pause ∧ (c.enf.get x).stop = (s.enf.get x).stop)
    (own : c.ports.get arm = { s.ports.get arm with flags := (s.ports.get arm).flags ||| flagBits fs })
    (other : c.ports.get arm.other = s.ports.get arm.other) (h : c.portsAfter u arm (c.lineFlags u arm) []) :
    s.portsAfter u arm (fs ++ s.lineFlags u arm) [] := by
  have conditions : c.guardConditions = s.guardConditions := by
    simp only [State.guardConditions_eq, State.stopLine, State.pauseLine, causes]
  have line : c.pauseLine arm = s.pauseLine arm := congrArg PauseSet.held (causes arm).1
  have lines : c.lineFlags u arm = s.lineFlags u arm := by
    rw [State.lineFlags, State.lineFlags, line, (causes arm).2]
  obtain ⟨first, second⟩ := h
  refine ⟨?_, ?_⟩
  · rw [first, lines]
    simp only [State.portAfter, conditions, own, flagBits_append, BitVec.or_assoc]
  · rw [second]
    simp only [State.portAfter, conditions, other]

/-- What stages 6 and 7 leave of the state `c` that the countdown has left. -/
structure State.Shown (c u : State) (arm : Arm) : Prop where
  work : c.EvalWork u
  lanes : u.lanes = c.lanes
  cells : u.cells = c.cells
  other : u.enf.get arm.other = c.enf.get arm.other
  ports : c.portsAfter u arm (c.lineFlags u arm) []
  status : u.word 0x004 = u.statusWord
  words : c.wordsKept u (0x004 :: offsets (snapshotBase arm) 22)

theorem State.applyGathered_shown {c : State} (wf : c.memoryOk) (arm : Arm) (g : Gathered) :
    c.Shown ((c.applyGathered arm g).writeSnapshot arm) arm := by
  obtain ⟨p, q, gathered⟩ : ∃ p q, c.applyGathered arm g = c.setCauses arm p q := ⟨_, _, rfl⟩
  rw [gathered]
  have work := (c.setCauses_evalWork arm p q).trans (State.writeSnapshot_evalWork _ arm)
  have becomes := c.setCauses_become arm p q
  have lanes : (c.setCauses arm p q).lanes = c.lanes := by simp
  have cells : (c.setCauses arm p q).cells = c.cells := by simp
  generalize c.setCauses arm p q = v at *
  have kept := v.writeSnapshot_wordsKept arm
  obtain ⟨m, hm⟩ := v.writeSnapshot_memory arm
  rw [hm] at kept work ⊢
  obtain ⟨shown, written⟩ := becomes.status wf
  refine ⟨work, lanes, cells, ?_, becomes.ports, (kept _ (status_notin_snapshot arm)).trans shown, fun a ha => ?_⟩
  · show v.enf.get arm.other = _
    rw [becomes.enf, Pair_get_set_other]
  · rw [List.mem_cons, not_or] at ha
    exact (kept a ha.2).trans (written a ha.1)

/-! ## The countdown (R91–R93) -/

section
variable {s : State} {arm : Arm} {slot : Slot} {tr : Traverse} {k : Nat}

/-- R91, R92: no current traverse, or an OPEN one. -/
theorem State.countdown_of_noCountdown (none : s.noCountdown arm) : s.countdown arm (some k) = s := by
  unfold State.countdown
  split
  · rename_i tr _ _ current _
    rw [if_neg (by simp [none tr current])]
  · rfl

theorem State.current_of_currentSlot (current : s.currentSlot arm = some slot) :
    s.current arm = (s.entry arm slot).traverse := by
  rw [State.current, current]

/-- R92: the figure of a COUNTED current traverse falls. -/
theorem State.countdown_of_remaining (current : s.currentSlot arm = some slot) (traverse : (s.entry arm slot).traverse = some tr)
    (counted : tr.mode = .counted) (more : k < tr.remaining) :
    s.countdown arm (some k) = s.writeRemaining arm slot (tr.remaining - k) := by
  simp only [State.countdown, current, State.current_of_currentSlot current, traverse, counted, if_true]
  exact if_neg (Nat.sub_ne_zero_of_lt more)

/-- R93: at 0 the traverse ends. -/
theorem State.countdown_of_spent (current : s.currentSlot arm = some slot) (traverse : (s.entry arm slot).traverse = some tr)
    (counted : tr.mode = .counted) (spent : tr.remaining ≤ k) :
    s.countdown arm (some k) = (s.writeRemaining arm slot 0).endGranted arm slot := by
  have zero : tr.remaining - k = 0 := by omega
  simp only [State.countdown, current, State.current_of_currentSlot current, traverse, counted, if_true, countedDown, zero]

theorem State.writeRemaining_lane (s : State) (arm : Arm) (slot : Slot) (n : Nat) :
    (s.writeRemaining arm slot n).lanes = s.lanes.set arm { (s.lanes.get arm) with
      slots := (s.lanes.get arm).slots.set slot.val { (s.entry arm slot) with
        traverse := (s.entry arm slot).traverse.map (fun tr => { tr with remaining := n }) } } :=
  Pair_eq_set (by simp [State.writeRemaining, State.setEntry, State.writeWord]) (s.writeRemaining_work arm slot n).other

theorem State.writeRemaining_words (wf : s.memoryOk) (n : Nat) :
    (s.writeRemaining arm slot n).word (slotBase arm slot + 12) = wordOf n ∧
      s.wordsKept (s.writeRemaining arm slot n) [slotBase arm slot + 12] := by
  refine ⟨?_, fun a ha => ?_⟩ <;> rw [State.word, State.writeRemaining_mem]
  · exact Memory.read_write_same _ _ wf
  · exact Memory.read_write_of_ne _ _ (by simpa using ha)

end

/-! ## The evaluation as a whole -/

/-- What the stages of a fully evaluated frame before its countdown leave of `s`. -/
structure State.Counting (s m : State) (t : ZoneTable) (arm : Arm) (f : HeldFrame) : Prop where
  frame : ((s.dropRequest (.evaluation arm)).computed t arm f).EvalWork m
  mem : m.mem = s.mem
  ports : m.ports = s.ports
  lanes : m.lanes = s.lanes
  other : m.enf.get arm.other = s.enf.get arm.other
  pause : (m.enf.get arm).pause = (s.enf.get arm).pause
  stop : (m.enf.get arm).stop = (s.enf.get arm).stop
  records : m.cells.length = 1024
  cells : ∀ i < 1024, m.cell i = s.stagedCell arm (s.reachAfter t arm f) i

theorem State.staged_records {s : State} (records : s.cells.length = 1024) (t : ZoneTable) (arm : Arm) (f : HeldFrame)
    (counter : Nat → Nat) : (s.staged t arm f counter).cells.length = 1024 := by
  have seated : ∀ x : State, (x.seatingStage arm).1.cells.length = x.cells.length := fun x => by
    unfold State.seatingStage
    split <;> simp [State.seat, State.seize, State.putCells, mapCells_eq_mapIdx]
  have swept : ∀ x : State, (x.lingerSweep arm).cells.length = x.cells.length := fun x => by
    simp [State.lingerSweep, State.putCells, mapCells_eq_mapIdx]
  exact ((swept _).trans (seated _)).trans records

section
variable {s m c u : State} {t : ZoneTable} {arm : Arm} {f : HeldFrame} {k : Nat} {slot : Slot}

/-- R126: a fully evaluated frame passes the stages before its countdown, the countdown, and stages 6 and 7. -/
theorem exec_frameEvaluation_of_full (full : s.fullFrame arm t f k) : ∃ m, s.Counting m t arm f ∧
    ∀ c, m.countdown arm (some k) = c → c.memoryOk → ∃ u, exec (.frameEvaluation arm []) s = .next u ∧ c.Shown u arm := by
  obtain ⟨due, records, table, held, steady, gap⟩ := full
  obtain ⟨counter, g, stages⟩ := (s.dropRequest (.evaluation arm)).evaluationStages_of_full (t := t) (arm := arm) gap
  obtain ⟨mem, ports, lanes, other, pause, stop⟩ := (s.dropRequest (.evaluation arm)).staged_kept counter t arm f
  have records' : (s.dropRequest (.evaluation arm)).cells.length = 1024 := records
  refine ⟨_, ⟨State.staged_evalWork counter _ t arm f, mem, ports, lanes, other, pause, stop,
    State.staged_records records' t arm f counter, fun i hi => State.staged_cell counter records' hi⟩, ?_⟩
  rintro c rfl wf
  refine ⟨_, exec_frameEvaluation_of_readyFor due table held, ?_⟩
  rw [decide_eq_true steady, stages]
  exact State.applyGathered_shown wf arm g

variable (counting : s.Counting m t arm f)
include counting

/-- R64: the table, the feed and the record by which the countdown releases cells. -/
theorem State.Counting.frees (full : s.fullFrame arm t f k) (work : m.SlotWork c arm slot) (i : Nat) :
    c.active = some t ∧ (c.freesOnRelease arm i = true ↔ blockHas (s.reachAfter t arm f).sweep i = false) := by
  obtain ⟨-, -, table, -, steady, gap⟩ := full
  have evaluation := counting.frame.trans work.frame.evalWork
  unfold State.EvalWork at evaluation
  have unmarked : (s.reachAfter t arm f).firstMark = false := by simp [State.reachAfter, Reach.run, gap]
  have active : c.active = s.active := by rw [evaluation, State.computed_eq]; rfl
  have feed : (c.feeds.get arm).state = .steady := by
    rw [evaluation, State.computed_eq]
    simpa using steady
  have reach : c.reach.get arm = s.reachAfter t arm f := by
    rw [evaluation, State.computed_eq]
    exact Pair_get_set_same _ _ _
  rw [State.freesOnRelease_iff, reach]
  exact ⟨active.trans table, by simp [feed, unmarked]⟩

variable (shown : c.Shown u arm)
include shown

/-- R127: the words of an evaluation, with those that its countdown has written. -/
theorem State.Counting.wordsKept {l but : List Nat} (written : m.wordsKept c l)
    (sub : ∀ a, a ∈ l ∨ a ∈ 0x004 :: offsets (snapshotBase arm) 22 → a ∈ but) : s.wordsKept u but := by
  have same : s.wordsKept m [] := fun a _ => by rw [State.word, counting.mem]; rfl
  exact State.wordsKept_trans (State.wordsKept_trans same written (by simp)) shown.words sub

variable (work : m.SlotWork c arm slot)
include work

/-- R126: the frame of an evaluation around its countdown. -/
theorem State.Counting.evaluated : s.evaluated arm t f u := by
  refine ⟨?_, ?_, ?_, shown.status⟩
  · have evaluation := (counting.frame.trans work.frame.evalWork).trans shown.work
    unfold State.EvalWork at evaluation
    rw [State.computed_eq] at evaluation
    exact evaluation
  · rw [shown.other, work.frame.enf, counting.other]
  · rw [shown.lanes, work.other, counting.lanes]

/-- R125, R183: the flags of an evaluation, with those that its countdown has set. -/
theorem State.Counting.flagged {fs : List Flag} (own : c.ports.get arm =
    { s.ports.get arm with flags := (s.ports.get arm).flags ||| flagBits fs }) :
    s.portsAfter u arm (fs ++ s.lineFlags u arm) [] := by
  refine State.portsAfter_of_flagged (fun x => ?_) own ?_ shown.ports
  · rw [work.frame.enf]
    obtain rfl | rfl : x = arm ∨ x = arm.other := by cases x <;> cases arm <;> simp [Side.other]
    · exact ⟨counting.pause, counting.stop⟩
    · rw [counting.other]
      exact ⟨rfl, rfl⟩
  · rw [← counting.ports]
    obtain kept | raised := work.ports
    · rw [kept]
    · rw [raised, Pair_get_modify_other]

end

/-- R171: no word of a slot is the status word or one of a snapshot. -/
theorem slotWord_notMem_shown (x arm : Arm) (k : Slot) (i : Nat) :
    slotBase x k + i ∉ 0x004 :: offsets (snapshotBase arm) 22 := by
  rw [List.mem_cons, mem_offsets]
  cases x <;> cases arm <;> simp only [slotBase, laneBase, snapshotBase] <;> omega

/-- R56, R64, R129: a cell that the arm holds is neither seized nor swept. -/
theorem State.stagedCell_of_held {s : State} {arm : Arm} {i : Nat} (owner : (s.cell i).owner = some arm)
    (ok : (s.cell i).Ok) (held : 0 < (s.cell i).count) (r : Reach) : s.stagedCell arm r i = s.cell i := by
  have clear : (s.cell i).linger = false := Bool.eq_false_iff.mpr fun linger =>
    absurd ((ok.2 (by simp [owner])).mp linger) (by omega)
  rw [State.stagedCell, if_neg (by simp [State.seatTakes, owner]), sweepCell_of_notLingering (.inr clear)]

/-- R61, R62, R64: what a release after the sweep leaves of the cells. -/
theorem State.releaseCell_stagedCell {s : State} {arm : Arm} {i : Nat} {inSet frees : Nat → Bool} {r : Reach} (ok : (s.cell i).Ok)
    (held : inSet i = true → (s.cell i).owner = some arm ∧ 0 < (s.cell i).count)
    (freed : frees i = true ↔ blockHas r.sweep i = false) :
    releaseCell arm inSet frees i (s.stagedCell arm r i) =
      if inSet i = true then
        (if 1 < (s.cell i).count then { (s.cell i) with count := (s.cell i).count - 1 }
         else if blockHas r.sweep i = true then ⟨some arm, 0, true⟩ else ⟨none, 0, false⟩)
      else s.stagedCell arm r i := by
  by_cases member : inSet i = true
  · obtain ⟨owner, pos⟩ := held member
    rw [if_pos member, State.stagedCell_of_held owner ok pos]
    by_cases more : 1 < (s.cell i).count
    · rw [if_pos more, releaseCell_still_held frees member owner more]
    · rw [if_neg more, releaseCell_last frees member owner (by omega), if_congr freed rfl rfl]
      cases blockHas r.sweep i <;> rfl
  · rw [if_neg member, releaseCell_outside frees (Bool.eq_false_iff.mpr member)]

end Sys2Proof.Machine

open Sys2Proof Sys2Proof.Machine

/-- Settles O25: the stages before the countdown, the countdown in its three cases, and what is shown after it. -/
theorem evaluationCountsTheCurrentTraverseDown : Obligations.EvaluationCountsTheCurrentTraverseDown := by
  intro s arm t f k full wf claims
  dsimp only
  obtain ⟨m, counting, stages⟩ := exec_frameEvaluation_of_full full
  have wfm : m.memoryOk := (congrArg Memory.wf counting.mem).trans wf
  refine ⟨fun none => ?_, fun slot tr current traverse counted => ⟨fun more => ?_, fun spent granted held => ?_⟩⟩
  · have idle : m.noCountdown arm := fun tr h => none tr (by
      simpa only [State.current, State.currentSlot, State.entry, counting.lanes] using h)
    obtain ⟨u, ran, shown⟩ := stages m (State.countdown_of_noCountdown idle) wfm
    have work := State.SlotWork.refl m arm 0
    refine ⟨u, ran, counting.evaluated shown work, shown.lanes.trans counting.lanes, fun i hi => ?_,
      counting.flagged shown work (fs := []) (by rw [counting.ports]; simp), counting.wordsKept shown (l := []) (fun _ _ => rfl) ?_⟩
    · rw [← counting.cells i hi, State.cell, shown.cells]
      rfl
    · simp
  all_goals
    have current' : m.currentSlot arm = some slot := by rw [State.currentSlot, counting.lanes]; exact current
    have entry : m.entry arm slot = s.entry arm slot := by rw [State.entry, counting.lanes]; rfl
    have traverse' : (m.entry arm slot).traverse = some tr := entry ▸ traverse
  · have work := m.writeRemaining_work arm slot (tr.remaining - k)
    obtain ⟨figure, kept⟩ := State.writeRemaining_words (arm := arm) (slot := slot) wfm (tr.remaining - k)
    obtain ⟨u, ran, shown⟩ := stages _ (State.countdown_of_remaining current' traverse' counted more) (work.canonical wfm)
    refine ⟨u, ran, counting.evaluated shown work, ?_, fun i hi => ?_, counting.flagged shown work (fs := []) ?_, ?_,
      counting.wordsKept shown kept ?_⟩
    · rw [shown.lanes, State.writeRemaining_lane, entry, traverse, counting.lanes]
      rfl
    · rw [← counting.cells i hi, State.cell, shown.cells]
      rfl
    · rw [← counting.ports]
      simp [State.writeRemaining, State.setEntry, State.writeWord]
    · rw [shown.words _ (slotWord_notMem_shown arm arm slot 12), figure]
    · simp; tauto
  · have counted' := m.writeRemaining_work arm slot 0
    have work := counted'.trans (State.endGranted_work _ arm slot)
    obtain ⟨figure, kept⟩ := State.writeRemaining_words (arm := arm) (slot := slot) wfm 0
    obtain ⟨state, ended⟩ := State.endGranted_words (arm := arm) (k := slot) (counted'.canonical wfm)
    obtain ⟨u, ran, shown⟩ := stages _ (State.countdown_of_spent current' traverse' counted spent) (work.canonical wfm)
    obtain ⟨table, -⟩ := counting.frees full counted' 0
    have left : ((m.writeRemaining arm slot 0).entry arm slot) = ⟨.granted, some { tr with remaining := 0 }⟩ := by
      rw [State.entry, State.writeRemaining_lane, Pair_get_set_same, Vector_get_set_slot, if_pos rfl, entry, ← granted, traverse]
      rfl
    have cells := State.endGranted_cells table (congrArg SlotEntry.traverse left)
    refine ⟨u, ran, counting.evaluated shown work, ?_, fun i hi => ?_, counting.flagged shown work (fs := [.lane]) ?_, ?_, ?_,
      counting.wordsKept shown (State.wordsKept_trans kept ended fun a ha => List.mem_append.mpr ha) ?_⟩
    · refine shown.lanes.trans (Pair_eq_set ?_ (work.other.trans (by rw [counting.lanes])))
      rw [State.endGranted_lane, State.writeRemaining_lane, Pair_get_set_same, entry, traverse, counting.lanes]
      simp [Vector_get_set_slot]
    · obtain ⟨-, cellsOk, -⟩ := claims
      obtain ⟨-, length, -⟩ := id full
      obtain ⟨-, frees⟩ := counting.frees full counted' i
      have records : (m.writeRemaining arm slot 0).cells.length = 1024 := counting.records
      rw [State.cell, shown.cells, cells]
      refine (State.release_cell _ arm _ (records ▸ hi)).trans ?_
      rw [show (m.writeRemaining arm slot 0).cell i = _ from counting.cells i hi]
      exact State.releaseCell_stagedCell ((State.forall_mem_cells length).mp cellsOk i hi) (held i hi) frees
    · rw [State.endGranted_ports (by rw [left]; nofun), Pair_get_modify_same, ← counting.ports]
      simp [State.writeRemaining, State.setEntry, State.writeWord, PortRegs.raised]
    · rw [shown.words _ (slotWord_notMem_shown arm arm slot 12), ended _ (by simp), figure]
      rfl
    · rw [shown.words _ (slotWord_notMem_shown arm arm slot 10), state, kept _ (by simp), State.word, counting.mem]
      rfl
    · simp
      tauto
end

section
/-! SUPPORT. R73, R74, R103, R104, R120: the end of a grant phase and of a survey: the zone view, the survey record, the flags on
both ports, and SIP. -/

namespace Sys2Proof.Machine

/-! ## Flags on both ports (R183) -/

/-- R183: an event that leaves every cause and sets `own` on the named port and `others` on the other one. -/
theorem State.portsAfter_of_flags {s u : State} {p : Port} {own others : List Flag} (enf : u.enf = s.enf)
    (same : u.ports.get p = { (s.ports.get p) with flags := (s.ports.get p).flags ||| flagBits own })
    (other : u.ports.get p.other = { (s.ports.get p.other) with flags := (s.ports.get p.other).flags ||| flagBits others }) :
    s.portsAfter u p own others := by
  have calm : u.guardConditions = s.guardConditions := State.guardConditions_congr enf
  simp [State.portsAfter, State.portAfter, calm, same, other]

theorem State.raiseBoth_port (s : State) (f : Flag) (p : Port) : (s.raiseBoth f).ports.get p = (s.ports.get p).raised f := by
  cases p <;> rfl

theorem PortRegs.raised_eq (r : PortRegs) (f : Flag) : r.raised f = { r with flags := r.flags ||| flagBits [f] } := by
  rw [flagBits_singleton]
  rfl

/-! ## The end of a survey (R103) -/

theorem State.tickServiceWaits_iff (s : State) :
    s.tickServiceWaits = true ↔ ∃ q ∈ s.waiting.flatten, ∀ arm, q ≠ .evaluation arm := by
  have kinds : ∀ q : Request, (∀ arm, q ≠ .evaluation arm) ↔ q = .configuration ∨ q = .refillTest ∨ q = .grantPhase := by
    rintro (arm | _ | _ | _) <;> simp
  simp only [State.tickServiceWaits, List.any_eq_true, Bool.or_eq_true, List.contains_iff_mem, List.mem_flatten, kinds]
  constructor
  · rintro ⟨g, hg, (h | h) | h⟩
    · exact ⟨_, ⟨g, hg, h⟩, .inl rfl⟩
    · exact ⟨_, ⟨g, hg, h⟩, .inr (.inl rfl)⟩
    · exact ⟨_, ⟨g, hg, h⟩, .inr (.inr rfl)⟩
  · rintro ⟨q, ⟨g, hg, h⟩, rfl | rfl | rfl⟩
    · exact ⟨g, hg, .inl (.inl h)⟩
    · exact ⟨g, hg, .inl (.inr h)⟩
    · exact ⟨g, hg, .inr h⟩

/-- R101: the restart that a PERIOD or a lifted HOLD has asked for is used up. -/
theorem Survey.ended_eq (v : Survey) : v.ended = { v with
    timer := if v.restart then some (31250 * 2 ^ v.period) else v.timer, restart := false } := by
  obtain ⟨timer, restart, _⟩ := v
  cases restart <;> rfl

theorem State.surveyEnd_of_waits {s : State} (waits : s.survey.sip = false ∨ s.tickServiceWaits = true) : s.surveyEnd = s := by
  obtain h | h := waits <;> simp [State.surveyEnd, h]

theorem State.surveyEnd_of_done {s : State} (sip : s.survey.sip = true) (done : s.tickServiceWaits = false) :
    s.surveyEnd = ((s.setSurvey s.survey.ended).setSip false).raiseBoth .survey := by
  simp [State.surveyEnd, sip, done]

end Sys2Proof.Machine

open Sys2Proof Sys2Proof.Machine

/-- Settles O48: SIP falls and the status word follows it, unless a service of the tick waits. -/
theorem surveyEndsWhenItsServicesHave : Obligations.SurveyEndsWhenItsServicesHave := by
  refine ⟨fun s wf sip ended => ?_, fun s waits => ?_⟩
  · have done : s.tickServiceWaits = false := by
      rw [← Bool.not_eq_true, State.tickServiceWaits_iff]
      rintro ⟨q, hq, serves⟩
      obtain ⟨arm, rfl⟩ := ended q hq
      exact serves arm rfl
    refine ⟨_, congrArg Host.Outcome.next (State.surveyEnd_of_done sip done), ?_, State.portsAfter_of_flags rfl ?_ ?_, ?_⟩
    · rw [Survey.ended_eq]
      rfl
    · rw [State.raiseBoth_port, PortRegs.raised_eq]
      rfl
    · rw [State.raiseBoth_port, PortRegs.raised_eq]
      rfl
    · exact State.writeStatus_shown ((s.setSurvey s.survey.ended).setSurvey { s.survey.ended with sip := false }) wf
  · refine congrArg Host.Outcome.next (State.surveyEnd_of_waits (waits.imp_right fun serves => ?_))
    exact s.tickServiceWaits_iff.mpr serves
end

section
/-! SUPPORT. R73, R74, R104, R120: what the end of a grant phase writes: the zone view and the survey record. -/

open Sys2Proof Sys2Proof.Machine

/-- R73, R176: four marks as a number below 16, and back. -/
theorem fourMarks (a b c d : Bool) :
    let w := wordOf (markAt a 0 + markAt b 1 + markAt c 2 + markAt d 3)
    w.toNat < 16 ∧ w.getLsbD 0 = a ∧ w.getLsbD 1 = b ∧ w.getLsbD 2 = c ∧ w.getLsbD 3 = d := by
  revert a b c d
  decide

/-- R56, R73: some cell of the zone belongs to the arm. -/
theorem zoneOwned_iff {s : State} (records : s.cells.length = 1024) (t : ZoneTable) (z : Nat) (arm : Arm) :
    anyCell (fun i c => t.zoneHas z i && c.ownedBy arm) 0 s.cells = true ↔
      ∃ i < 1024, t.zoneHas z i = true ∧ (s.cell i).owner = some arm := by
  simp only [State.anyCell_iff records, Bool.and_eq_true, Cell.ownedBy, decide_eq_true_eq]

/-- R73, R176: a state in which the word of the zone is the one that the capture takes shows the zone. -/
theorem viewRule_of_word {u : State} (records : u.cells.length = 1024) {z : Nat} (word : u.word (0x060 + z) = u.viewWord z) :
    viewRule u z := by
  simp only [viewRule, word]
  refine ⟨fun t table hz => ?_, fun t table hz => ?_, fun table => ?_⟩
  · simp only [State.viewWord, table, hz, if_true]
    obtain ⟨small, ownA, ownB, fenced, refill⟩ := fourMarks
      (anyCell (fun i c => t.zoneHas z i && c.ownedBy .a) 0 u.cells) (anyCell (fun i c => t.zoneHas z i && c.ownedBy .b) 0 u.cells)
      (u.fence.contains z) (t.refillList.contains z)
    rw [ownA, ownB, fenced, refill]
    exact ⟨small, zoneOwned_iff records t z .a, zoneOwned_iff records t z .b, by simp, by simp⟩
  · simp [State.viewWord, table, hz]
  · simp [State.viewWord, table]

namespace Sys2Proof.Machine

/-- What the end of a grant phase makes of the state that the decision leaves: the count is advanced, and the zone view and the
survey record show the state. -/
structure State.Reported (s u : State) : Prop where
  frame : u = { s with survey := { s.survey with count := s.survey.count + 1 }, mem := u.mem }
  view : ∀ z < 32, viewRule u z
  record : surveyRecordRule u
  words : s.wordsKept u surveyWords

theorem mem_surveyWords (a : Nat) : a ∈ surveyWords ↔
    a = 0x002 ∨ a = 0x003 ∨ a = 0x005 ∨ a = 0x006 ∨ a = 0x007 ∨ (0x060 ≤ a ∧ a < 0x060 + 32) := by
  simp only [surveyWords, List.mem_append, mem_offsets, List.mem_cons, List.not_mem_nil, or_false, or_assoc]

theorem State.viewWord_congr {s u : State} (active : u.active = s.active) (cells : u.cells = s.cells) (fence : u.fence = s.fence)
    (z : Nat) : u.viewWord z = s.viewWord z := by
  simp only [State.viewWord, active, cells, fence]

theorem State.writeWords_word_inside {s : State} (wf : s.memoryOk) {a k : Nat} {vs : List Word} (h : k < vs.length) :
    (s.writeWords a vs).word (a + k) = vs.getD k 0 :=
  Memory.read_writeFrom_inside vs wf h

theorem State.captureView_words {s : State} (wf : s.memoryOk) :
    (∀ z < 32, s.captureView.word (0x060 + z) = s.viewWord z) ∧ s.wordsKept s.captureView (offsets 0x060 32) := by
  refine ⟨fun z hz => ?_, fun a ha => ?_⟩
  · have inside : z < ((List.range 32).map s.viewWord).length := by simpa using hz
    rw [State.captureView, State.writeWords_word_inside wf inside, getD_map_range s.viewWord hz]
  · rw [mem_offsets] at ha
    rw [State.captureView, State.writeWords_word_outside _ _ (by simp only [List.length_map, List.length_range]; omega)]

/-- R120, R176: the five words of the record, and no other. -/
theorem State.writeSurveyRecord_words {s : State} (wf : s.memoryOk) :
    surveyRecordRule s.writeSurveyRecord ∧ s.wordsKept s.writeSurveyRecord [0x002, 0x003, 0x005, 0x006, 0x007] := by
  have count : ∀ n : Nat, wordOf (n % 2 ^ 16) = wordOf n := fun n => BitVec.eq_of_toNat_eq (by simp)
  have priority : ∀ v : Survey, v.mode.code + markAt (decide (v.favoured = .b)) 4 + sideCode v.oneShot * 2 ^ 8 =
      v.mode.code + (if v.favoured = .b then 16 else 0) + (match v.oneShot with | none => 0 | some .a => 256 | some .b => 512) := by
    rintro ⟨_, _, _, _, _, _, _, _ | _, _ | (_ | _), _⟩ <;> simp [markAt, sideCode]
  unfold State.writeSurveyRecord
  dsimp only
  rw [count, priority]
  generalize low : [wordOf s.survey.count.toNat, wordOf (s.survey.count.toNat / 2 ^ 16)] = ws
  have length : ws.length = 2 := by simp [← low]
  have wf' : (s.writeWords 0x002 ws).memoryOk := Memory.wf_writeFrom _ _ wf
  have first : ∀ k < 2, ∀ vs, ((s.writeWords 0x002 ws).writeWords 0x005 vs).word (0x002 + k) = ws.getD k 0 := fun k hk vs =>
    (State.writeWords_word_outside _ vs (by omega)).trans (State.writeWords_word_inside wf (length ▸ hk))
  have second : ∀ vs : List Word, ∀ k < vs.length, ((s.writeWords 0x002 ws).writeWords 0x005 vs).word (0x005 + k) = vs.getD k 0 :=
    fun vs k hk => State.writeWords_word_inside wf' hk
  refine ⟨⟨?_, ?_, second _ 0 (by simp), second _ 1 (by simp), second _ 2 (by simp)⟩, fun a ha => ?_⟩
  · rw [first 0 (by omega), ← low]
    rfl
  · rw [first 1 (by omega), ← low]
    rfl
  · simp only [List.mem_cons, List.not_mem_nil, or_false, not_or] at ha
    rw [State.writeWords_word_outside _ _ (by simp only [List.length_cons, List.length_nil]; omega),
      State.writeWords_word_outside _ _ (by omega)]

/-- R74, R104, R120: the end of a grant phase. -/
theorem State.reported {s : State} (wf : s.memoryOk) (records : s.cells.length = 1024) :
    s.Reported s.captureView.endGrantPhase := by
  generalize hx : s.captureView.setSurvey { s.survey with count := s.survey.count + 1 } = x
  have last : s.captureView.endGrantPhase = x.writeSurveyRecord := by
    rw [← hx, State.endGrantPhase, State.captureView_survey]
  have mem : x.mem = s.captureView.mem := by rw [← hx, State.setSurvey_mem]
  obtain ⟨captured, outside⟩ := State.captureView_words wf
  have wf' : x.memoryOk := by
    rw [State.memoryOk, mem, State.captureView, State.writeWords_mem]
    exact Memory.wf_writeFrom _ _ wf
  obtain ⟨record, kept⟩ := State.writeSurveyRecord_words wf'
  have word : ∀ a, x.word a = s.captureView.word a := fun a => congrArg (Memory.read · a) mem
  have frame : x.writeSurveyRecord =
      { s with survey := { s.survey with count := s.survey.count + 1 }, mem := x.writeSurveyRecord.mem } := by
    obtain ⟨m, capture⟩ : ∃ m, s.captureView = s.setMem m := ⟨_, rfl⟩
    obtain ⟨n, written⟩ : ∃ n, x.writeSurveyRecord = x.setMem n := ⟨_, rfl⟩
    rw [written, ← hx, capture]
    rfl
  rw [last]
  refine ⟨frame, fun z hz => ?_, record, fun a ha => ?_⟩
  · refine viewRule_of_word (by rw [frame]; exact records) ?_
    rw [kept _ (by simp only [List.mem_cons, List.not_mem_nil, or_false]; omega), word, captured z hz]
    exact (State.viewWord_congr (by rw [frame]) (by rw [frame]) (by rw [frame]) z).symm
  · rw [mem_surveyWords] at ha
    rw [kept a (by simp only [List.mem_cons, List.not_mem_nil, or_false]; omega), word,
      outside a (by rw [mem_offsets]; omega)]

/-- R74, R105: under HOLD the grant phase is its end. -/
theorem exec_surveyGrantPhase_of_hold {s : State} (due : s.readyFor .grantPhase) (hold : s.survey.hold = true) :
    exec (.surveyGrantPhase []) s = .next (s.dropRequest .grantPhase).captureView.endGrantPhase := by
  have hold' : (s.dropRequest .grantPhase).survey.hold = true := hold
  refine congrArg Host.Outcome.next ((State.serve_of_readyFor due _).trans ?_)
  simp only [State.grantPhaseBody, hold', if_true]
  rfl

end Sys2Proof.Machine

/-- Settles O40: under HOLD the grant phase is its end, the capture and the record. -/
theorem grantPhaseUnderHoldOnlyReports : Obligations.GrantPhaseUnderHoldOnlyReports := by
  intro s due wf records hold
  obtain ⟨frame, view, record, words⟩ := State.reported (s := s.dropRequest .grantPhase) wf records
  exact ⟨_, exec_surveyGrantPhase_of_hold due hold, frame, view, record, words⟩
end

section
/-! SUPPORT. R90, R112, R179: what a slot reports, and the blockers that a decision writes slot by slot in both lanes. -/

namespace Sys2Proof.Machine

/-! ## What a slot reports -/

section
variable {s x y u : State} {arm : Arm} {k : Slot} {state : Option Nat} {b : Blocker} {zone : Word}

theorem State.reports_of_words (h : x.reports y arm k state b zone)
    (before : x.word (slotBase arm k + 10) = s.word (slotBase arm k + 10))
    (after : ∀ i < 16, u.word (slotBase arm k + i) = y.word (slotBase arm k + i)) : s.reports u arm k state b zone := by
  obtain ⟨shown, blocker⟩ := h
  refine ⟨?_, (after 11 (by omega)).trans blocker⟩
  rw [after 10 (by omega), shown, before]

theorem State.reports_of_slotSame (found : s.SlotSame x arm k) (h : x.reports y arm k state b zone) (left : y.SlotSame u arm k) :
    s.reports u arm k state b zone :=
  State.reports_of_words h (found.words 10 (by omega)) left.words

/-- R179: a slot state and a blocker written over another blocker. -/
theorem State.reports_over {b' : Blocker} {zone' : Word} {n : Nat} (first : s.reports x arm k none b' zone')
    (h : x.reports u arm k (some n) b zone) : s.reports u arm k (some n) b zone := by
  have apart : wordOf (b'.code * 256) &&& 61688#16 = 0#16 := by cases b' <;> decide
  obtain ⟨old, -⟩ := first
  obtain ⟨shown, blocker⟩ := h
  refine ⟨?_, blocker⟩
  rw [shown, old]
  simp [BitVec.and_or_distrib_right, BitVec.and_assoc, apart]

theorem mem_offsets_two (a c : Nat) : c ∈ offsets a 2 ↔ c = a ∨ c = a + 1 := by
  rw [mem_offsets]
  omega

theorem State.writeBlocker_words (wf : s.memoryOk) (b : Blocker) (zone : Option Nat) :
    s.reports (s.writeBlocker arm k b zone) arm k none b (blockerZoneWord zone) ∧
      s.wordsKept (s.writeBlocker arm k b zone) (offsets (slotBase arm k + 10) 2) := by
  have kept : ∀ w : Word, w &&& 0xF0FF = (w &&& 0xF0F8) ||| (w &&& 0x0007) := fun w => by
    rw [← BitVec.and_or_distrib_left]
    rfl
  refine ⟨⟨?_, ?_⟩, fun a ha => ?_⟩ <;> rw [State.word, State.writeBlocker_mem]
  · rw [Memory.read_write_of_ne _ _ (by omega), Memory.read_write_same _ _ wf, kept]
  · exact Memory.read_write_same _ _ (Memory.wf_write _ _ wf)
  · rw [mem_offsets_two, not_or] at ha
    obtain ⟨state, zone⟩ := ha
    rw [Memory.read_write_of_ne _ _ zone, Memory.read_write_of_ne _ _ state]
    rfl

end

/-! ## Runs over the slots of a lane -/

/-- A run that writes words 10 and 11 of each of its slots leaves every other word. -/
theorem State.foldl_word {f : State → Slot → State} {arm : Arm} (work : ∀ (s : State) (k : Slot), s.SlotWork (f s k) arm k)
    (kept : ∀ (s : State) (k : Slot), s.memoryOk → s.wordsKept (f s k) (offsets (slotBase arm k + 10) 2)) {s : State}
    (wf : s.memoryOk) {l : List Slot} {a : Nat} (out : ∀ k ∈ l, a ∉ offsets (slotBase arm k + 10) 2) :
    (l.foldl f s).word a = s.word a := by
  induction l generalizing s with
  | nil => rfl
  | cons k l ih =>
    rw [List.forall_mem_cons] at out
    obtain ⟨first, rest⟩ := out
    exact (ih ((work s k).canonical wf) rest).trans (kept s k wf a first)

/-- Work on one lane leaves the words of the other lane's slots. -/
theorem State.LaneRun.slotSame {s u : State} {x arm : Arm} (h : s.LaneRun u x) (ne : arm ≠ x) (k : Slot) : s.SlotSame u arm k where
  entry := by
    have lane : u.lanes.get arm = s.lanes.get arm := by
      obtain rfl := (Arm_eq_or_eq_other arm x).resolve_left ne
      exact h.other
    rw [State.entry, State.entry, lane]
  words i hi := h.words _ fun m => by
    have hk := k.isLt
    rw [mem_offsets] at m
    cases x <;> cases arm <;> simp only [slotBase, laneBase, ne_eq, not_true_eq_false] at m ne <;> omega
  canonical := h.canonical

section
variable (s : State) (arm : Arm) (f : Finding)

theorem State.writeBlockers_run : s.LaneRun (s.writeBlockers arm f) arm :=
  .foldl (fun s k => s.writeBlocker_work arm k _ _) _ s

variable {s arm}

/-- R112: each waiting slot of the lane shows the finding's blocker for it. -/
theorem State.writeBlockers_reports (wf : s.memoryOk) (nodup : (s.lanes.get arm).waitingList.Nodup) {k : Slot}
    (waits : k ∈ (s.lanes.get arm).waitingList) :
    s.reports (s.writeBlockers arm f) arm k none (f.blockerFor k).1 (blockerZoneWord (f.blockerFor k).2) := by
  obtain ⟨x, found, left⟩ := State.slotRun (f := fun s k => s.writeBlocker arm k (f.blockerFor k).1 (f.blockerFor k).2)
    (fun s k => s.writeBlocker_work arm k _ _) nodup waits s
  exact State.reports_of_slotSame found (State.writeBlocker_words (found.canonical wf) _ _).1 left

theorem State.writeBlockers_word (wf : s.memoryOk) {a : Nat}
    (out : ∀ k ∈ (s.lanes.get arm).waitingList, a ∉ offsets (slotBase arm k + 10) 2) : (s.writeBlockers arm f).word a = s.word a :=
  State.foldl_word (fun s k => s.writeBlocker_work arm k _ _) (fun _ _ wf => (State.writeBlocker_words wf _ _).2) wf out

end

/-! ## The blockers of both lanes -/

/-- R112: a grant phase that reads lanes, once it has settled its findings and written the blockers. -/
def State.showing (s : State) (fs : Pair Finding) (v : Survey) : State :=
  (((s.dropRequest .grantPhase).setSurvey v).writeBlockers .a fs.a).writeBlockers .b fs.b

section
variable {s : State} (fs : Pair Finding) (v : Survey)

theorem State.showing_frame : s.showing fs v =
    { s with survey := v, waiting := (s.dropRequest .grantPhase).waiting, mem := (s.showing fs v).mem } := by
  obtain ⟨m, first⟩ := State.writeBlockers_frame ((s.dropRequest .grantPhase).setSurvey v) .a fs.a
  obtain ⟨n, second⟩ := State.writeBlockers_frame (((s.dropRequest .grantPhase).setSurvey v).writeBlockers .a fs.a) .b fs.b
  rw [State.showing, second, first]
  rfl

theorem State.showing_memoryOk (wf : s.memoryOk) : (s.showing fs v).memoryOk :=
  (State.writeBlockers_run _ .b fs.b).canonical ((State.writeBlockers_run _ .a fs.a).canonical wf)

/-- R112: each waiting slot of both lanes shows its lane's finding. -/
theorem State.showing_reports (wf : s.memoryOk) (ok : s.lanesOk) {arm : Arm} {k : Slot}
    (waits : k ∈ (s.lanes.get arm).waitingList) :
    s.reports (s.showing fs v) arm k none ((fs.get arm).blockerFor k).1 (blockerZoneWord ((fs.get arm).blockerFor k).2) := by
  obtain ⟨⟨-, -, nodupA, -⟩, ⟨-, -, nodupB, -⟩⟩ := ok
  generalize hd : (s.dropRequest .grantPhase).setSurvey v = d
  have wf' : d.memoryOk := by rw [← hd]; exact wf
  have lanes : d.lanes = s.lanes := by rw [← hd]; rfl
  have word : ∀ a, d.word a = s.word a := fun a => by rw [← hd]; rfl
  have runA := d.writeBlockers_run .a fs.a
  have runB := (d.writeBlockers .a fs.a).writeBlockers_run .b fs.b
  have lane : (d.writeBlockers .a fs.a).lanes.get .b = d.lanes.get .b := runA.other
  rw [State.showing, hd]
  cases arm with
  | a =>
    exact State.reports_of_words (State.writeBlockers_reports fs.a wf' (by rw [lanes]; exact nodupA) (by rw [lanes]; exact waits))
      (word _) (runB.slotSame (by decide) k).words
  | b =>
    exact State.reports_of_words (State.writeBlockers_reports fs.b (runA.canonical wf') (by rw [lane, lanes]; exact nodupB)
      (by rw [lane, lanes]; exact waits)) (((runA.slotSame (by decide) k).words 10 (by omega)).trans (word _)) (fun _ _ => rfl)

theorem State.showing_word (wf : s.memoryOk) {a : Nat}
    (out : ∀ arm, ∀ k ∈ (s.lanes.get arm).waitingList, a ∉ offsets (slotBase arm k + 10) 2) :
    (s.showing fs v).word a = s.word a := by
  have run := ((s.dropRequest .grantPhase).setSurvey v).writeBlockers_run .a fs.a
  have lane : (((s.dropRequest .grantPhase).setSurvey v).writeBlockers .a fs.a).lanes.get .b = s.lanes.get .b := run.other
  exact (State.writeBlockers_word fs.b (run.canonical wf) (by rw [lane]; exact out .b)).trans
    (State.writeBlockers_word (s := (s.dropRequest .grantPhase).setSurvey v) fs.a wf (out .a))

end

end Sys2Proof.Machine
end

section
/-! SUPPORT. R106, R110–R112: the findings of a decision, how they are settled, and the phase once they are. -/

open Sys2Proof Sys2Proof.Machine

namespace Sys2Proof.Machine

/-! ## Findings -/

/-- The head that a finding speaks of. -/
def Finding.slot : Finding → Option Slot
  | .noHead => none
  | .blocked k _ _ => some k
  | .grantable k _ => some k

/-- The finding is a grantable head. -/
def Finding.isGrantable : Finding → Bool
  | .grantable _ _ => true
  | _ => false

/-- The finding for a lane whose head is not granted, as the statements give it. -/
def Finding.held : Option (Slot × Blocker × Option Nat) → Finding
  | none => .noHead
  | some (k, b, z) => .blocked k b z

theorem Finding.held_isGrantable (x : Option (Slot × Blocker × Option Nat)) : (Finding.held x).isGrantable = false := by
  obtain _ | ⟨k, b, z⟩ := x <;> rfl

/-- R116: a lane counts toward a standoff exactly when its head waits with OTHER_ARM. -/
theorem Finding.held_onOtherArm (x : Option (Slot × Blocker × Option Nat)) :
    (Finding.held x).onOtherArm = true ↔ x.map (fun x => x.2.1) = some .otherArm := by
  obtain _ | ⟨k, b, z⟩ := x
  · simp [Finding.held, Finding.onOtherArm]
  · cases b <;> simp [Finding.held, Finding.onOtherArm]

/-- R112: a slot other than the head's is EARLY. -/
theorem Finding.blockerFor_of_ne {f : Finding} {k : Slot} (h : f.slot ≠ some k) : f.blockerFor k = (.early, none) := by
  cases f <;> simp_all [Finding.blockerFor, Finding.slot]

theorem State.find_of_heldBack {s : State} {t : ZoneTable} {arm : Arm} {x : Option (Slot × Blocker × Option Nat)}
    (h : s.heldBack t arm x) : s.find t s.refillFence arm = Finding.held x := by
  obtain _ | ⟨k, b, z⟩ := x
  · have head : (s.lanes.get arm).head = none := h
    simp [State.find, head, Finding.held]
  · obtain ⟨tr, traverse, head, blocker⟩ := h
    simp [State.find, head, traverse, blocker, Finding.held]

/-- R106: a finding speaks of the lane's head. -/
theorem State.find_slot {s : State} {t : ZoneTable} {up : Bool} {arm : Arm} {k : Slot} (found : (s.find t up arm).slot = some k) :
    (s.lanes.get arm).head = some k := by
  unfold State.find at found
  cases head : (s.lanes.get arm).head with
  | none => simp [head, Finding.slot] at found
  | some j =>
    cases traverse : (s.entry arm j).traverse with
    | none => simp [head, traverse, Finding.slot] at found
    | some tr =>
      simp only [head, traverse] at found
      split at found <;> exact found

/-- R79: the head is a waiting slot. -/
theorem Lane.head_waits {l : Lane} {k : Slot} (h : l.head = some k) : k ∈ l.waitingList := by
  unfold Lane.head at h
  split at h
  · cases h
  · exact List.mem_of_find?_eq_some h

/-! ## Settlement (R110) -/

/-- R110: without two grantable heads the findings stand, and no decision is made. -/
theorem State.settle_of_held (s : State) (t : ZoneTable) {fa fb : Finding} (h : fa.isGrantable = false ∨ fb.isGrantable = false) :
    s.settle t fa fb = (fa, fb, s.survey) := by
  unfold State.settle
  split
  · simp [Finding.isGrantable] at h
  · rfl

/-! ## The phase once the findings are settled -/

/-- R110: the findings and the survey state that a decision comes to. -/
abbrev State.settles (s : State) (t : ZoneTable) (fs : Pair Finding) (v : Survey) : Prop :=
  s.settle t (s.find t s.refillFence .a) (s.find t s.refillFence .b) = (fs.a, fs.b, v)

section
variable {s : State} {t : ZoneTable} {fs : Pair Finding} {v : Survey} (settled : s.settles t fs v) {arm : Arm} {k : Slot}
include settled

theorem State.settles.finding : fs.get arm = s.find t s.refillFence arm ∨ fs.get arm = (s.find t s.refillFence arm).lose := by
  have both := State.settle_findings s t (s.find t s.refillFence .a) (s.find t s.refillFence .b)
  rw [show s.settle t _ _ = _ from settled] at both
  cases arm
  · exact both.1
  · exact both.2

/-- R106: a settled finding speaks of the lane's head. -/
theorem State.settles.head (found : (fs.get arm).slot = some k) : (s.lanes.get arm).head = some k := by
  have lose : ∀ f : Finding, f.lose.slot = f.slot := by rintro (_ | _ | _) <;> rfl
  obtain same | lost := settled.finding (arm := arm)
  · exact State.find_slot (by rwa [← same])
  · exact State.find_slot (by rwa [lost, lose] at found)

/-- R106: a head that is grantable after the settlement is the lane's, with no blocker. -/
theorem State.settles.grantable {tr : Traverse} (found : fs.get arm = .grantable k tr) :
    s.headIs arm k tr ∧ s.blockerOf t s.refillFence arm tr = none := by
  obtain same | lost := settled.finding (arm := arm)
  · obtain ⟨head, traverse, clear⟩ := (State.find_grantable s t _ arm k tr).mp (same ▸ found)
    exact ⟨⟨head, traverse⟩, clear⟩
  · exact absurd (lost ▸ found) (Finding.lose_ne_grantable _ k tr)

theorem State.settles.count : v.count = s.survey.count := by
  have kept : ∀ fa fb, (s.settle t fa fb).2.2.count = s.survey.count := fun fa fb => by
    unfold State.settle
    (repeat' split) <;> rfl
  rw [← kept (s.find t s.refillFence .a) (s.find t s.refillFence .b), show s.settle t _ _ = _ from settled]

end

/-- R106–R118: a grant phase with no new command, its findings settled. -/
theorem exec_surveyGrantPhase_settled {s : State} {t : ZoneTable} {fs : Pair Finding} {v : Survey} (due : s.decisionDue t)
    (settled : s.settles t fs v) :
    exec (.surveyGrantPhase []) s = .next ((((s.showing fs v).grantFound t .a fs.a).grantFound t .b fs.b).updateStandoff t
      (fs.a.onOtherArm && fs.b.onOtherArm)).captureView.endGrantPhase := by
  obtain ⟨ready, -, -, hold, table, calm, -⟩ := due
  generalize hd : s.dropRequest .grantPhase = d
  have table' : d.active = some t := by rw [← hd]; exact table
  have settled' : d.settle t (d.find t d.refillFence .a) (d.find t d.refillFence .b) = (fs.a, fs.b, v) := by
    rw [← hd]
    exact settled
  have calm' : ∀ arm k, ¬ d.slotNew arm k := by rw [← hd]; exact calm
  rw [exec_surveyGrantPhase_of_readyFor ready hold, hd, State.visits_of_notNew calm', State.afterIntake, State.decideGrants, table']
  simp only [settled', State.showing, hd]

theorem State.grantFound_of_held {f : Finding} (held : f.isGrantable = false) (y : State) (t : ZoneTable) (arm : Arm) :
    y.grantFound t arm f = y := by
  cases f with
  | noHead => rfl
  | blocked => rfl
  | grantable => cases held

theorem State.grantFound_none {fs : Pair Finding} (held : ∀ arm, (fs.get arm).isGrantable = false) (y : State) (t : ZoneTable) :
    (y.grantFound t .a fs.a).grantFound t .b fs.b = y := by
  rw [State.grantFound_of_held (f := fs.a) (held .a), State.grantFound_of_held (f := fs.b) (held .b)]

/-- R59, R88, R111: the grants of a decision in which one head is grantable. -/
theorem State.grantFound_lone {fs : Pair Finding} {arm : Arm} {k : Slot} {tr : Traverse} (own : fs.get arm = .grantable k tr)
    (other : (fs.get arm.other).isGrantable = false) (y : State) (t : ZoneTable) :
    (y.grantFound t .a fs.a).grantFound t .b fs.b = y.grant t arm k tr := by
  obtain ⟨fa, fb⟩ := fs
  cases arm with
  | a =>
    obtain rfl : fa = _ := own
    exact State.grantFound_of_held (f := fb) other _ t .b
  | b =>
    obtain rfl : fb = _ := own
    rw [State.grantFound_of_held (f := fa) other y t .a]
    rfl

/-- R116: a grantable head is no standoff. -/
theorem Finding.no_standoff {fs : Pair Finding} {arm : Arm} (h : (fs.get arm).onOtherArm = false) :
    (fs.a.onOtherArm && fs.b.onOtherArm) = false := by
  cases arm with
  | a => rw [show fs.a.onOtherArm = false from h, Bool.false_and]
  | b => rw [show fs.b.onOtherArm = false from h, Bool.and_false]

theorem State.updateStandoff_false (y : State) (t : ZoneTable) :
    y.updateStandoff t false = y.setSurvey { y.survey with standoff := 0 } := rfl

/-! ## What is shown when the phase ends -/

/-- But for the slot state and blocker of the waiting slots of `s`, and the grant survey of the slots granted, memory is as before. -/
def State.decisionWords (s z : State) (granted : List (Arm × Slot)) : Prop :=
  ∀ a, (∀ arm, ∀ k ∈ (s.lanes.get arm).waitingList, a ∉ offsets (slotBase arm k + 10) 2) →
    (∀ g ∈ granted, a ≠ slotBase g.1 g.2 + 13) → z.word a = s.word a

theorem State.Reported.decisionShown {s z u : State} {granted : List (Arm × Slot)} (h : z.Reported u)
    (words : s.decisionWords z granted) : decisionShown s u granted :=
  ⟨h.view, h.record, fun a out slots stamps => (h.words a out).trans (words a slots stamps)⟩

theorem State.Reported.slotWord {z u : State} (h : z.Reported u) (arm : Arm) (k : Slot) (i : Nat) :
    u.word (slotBase arm k + i) = z.word (slotBase arm k + i) :=
  h.words _ fun m => by
    rw [mem_surveyWords] at m
    cases arm <;> simp only [slotBase, laneBase] at m <;> omega

theorem State.Reported.reports {s z u : State} (h : z.Reported u) {arm : Arm} {k : Slot} {state : Option Nat} {b : Blocker}
    {zone : Word} (shown : s.reports z arm k state b zone) : s.reports u arm k state b zone :=
  State.reports_of_words shown rfl fun i _ => h.slotWord arm k i

section
variable {s : State} {t : ZoneTable} {fs : Pair Finding} {v : Survey} (settled : s.settles t fs v) (wf : s.memoryOk)
  (ok : s.lanesOk) {arm : Arm} {k : Slot}
include settled wf ok

/-- R112: a waiting slot that is no head shows EARLY. -/
theorem State.showing_early (waits : k ∈ (s.lanes.get arm).waitingList) (ne : (s.lanes.get arm).head ≠ some k) :
    s.reports (s.showing fs v) arm k none .early 0 := by
  have shown := s.showing_reports fs v wf ok waits
  rwa [Finding.blockerFor_of_ne fun found => ne (settled.head found)] at shown

/-- R112: a head that is held back shows its blocker. -/
theorem State.showing_blocked {b : Blocker} {z : Option Nat} (found : fs.get arm = .blocked k b z) :
    s.reports (s.showing fs v) arm k none b (blockerZoneWord z) := by
  have shown := s.showing_reports fs v wf ok (Lane.head_waits (settled.head (arm := arm) (k := k) (by rw [found]; rfl)))
  simpa only [found, Finding.blockerFor, if_true] using shown

end

/-! ## A grant (R59, R88, R111) -/

/-- What a grant makes of the state. -/
structure State.Granted (y g : State) (t : ZoneTable) (arm : Arm) (k : Slot) (tr : Traverse) : Prop where
  work : y.SlotWork g arm k
  lanes : g.lanes = y.lanes.set arm ((y.lanes.get arm).granted k)
  records : g.cells.length = 1024
  cell : ∀ i < 1024, g.cell i = if t.setHas tr.zones i then ⟨some arm, (y.cell i).count + 1, false⟩ else y.cell i
  ports : g.ports = y.ports.modify arm (fun r => r.raised .lane)
  shown : y.reports g arm k (some 2) .none 0
  stamp : g.word (slotBase arm k + 13) = wordOf y.survey.count.toNat
  words : ∀ a, a ∉ offsets (slotBase arm k + 10) 2 → a ≠ slotBase arm k + 13 → g.word a = y.word a

/-- R111: a set is claimable when no cell of it is the other arm's. -/
theorem State.claimable_iff {y : State} (records : y.cells.length = 1024) (arm : Arm) (inSet : Nat → Bool) :
    y.claimable arm inSet = true ↔ ∀ i < 1024, inSet i = true → (y.cell i).owner ≠ some arm.other := by
  rw [State.claimable, Bool.not_eq_true', ← Bool.not_eq_true, State.anyCell_iff records]
  simp [Cell.ownedBy]

/-- R106: no cell of a grantable head's set is the other arm's. -/
theorem State.owner_of_clear {s : State} {t : ZoneTable} {up : Bool} {arm : Arm} {tr : Traverse} (records : s.cells.length = 1024)
    (clear : s.blockerOf t up arm tr = none) {i : Nat} (hi : i < 1024) (member : t.setHas tr.zones i = true) :
    (s.cell i).owner ≠ some arm.other := by
  obtain ⟨-, -, -, -, free⟩ := (State.blockerOf_none s t up arm tr).mp clear
  have record : s.cell i = s.cells[i] := by simp [State.cell, records, hi]
  have away := free i (records ▸ hi) member
  rwa [← record, Cell.ownedBy, decide_eq_false_iff_not] at away

theorem State.grant_granted {y : State} {t : ZoneTable} {arm : Arm} {k : Slot} {tr : Traverse} (wf : y.memoryOk)
    (records : y.cells.length = 1024) (free : ∀ i < 1024, t.setHas tr.zones i = true → (y.cell i).owner ≠ some arm.other)
    (waits : (y.entry arm k).state = .waiting) : y.Granted (y.grant t arm k tr) t arm k tr := by
  have claimable := (State.claimable_iff records arm (t.setHas tr.zones)).mpr free
  generalize hx : (y.claim arm (t.setHas tr.zones)).modLane arm (fun l =>
    { l with
      next := l.next.map (fun n => n + 1), waitingList := l.waitingList.filter (fun j => j != k)
      grantedList := l.grantedList ++ [k] }) = x
  have grant : y.grant t arm k tr = ((x.writeSlotState arm k .granted).writeBlocker arm k .none none).writeWord
      (slotBase arm k + 13) (wordOf y.survey.count.toNat) := by
    rw [State.grant, if_pos claimable, hx]
  have entry : x.entry arm k = y.entry arm k := by
    rw [← hx]
    simp [State.entry]
  have mem : x.mem = y.mem := by rw [← hx]; rfl
  have wf' : x.memoryOk := by rw [State.memoryOk, mem]; exact wf
  have word : ∀ a, x.word a = y.word a := fun a => congrArg (Memory.read · a) mem
  have work : y.SlotWork (y.grant t arm k tr) arm k := by
    rw [grant, ← hx]
    refine .trans ?_ (State.writeWord_work _ arm k (by omega) (by omega) _)
    refine .trans ?_ (State.writeBlocker_work _ arm k _ _)
    refine .trans ?_ (State.writeSlotState_work _ arm k _)
    exact (y.putCells_work arm k _).trans (State.modLane_work _ arm k fun _ _ _ => rfl)
  obtain ⟨reports, kept⟩ := State.writeSlotState_writeBlocker_words (s := x) (arm := arm) (k := k) (st := .granted) wf' rfl .none none
  obtain ⟨cells, -⟩ := State.grant_claim (k := k) claimable
  have written := (x.writeSlotState_work arm k .granted).trans (State.writeBlocker_work _ arm k .none none)
  refine ⟨work, Pair_eq_set (State.grant_lane claimable) work.other, ?_, fun i hi => ?_, ?_, ?_, ?_, fun a slot stamp => ?_⟩
  · rw [State.grant_cells_length, records]
  · rw [State.cell, cells]
    exact y.claim_cell arm _ (records ▸ hi)
  · rw [grant, State.writeWord_ports, State.writeBlocker_ports, State.writeSlotState_ports, entry, waits, ← hx]
    simp
  · rw [grant]
    obtain ⟨state, zone⟩ := reports
    refine ⟨?_, ?_⟩
    · rw [State.writeWord_word_of_ne _ _ (by omega), state, word]
      rfl
    · rw [State.writeWord_word_of_ne _ _ (by omega), zone]
      rfl
  · rw [grant]
    exact Memory.read_write_same _ _ (written.canonical wf')
  · rw [mem_offsets_two] at slot
    rw [grant, State.writeWord_word_of_ne _ _ stamp, kept a (by simpa using slot), word]

end Sys2Proof.Machine
end

section
/-! SUPPORT. R59, R88, R110–R112: the grants of a decision, from the findings settled to the end of the phase. -/

open Sys2Proof Sys2Proof.Machine

namespace Sys2Proof.Machine

/-! ## What a decision may change -/

/-- A decision with survey state `v` touches memory, flags, the claim table and the lanes, and its request is served. -/
def State.PhaseFrame (s z : State) (v : Survey) : Prop :=
  z = { s with
        survey := v, waiting := (s.dropRequest .grantPhase).waiting, mem := z.mem, ports := z.ports, cells := z.cells
        tallies := z.tallies, lanes := z.lanes }

section
variable {s y z u : State} {v w : Survey}

theorem State.PhaseFrame.laneWork (h : s.PhaseFrame y v) (work : y.LaneWork z) : s.PhaseFrame z v := by
  unfold State.PhaseFrame State.LaneWork at *
  rw [h] at work
  exact work

/-- A decision that changes neither flags nor cells nor lanes touches memory alone. -/
theorem State.PhaseFrame.memory (h : s.PhaseFrame z v) (ports : z.ports = s.ports) (cells : z.cells = s.cells)
    (tallies : z.tallies = s.tallies) (lanes : z.lanes = s.lanes) :
    z = { s with survey := v, waiting := (s.dropRequest .grantPhase).waiting, mem := z.mem } := by
  unfold State.PhaseFrame at h
  rwa [ports, cells, tallies, lanes] at h

theorem State.PhaseFrame.enf (h : s.PhaseFrame z v) : z.enf = s.enf := by
  unfold State.PhaseFrame at h
  rw [h]

theorem State.PhaseFrame.survey (h : s.PhaseFrame z v) : z.survey = v := by
  unfold State.PhaseFrame at h
  rw [h]

theorem State.PhaseFrame.reported (h : s.PhaseFrame z v) (r : (z.setSurvey w).Reported u) :
    s.PhaseFrame u { w with count := w.count + 1 } := by
  unfold State.PhaseFrame at *
  refine r.frame.trans ?_
  rw [r.frame]
  conv_lhs => rw [h]
  rfl

theorem State.Reported.lanes (r : (z.setSurvey w).Reported u) : u.lanes = z.lanes := by rw [r.frame]; rfl
theorem State.Reported.ports (r : (z.setSurvey w).Reported u) : u.ports = z.ports := by rw [r.frame]; rfl
theorem State.Reported.cells (r : (z.setSurvey w).Reported u) : u.cells = z.cells := by rw [r.frame]; rfl
theorem State.Reported.tallies (r : (z.setSurvey w).Reported u) : u.tallies = z.tallies := by rw [r.frame]; rfl
theorem State.Reported.cell (r : (z.setSurvey w).Reported u) (i : Nat) : u.cell i = z.cell i :=
  congrArg (·.getD i Cell.unowned) r.cells

end

section
variable (s : State) (fs : Pair Finding) (v : Survey)

theorem State.showing_phase : s.PhaseFrame (s.showing fs v) v := by
  unfold State.PhaseFrame
  rw [State.showing_frame]

theorem State.showing_lanes : (s.showing fs v).lanes = s.lanes := by rw [State.showing_frame]
theorem State.showing_ports : (s.showing fs v).ports = s.ports := by rw [State.showing_frame]
theorem State.showing_cells : (s.showing fs v).cells = s.cells := by rw [State.showing_frame]
theorem State.showing_tallies : (s.showing fs v).tallies = s.tallies := by rw [State.showing_frame]
theorem State.showing_cell (i : Nat) : (s.showing fs v).cell i = s.cell i :=
  congrArg (·.getD i Cell.unowned) (s.showing_cells fs v)

end

/-- R78, R79: the head is WAITING. -/
theorem State.entry_of_head {s : State} (ok : s.lanesOk) {arm : Arm} {k : Slot} (head : (s.lanes.get arm).head = some k) :
    (s.entry arm k).state = .waiting := by
  obtain ⟨⟨waitsA, -⟩, ⟨waitsB, -⟩⟩ := ok
  cases arm
  · exact (waitsA k).mp (Lane.head_waits head)
  · exact (waitsB k).mp (Lane.head_waits head)

/-- The lane's record after a grant, as the statements give it. -/
theorem Lane.granted_eq {l : Lane} {k : Slot} {tr : Traverse} (traverse : (l.slots.get k).traverse = some tr) :
    l.granted k = { l with
      next := l.next.map (fun n => n + 1), waitingList := l.waitingList.filter (fun j => j != k)
      grantedList := l.grantedList ++ [k], slots := l.slots.set k.val ⟨.granted, some tr⟩ } := by
  rw [Lane.granted, ← traverse]

/-! ## What is shown along the way -/

section
variable {s y g u : State} {t : ZoneTable} {arm : Arm} {k : Slot} {tr : Traverse}

theorem grantShown_of_words (h : grantShown s y arm k)
    (words : ∀ i < 16, u.word (slotBase arm k + i) = y.word (slotBase arm k + i)) : grantShown s u arm k := by
  obtain ⟨shown, stamp⟩ := h
  exact ⟨State.reports_of_words shown rfl words, (words 13 (by omega)).trans stamp⟩

theorem earlyElsewhere_of_words (h : earlyElsewhere s y) (words : ∀ arm k, (s.lanes.get arm).head ≠ some k →
    ∀ i < 16, u.word (slotBase arm k + i) = y.word (slotBase arm k + i)) : earlyElsewhere s u := fun arm k waits ne =>
  State.reports_of_words (h arm k waits ne) rfl (words arm k ne)

/-- R88, R111: the slot granted, once its blocker has been written. -/
theorem State.Granted.grantShown {b : Blocker} {zone : Word} (h : y.Granted g t arm k tr) (first : s.reports y arm k none b zone)
    (count : y.survey.count = s.survey.count) : grantShown s g arm k :=
  ⟨State.reports_over first h.shown, by rw [h.stamp, count]⟩

/-- R183: a change of flags on a lane's own port alone. -/
theorem State.Reported.laneFlag {z : State} {w : Survey} (r : (z.setSurvey w).Reported u) (enf : z.enf = s.enf)
    (ports : z.ports = s.ports.modify arm (fun r => r.raised .lane)) : s.portsAfter u arm [.lane] [] :=
  State.portsAfter_of_raised ((by rw [r.frame]; rfl : u.enf = z.enf).trans enf) (r.ports.trans ports)

end

/-! ## A decision on its way -/

/-- The decision has come to the state `x`: the blockers are written, and the slots of `l` have been granted. -/
structure State.Deciding (s x : State) (fs : Pair Finding) (v : Survey) (l : List (Arm × Slot)) : Prop where
  frame : s.PhaseFrame x v
  canonical : x.memoryOk
  records : x.cells.length = 1024
  words : s.decisionWords x l
  early : earlyElsewhere s x
  slots : ∀ arm k, (arm, k) ∉ l → ∀ i < 16, x.word (slotBase arm k + i) = (s.showing fs v).word (slotBase arm k + i)

section
variable {s : State} {t : ZoneTable} {fs : Pair Finding} {v : Survey} (due : s.decisionDue t) (settled : s.settles t fs v)
include due settled

theorem State.showing_deciding : s.Deciding (s.showing fs v) fs v [] := by
  obtain ⟨-, wf, records, -, -, -, ok⟩ := due
  exact ⟨s.showing_phase fs v, s.showing_memoryOk fs v wf, by rw [State.showing_cells, records],
    fun _ slots _ => s.showing_word fs v wf slots, fun _ _ waits ne => State.showing_early settled wf ok waits ne,
    fun _ _ _ _ _ => rfl⟩

/-- R111: the first grant of a decision. -/
theorem State.showing_granted {arm : Arm} {k : Slot} {tr : Traverse} (own : fs.get arm = .grantable k tr) :
    (s.showing fs v).Granted ((s.showing fs v).grant t arm k tr) t arm k tr := by
  obtain ⟨-, wf, records, -, -, -, ok⟩ := due
  obtain ⟨⟨head, -⟩, clear⟩ := settled.grantable own
  refine State.grant_granted (s.showing_memoryOk fs v wf) (by rw [State.showing_cells, records]) (fun i hi member => ?_) ?_
  · rw [State.showing_cell]
    exact State.owner_of_clear records clear hi member
  · rw [State.entry, State.showing_lanes]
    exact State.entry_of_head ok head

omit settled in
/-- R112: a slot not granted yet shows its lane's finding. -/
theorem State.Deciding.reports {x : State} {l : List (Arm × Slot)} (h : s.Deciding x fs v l) {arm : Arm} {k : Slot}
    (out : (arm, k) ∉ l) (waits : k ∈ (s.lanes.get arm).waitingList) :
    s.reports x arm k none ((fs.get arm).blockerFor k).1 (blockerZoneWord ((fs.get arm).blockerFor k).2) := by
  obtain ⟨-, wf, -, -, -, -, ok⟩ := due
  exact State.reports_of_words (s.showing_reports fs v wf ok waits) rfl (h.slots arm k out)

omit due settled in
/-- R88, R111: one grant more. -/
theorem State.Deciding.grant {x g : State} {l : List (Arm × Slot)} (h : s.Deciding x fs v l) {arm : Arm} {k : Slot} {tr : Traverse}
    (granted : x.Granted g t arm k tr) (head : (s.lanes.get arm).head = some k) : s.Deciding g fs v (l ++ [(arm, k)]) where
  frame := h.frame.laneWork granted.work.frame
  canonical := granted.work.canonical h.canonical
  records := granted.records
  words a slots stamps := by
    rw [granted.words a (slots arm k (Lane.head_waits head)) (stamps (arm, k) (by simp))]
    exact h.words a slots fun x hx => stamps x (List.mem_append_left _ hx)
  early := earlyElsewhere_of_words h.early fun y j ne _ hi => granted.work.word_other (fun same => ne (by
    obtain ⟨rfl, rfl⟩ := Prod.mk.inj same
    exact head)) hi
  slots y j out i hi := by
    rw [List.mem_append, List.mem_singleton, not_or] at out
    obtain ⟨before, ne⟩ := out
    exact (granted.work.word_other (Ne.symm ne) hi).trans (h.slots y j before i hi)

end

/-- What the end of the phase leaves of a decision. -/
structure State.Ended (s x u : State) (w : Survey) (l : List (Arm × Slot)) : Prop where
  reported : (x.setSurvey w).Reported u
  frame : s.PhaseFrame u { w with count := w.count + 1 }
  early : earlyElsewhere s u
  decision : decisionShown s u l

/-- R74, R104, R120: the phase ends, the survey state being `w`. -/
theorem State.Deciding.ended {s x : State} {fs : Pair Finding} {v : Survey} {l : List (Arm × Slot)} (h : s.Deciding x fs v l)
    (w : Survey) : s.Ended x (x.setSurvey w).captureView.endGrantPhase w l := by
  have reported := State.reported (s := x.setSurvey w) h.canonical h.records
  have words : s.decisionWords (x.setSurvey w) l := h.words
  exact ⟨reported, h.frame.reported reported, earlyElsewhere_of_words h.early fun y j _ i _ => reported.slotWord y j i,
    reported.decisionShown words⟩

/-! ## One grant -/

/-- What a decision with one grant, the other lane's finding being `found`, leaves at the end of the phase. -/
structure State.LoneGrant (s u : State) (t : ZoneTable) (arm : Arm) (k : Slot) (tr : Traverse) (found : Finding) (v : Survey) :
    Prop where
  frame : s.PhaseFrame u { v with count := s.survey.count + 1, standoff := 0 }
  lanes : u.lanes = s.lanes.set arm { (s.lanes.get arm) with
    next := (s.lanes.get arm).next.map (fun n => n + 1), waitingList := (s.lanes.get arm).waitingList.filter (fun j => j != k)
    grantedList := (s.lanes.get arm).grantedList ++ [k], slots := (s.lanes.get arm).slots.set k.val ⟨.granted, some tr⟩ }
  cell : ∀ i < 1024, u.cell i = if t.setHas tr.zones i then ⟨some arm, (s.cell i).count + 1, false⟩ else s.cell i
  ports : s.portsAfter u arm [.lane] []
  granted : grantShown s u arm k
  other : ∀ j b z, found = .blocked j b z → s.reports u arm.other j none b (blockerZoneWord z)
  early : earlyElsewhere s u
  decision : decisionShown s u [(arm, k)]

/-- R59, R88, R104, R110–R112, R117: a decision that grants one head. -/
theorem exec_surveyGrantPhase_loneGrant {s : State} {t : ZoneTable} {arm : Arm} {k : Slot} {tr : Traverse} {fs : Pair Finding}
    {v : Survey} (due : s.decisionDue t) (settled : s.settles t fs v) (own : fs.get arm = .grantable k tr)
    (other : (fs.get arm.other).isGrantable = false) :
    ∃ u, exec (.surveyGrantPhase []) s = .next u ∧ s.LoneGrant u t arm k tr (fs.get arm.other) v := by
  obtain ⟨-, wf, -, -, -, -, ok⟩ := id due
  obtain ⟨⟨head, traverse⟩, -⟩ := settled.grantable own
  have begun := State.showing_deciding due settled
  have granted := State.showing_granted due settled own
  have decided := begun.grant granted head
  have ended := decided.ended { v with standoff := 0 }
  have ends := exec_surveyGrantPhase_settled due settled
  rw [State.grantFound_lone own other, Finding.no_standoff (arm := arm) (by rw [own]; rfl), State.updateStandoff_false,
    decided.frame.survey] at ends
  generalize hz : (s.showing fs v).grant t arm k tr = z at *
  generalize (z.setSurvey { v with standoff := 0 }).captureView.endGrantPhase = u at *
  refine ⟨u, ends, settled.count ▸ ended.frame, ?_, fun i hi => ?_, ended.reported.laneFlag decided.frame.enf ?_, ?_,
    fun j b zone found => ?_, ended.early, ended.decision⟩
  · rw [ended.reported.lanes, granted.lanes, State.showing_lanes, Lane.granted_eq traverse]
  · rw [ended.reported.cell, granted.cell i hi, State.showing_cell]
  · rw [granted.ports, State.showing_ports]
  · refine grantShown_of_words (granted.grantShown (begun.reports due List.not_mem_nil (Lane.head_waits head)) ?_) fun i _ =>
      ended.reported.slotWord arm k i
    rw [begun.frame.survey, settled.count]
  · refine ended.reported.reports (State.reports_of_words (State.showing_blocked settled wf ok found) rfl fun i hi => ?_)
    exact granted.work.word_other (by simp) hi

/-! ## No grant -/

/-- The findings of a decision, as R106 tests them. -/
def State.findings (s : State) (t : ZoneTable) : Pair Finding := ⟨s.find t s.refillFence .a, s.find t s.refillFence .b⟩

theorem State.findings_get (s : State) (t : ZoneTable) (arm : Arm) : (s.findings t).get arm = s.find t s.refillFence arm := by
  cases arm <;> rfl

/-- R110: one finding that is no grantable head leaves both as they are. -/
theorem State.settles_of_held {s : State} {t : ZoneTable} {arm : Arm} (held : ((s.findings t).get arm).isGrantable = false) :
    s.settles t (s.findings t) s.survey :=
  s.settle_of_held t (by cases arm; exacts [.inl held, .inr held])

section
variable {y : State} {t : ZoneTable}

theorem State.updateStandoff_below (below : y.survey.standoff + 1 < t.sc.toNat) :
    y.updateStandoff t true = y.setSurvey { y.survey with standoff := y.survey.standoff + 1 } := by
  simp [State.updateStandoff, Nat.not_le.mpr below]

theorem State.updateStandoff_reached (reached : t.sc.toNat ≤ y.survey.standoff + 1) : y.updateStandoff t true = y.yield := by
  simp [State.updateStandoff, reached]

end

/-- What a decision without a grant and without a yield leaves at the end of the phase, the standoff counter being `n`. -/
structure State.NoGrant (s u : State) (fs : Pair Finding) (n : Nat) : Prop where
  frame : u = { s with
    survey := { s.survey with count := s.survey.count + 1, standoff := n }
    waiting := (s.dropRequest .grantPhase).waiting, mem := u.mem }
  blocked : ∀ arm k b z, fs.get arm = .blocked k b z → s.reports u arm k none b (blockerZoneWord z)
  early : earlyElsewhere s u
  decision : decisionShown s u []

/-- R104, R112, R117: a decision that grants no head, and whose standoff update sets the counter to `n`. -/
theorem exec_surveyGrantPhase_noGrant {s : State} {t : ZoneTable} {n : Nat} (due : s.decisionDue t)
    (held : ∀ arm, ((s.findings t).get arm).isGrantable = false)
    (counts : ∀ y : State, y.survey = s.survey →
      y.updateStandoff t ((s.findings t).a.onOtherArm && (s.findings t).b.onOtherArm) = y.setSurvey { y.survey with standoff := n }) :
    ∃ u, exec (.surveyGrantPhase []) s = .next u ∧ s.NoGrant u (s.findings t) n := by
  obtain ⟨-, wf, -, -, -, -, ok⟩ := id due
  have settled := State.settles_of_held (held .a)
  have begun := State.showing_deciding due settled
  have ended := begun.ended { s.survey with standoff := n }
  have ends := exec_surveyGrantPhase_settled due settled
  rw [State.grantFound_none held, counts _ begun.frame.survey, begun.frame.survey] at ends
  generalize ((s.showing (s.findings t) s.survey).setSurvey { s.survey with standoff := n }).captureView.endGrantPhase = u at *
  refine ⟨u, ends, ended.frame.memory ?_ ?_ ?_ ?_, fun arm k b z found => ?_, ended.early, ended.decision⟩
  · rw [ended.reported.ports, State.showing_ports]
  · rw [ended.reported.cells, State.showing_cells]
  · rw [ended.reported.tallies, State.showing_tallies]
  · rw [ended.reported.lanes, State.showing_lanes]
  · exact ended.reported.reports (State.showing_blocked settled wf ok found)

/-- R112: without a table the phase only reports, and the standoff counter is 0. -/
theorem exec_surveyGrantPhase_noTable {s : State} (due : s.readyFor .grantPhase) (hold : s.survey.hold = false)
    (table : s.active = none) (calm : ∀ arm k, ¬ s.slotNew arm k) :
    exec (.surveyGrantPhase []) s = .next
      ((s.dropRequest .grantPhase).setSurvey { s.survey with standoff := 0 }).captureView.endGrantPhase := by
  have calm' : ∀ arm k, ¬ (s.dropRequest .grantPhase).slotNew arm k := calm
  have table' : (s.dropRequest .grantPhase).active = none := table
  rw [exec_surveyGrantPhase_of_readyFor due hold, State.visits_of_notNew calm', State.afterIntake, State.decideGrants, table']
  rfl

end Sys2Proof.Machine

/-- Settles O42: a lone grantable head is the one grant; with none the blockers are all that is written. -/
theorem loneHeadIsGrantedOrWaits : Obligations.LoneHeadIsGrantedOrWaits := by
  refine ⟨fun s t arm slot tr other due head clear back => ?_, fun s t xs due back mixed => ?_,
    fun s due wf records hold table calm waits => ?_⟩
  · obtain ⟨first, traverse⟩ := head
    have own : (s.findings t).get arm = .grantable slot tr := by
      rw [State.findings_get, State.find_grantable]
      exact ⟨first, traverse, clear⟩
    have rest : (s.findings t).get arm.other = Finding.held other := by rw [State.findings_get, State.find_of_heldBack back]
    have held : ((s.findings t).get arm.other).isGrantable = false := by rw [rest, Finding.held_isGrantable]
    obtain ⟨u, ends, grant⟩ := exec_surveyGrantPhase_loneGrant due (State.settles_of_held held) own held
    refine ⟨u, ends, grant.frame, grant.lanes, grant.cell, grant.ports, grant.granted, ?_, grant.early, grant.decision⟩
    obtain _ | ⟨k, b, z⟩ := other
    · trivial
    · exact grant.other k b z rest
  · have found : ∀ arm, (s.findings t).get arm = Finding.held (xs.get arm) := fun arm => by
      rw [State.findings_get, State.find_of_heldBack (back arm)]
    obtain ⟨arm, other⟩ := mixed
    have calm : ((s.findings t).get arm).onOtherArm = false := by
      rw [found, ← Bool.not_eq_true, Finding.held_onOtherArm]
      exact other
    obtain ⟨u, ends, shown⟩ := exec_surveyGrantPhase_noGrant (n := 0) due (fun arm => by rw [found, Finding.held_isGrantable])
      fun y _ => by rw [Finding.no_standoff calm, State.updateStandoff_false]
    refine ⟨u, ends, shown.frame, fun arm => ?_, shown.early, shown.decision⟩
    have blocked := shown.blocked arm
    rw [found] at blocked
    generalize xs.get arm = x at blocked ⊢
    obtain _ | ⟨k, b, z⟩ := x
    · trivial
    · exact blocked k b z rfl
  · have ended := State.reported (s := (s.dropRequest .grantPhase).setSurvey { s.survey with standoff := 0 }) wf records
    exact ⟨_, exec_surveyGrantPhase_noTable due hold table calm, ended.frame,
      ended.decisionShown (granted := []) fun _ _ _ => rfl⟩
end

section
/-! SUPPORT. R110, R111, R113, R114: two grantable heads: a contest settled by priority, or two grants. -/

open Sys2Proof Sys2Proof.Machine

namespace Sys2Proof.Machine

theorem State.PhaseFrame.self {s z : State} {v : Survey} (h : s.PhaseFrame z v) : s.PhaseFrame z z.survey := by
  rwa [h.survey]

/-! ## The contest (R110, R113) -/

/-- R110: the heads contest when some unowned cell lies in both sets. -/
theorem State.contest_iff {s : State} (records : s.cells.length = 1024) (t : ZoneTable) (x y : Traverse) :
    s.contest t x y = true ↔
      ∃ i < 1024, t.setHas x.zones i = true ∧ t.setHas y.zones i = true ∧ (s.cell i).owner = none := by
  rw [State.contest, Option.isSome_iff_ne_none, ne_eq, State.zoneTest_none]
  push Not
  constructor
  · rintro ⟨i, hi, member, meets⟩
    simp only [ne_eq, Bool.not_eq_false, Bool.and_eq_true, decide_eq_true_eq] at meets
    obtain ⟨unowned, both⟩ := meets
    exact ⟨i, records ▸ hi, member, both, by simpa [State.cell, hi] using unowned⟩
  · rintro ⟨i, hi, member, both, unowned⟩
    have hi' : i < s.cells.length := records ▸ hi
    refine ⟨i, hi', member, ?_⟩
    simp only [State.cell, List.getD_eq_getElem _ _ hi'] at unowned
    simp [unowned, both]

section
variable {s : State} {t : ZoneTable} {slots : Pair Slot} {trs : Pair Traverse}
  (both : ∀ arm, (s.findings t).get arm = .grantable (slots.get arm) (trs.get arm))
include both

/-- R110, R113, R114: the favoured arm's head stays grantable, and the other one waits with CONTEST. -/
theorem State.settles_of_contest (contest : s.contest t trs.a trs.b = true) :
    s.settles t ((s.findings t).modify s.survey.favouredNow.other Finding.lose) (s.survey.decided s.survey.favouredNow.other) := by
  have a : (s.findings t).a = .grantable slots.a trs.a := both .a
  have b : (s.findings t).b = .grantable slots.b trs.b := both .b
  change s.settle t (s.findings t).a (s.findings t).b = _
  generalize s.findings t = fs at a b
  obtain ⟨fa, fb⟩ := fs
  obtain rfl : fa = _ := a
  obtain rfl : fb = _ := b
  simp only [State.settle, contest, if_true]
  cases s.survey.favouredNow <;> rfl

/-- R110: without a contest both heads stay grantable, and no decision is made. -/
theorem State.settles_of_noContest (apart : s.contest t trs.a trs.b = false) : s.settles t (s.findings t) s.survey := by
  have a : (s.findings t).a = .grantable slots.a trs.a := both .a
  have b : (s.findings t).b = .grantable slots.b trs.b := both .b
  change s.settle t (s.findings t).a (s.findings t).b = _
  unfold State.settle
  rw [a, b]
  simp [apart]

end

/-! ## Two grants (R111) -/

/-- What a decision with two grants leaves at the end of the phase. -/
structure State.BothGrant (s u : State) (t : ZoneTable) (slots : Pair Slot) (trs : Pair Traverse) : Prop where
  frame : s.PhaseFrame u { s.survey with count := s.survey.count + 1, standoff := 0 }
  lanes : ∀ arm, u.lanes.get arm = { (s.lanes.get arm) with
    next := (s.lanes.get arm).next.map (fun n => n + 1)
    waitingList := (s.lanes.get arm).waitingList.filter (fun j => j != slots.get arm)
    grantedList := (s.lanes.get arm).grantedList ++ [slots.get arm]
    slots := (s.lanes.get arm).slots.set (slots.get arm).val ⟨.granted, some (trs.get arm)⟩ }
  cell : ∀ i < 1024, u.cell i =
    if t.setHas trs.a.zones i then ⟨some .a, (s.cell i).count + 1, false⟩
    else if t.setHas trs.b.zones i then ⟨some .b, (s.cell i).count + 1, false⟩ else s.cell i
  ports : s.portsAfter u .a [.lane] [.lane]
  granted : ∀ arm, grantShown s u arm (slots.get arm)
  early : earlyElsewhere s u
  decision : decisionShown s u [(.a, slots.a), (.b, slots.b)]

/-- R59, R88, R104, R110–R112, R117: a decision that grants both heads. -/
theorem exec_surveyGrantPhase_bothGrant {s : State} {t : ZoneTable} {slots : Pair Slot} {trs : Pair Traverse}
    (due : s.decisionDue t) (both : ∀ arm, (s.findings t).get arm = .grantable (slots.get arm) (trs.get arm))
    (apart : s.contest t trs.a trs.b = false) : ∃ u, exec (.surveyGrantPhase []) s = .next u ∧ s.BothGrant u t slots trs := by
  obtain ⟨-, wf, records, -, -, -, ok⟩ := id due
  have settled := State.settles_of_noContest both apart
  have foundA : (s.findings t).get .a = .grantable slots.a trs.a := both .a
  have foundB : (s.findings t).get .b = .grantable slots.b trs.b := both .b
  obtain ⟨⟨headA, traverseA⟩, clearA⟩ := settled.grantable foundA
  obtain ⟨⟨headB, traverseB⟩, clearB⟩ := settled.grantable foundB
  have disjoint : ∀ i < 1024, t.setHas trs.a.zones i = true → ¬ t.setHas trs.b.zones i = true := fun i hi inA inB => by
    have notB := State.owner_of_clear records clearA hi inA
    have notA := State.owner_of_clear records clearB hi inB
    rw [← Bool.not_eq_true, State.contest_iff records] at apart
    refine apart ⟨i, hi, inA, inB, ?_⟩
    cases owner : (s.cell i).owner with
    | none => rfl
    | some arm => cases arm; exacts [absurd owner notA, absurd owner notB]
  have begun := State.showing_deciding due settled
  have grantA := State.showing_granted due settled foundA
  have midway := begun.grant grantA headA
  have lanes : (s.showing (s.findings t) s.survey).lanes = s.lanes := s.showing_lanes _ _
  have laneB : ((s.showing (s.findings t) s.survey).grant t .a slots.a trs.a).lanes.get .b = s.lanes.get .b :=
    grantA.work.other.trans (congrArg Pair.b lanes)
  have firstA := begun.reports due List.not_mem_nil (Lane.head_waits headA)
  have firstB := midway.reports due (by simp) (Lane.head_waits headB)
  have ends := exec_surveyGrantPhase_settled due settled
  rw [Finding.no_standoff (arm := .a) (by rw [foundA]; rfl), State.updateStandoff_false,
    show (s.findings t).a = _ from foundA, show (s.findings t).b = _ from foundB] at ends
  simp only [State.grantFound] at ends
  generalize (s.showing (s.findings t) s.survey).grant t .a slots.a trs.a = x at *
  have grantB : x.Granted (x.grant t .b slots.b trs.b) t .b slots.b trs.b := by
    refine State.grant_granted midway.canonical midway.records (fun i hi member => ?_) ?_
    · rw [grantA.cell i hi, if_neg fun inA => disjoint i hi inA member, State.showing_cell]
      exact State.owner_of_clear records clearB hi member
    · rw [State.entry, laneB]
      exact State.entry_of_head ok headB
  have decided := midway.grant grantB headB
  generalize x.grant t .b slots.b trs.b = z at *
  have ended := decided.ended { s.survey with standoff := 0 }
  rw [decided.frame.survey] at ends
  generalize (z.setSurvey { s.survey with standoff := 0 }).captureView.endGrantPhase = u at *
  refine ⟨u, ends, ended.frame, (Arm_forall_iff .a).mpr ⟨?_, ?_⟩, fun i hi => ?_, State.portsAfter_of_flags ended.frame.enf ?_ ?_,
    (Arm_forall_iff .a).mpr ⟨?_, ?_⟩, ended.early, ended.decision⟩
  · rw [ended.reported.lanes, grantB.lanes, grantA.lanes, lanes]
    exact Lane.granted_eq traverseA
  · rw [ended.reported.lanes, grantB.lanes, laneB]
    exact Lane.granted_eq traverseB
  · rw [ended.reported.cell, grantB.cell i hi, grantA.cell i hi, State.showing_cell]
    by_cases inA : t.setHas trs.a.zones i = true
    · simp [inA, disjoint i hi inA]
    · simp [inA]
  · rw [ended.reported.ports, grantB.ports, grantA.ports, State.showing_ports, flagBits_singleton]
    rfl
  · rw [ended.reported.ports, grantB.ports, grantA.ports, State.showing_ports, flagBits_singleton]
    rfl
  · refine grantShown_of_words (grantA.grantShown firstA (by rw [begun.frame.survey])) fun i hi => ?_
    exact (ended.reported.slotWord .a slots.a i).trans (grantB.work.word_other (by simp) hi)
  · exact grantShown_of_words (grantB.grantShown firstB (by rw [midway.frame.survey])) fun i _ =>
      ended.reported.slotWord .b slots.b i

end Sys2Proof.Machine

/-- Settles O43: a contest leaves one grantable head, the favoured arm's; without one both are granted. -/
theorem contestIsSettledByPriority : Obligations.ContestIsSettledByPriority := by
  intro s t slots trs due heads
  dsimp only
  have both : ∀ arm, (s.findings t).get arm = .grantable (slots.get arm) (trs.get arm) := fun arm => by
    obtain ⟨⟨head, traverse⟩, clear⟩ := heads arm
    rw [State.findings_get, State.find_grantable]
    exact ⟨head, traverse, clear⟩
  obtain ⟨-, -, records, -⟩ := id due
  rw [← State.contest_iff records t trs.a trs.b]
  cases contest : s.contest t trs.a trs.b with
  | true =>
    have settled := State.settles_of_contest both contest
    generalize hw : s.survey.favouredNow = win at settled
    have lost : ((s.findings t).modify win.other Finding.lose).get win.other = .blocked (slots.get win.other) .contest none := by
      rw [Pair_get_modify_same, both]
      rfl
    have own : ((s.findings t).modify win.other Finding.lose).get win = .grantable (slots.get win) (trs.get win) := by
      rw [Pair_get_modify_of_ne _ _ _ _ (Side_ne_other win), both]
    obtain ⟨u, ends, grant⟩ := exec_surveyGrantPhase_loneGrant due settled own (by rw [lost]; rfl)
    refine ⟨u, ends, grant.frame.self, grant.early, fun _ => ?_, fun none => absurd rfl none⟩
    rw [show s.survey.oneShot.getD s.survey.favoured = win from hw]
    exact ⟨grant.lanes, grant.granted, grant.other _ _ _ lost, grant.decision, grant.cell, grant.frame.survey, grant.ports⟩
  | false =>
    obtain ⟨u, ends, grant⟩ := exec_surveyGrantPhase_bothGrant due both contest
    exact ⟨u, ends, grant.frame.self, grant.early, nofun,
      fun _ => ⟨fun arm => ⟨grant.lanes arm, grant.granted arm⟩, grant.decision, grant.cell, grant.frame.survey, grant.ports⟩⟩
end

section
/-! SUPPORT. R89, R116–R118: a standoff that lasts, and the yield that ends it. -/

open Sys2Proof Sys2Proof.Machine

namespace Sys2Proof.Machine

/-! ## A lane that yields (R89) -/

/-- R89: the traverses of a list of slots yield one after another. -/
def State.yieldSlots (s : State) (arm : Arm) (l : List Slot) : State :=
  l.foldl (fun s k => s.endWaiting arm k .yielded) s

section
variable (s : State) (arm : Arm) (l : List Slot)

theorem State.yieldSlots_run : s.LaneRun (s.yieldSlots arm l) arm := .foldl (fun s k => s.endWaiting_work arm k .yielded) l s

theorem State.yieldSlots_claims :
    ((s.yieldSlots arm l).cells, (s.yieldSlots arm l).tallies) = (s.cells, s.tallies) :=
  State.foldl_keeps (fun s => (s.cells, s.tallies)) _ (fun s k => by simp) l s

theorem State.yieldSlots_lane :
    ((s.yieldSlots arm l).lanes.get arm).waitingList = (s.lanes.get arm).waitingList.filter (fun k => !l.contains k) ∧
      ((s.yieldSlots arm l).lanes.get arm).grantedList = (s.lanes.get arm).grantedList ∧
      ((s.yieldSlots arm l).lanes.get arm).next = (s.lanes.get arm).next := by
  induction l generalizing s with
  | nil => simp [State.yieldSlots]
  | cons k l ih =>
    obtain ⟨waiting, granted, next⟩ := ih (s.endWaiting arm k .yielded)
    rw [State.endWaiting_lane] at waiting granted next
    refine ⟨waiting.trans ?_, granted, next⟩
    rw [List.filter_filter]
    refine List.filter_congr fun j _ => ?_
    rw [List.contains_cons, Bool.not_or, Bool.and_comm]
    rfl

variable {s arm l}

/-- R78, R89: a slot of the list is YIELDED and reports so, and any other slot stands. -/
theorem State.yieldSlots_slot (wf : s.memoryOk) (nodup : l.Nodup) {k : Slot} (h : k ∈ l) :
    (s.yieldSlots arm l).entry arm k = ⟨.yielded, (s.entry arm k).traverse⟩ ∧
      s.reports (s.yieldSlots arm l) arm k (some 5) .none 0 := by
  obtain ⟨x, found, left⟩ := State.slotRun (f := fun s k => s.endWaiting arm k .yielded)
    (fun s k => s.endWaiting_work arm k .yielded) nodup h s
  obtain ⟨shown, -⟩ := State.endWaiting_words (arm := arm) (k := k) (found.canonical wf) .yielded
  refine ⟨left.entry.trans ?_, State.reports_of_slotSame found shown left⟩
  rw [← found.entry, State.entry, State.endWaiting_lane, Vector_get_set_slot, if_pos rfl]
  rfl

theorem State.yieldSlots_slotSame {k : Slot} (h : k ∉ l) : s.SlotSame (s.yieldSlots arm l) arm k :=
  .foldl (fun s k => s.endWaiting_work arm k .yielded) h s

theorem State.yieldSlots_word (wf : s.memoryOk) {a : Nat} (out : ∀ k ∈ l, a ∉ offsets (slotBase arm k + 10) 2) :
    (s.yieldSlots arm l).word a = s.word a := by
  refine State.foldl_word (fun s k => s.endWaiting_work arm k .yielded) (fun s k wf b hb => ?_) wf out
  obtain ⟨-, kept⟩ := State.endWaiting_words (arm := arm) (k := k) wf .yielded
  rw [mem_offsets_two] at hb
  exact kept b (by simpa using hb)

/-- R78: a traverse that yields sets LANE. -/
theorem State.yieldSlots_ports {k : Slot} (waits : (s.entry arm k).state = .waiting) :
    (s.yieldSlots arm (k :: l)).ports = s.ports.modify arm (fun r => r.raised .lane) := by
  have first := State.endWaiting_ports (s := s) (arm := arm) (k := k) (st := .yielded) (by rw [waits]; nofun)
  have run := (s.endWaiting arm k .yielded).yieldSlots_run arm l
  change ((s.endWaiting arm k .yielded).yieldSlots arm l).ports = _
  obtain same | raised := run.ports
  · rw [same, first]
  · rw [raised, first, Pair_raised_raised]

end

theorem Lane.afterYield_eq (l : Lane) : l.afterYield = { l with next := l.afterYield.next } := by
  unfold Lane.afterYield
  split <;> rfl

/-- What a yield of an arm's lane leaves. -/
structure State.Yielded (y z : State) (arm : Arm) : Prop where
  run : y.LaneRun z arm
  claims : (z.cells, z.tallies) = (y.cells, y.tallies)
  waiting : (z.lanes.get arm).waitingList = []
  granted : (z.lanes.get arm).grantedList = (y.lanes.get arm).grantedList
  next : ∀ k, (y.lanes.get arm).waitingList.getLast? = some k → ∀ n, (y.lanes.get arm).numberOf k = some n →
    (z.lanes.get arm).next = some (n + 1)
  slots : ∀ k : Slot, (z.lanes.get arm).slots.get k =
    if k ∈ (y.lanes.get arm).waitingList then ⟨.yielded, ((y.lanes.get arm).slots.get k).traverse⟩
    else (y.lanes.get arm).slots.get k
  ports : z.ports = y.ports.modify arm (fun r => r.raised .lane)
  shown : ∀ k ∈ (y.lanes.get arm).waitingList, y.reports z arm k (some 5) .none 0
  words : ∀ a, (∀ k ∈ (y.lanes.get arm).waitingList, a ∉ offsets (slotBase arm k + 10) 2) → z.word a = y.word a

/-- R89: a lane with a waiting traverse yields. -/
theorem State.yieldLane_yielded {y : State} {arm : Arm} (wf : y.memoryOk) (ok : (y.lanes.get arm).Ok)
    (waits : (y.lanes.get arm).waitingList ≠ []) : y.Yielded (y.yieldLane arm) arm := by
  obtain ⟨states, -, nodup, -⟩ := ok
  generalize hx : y.modLane arm Lane.afterYield = x
  have yields : y.yieldLane arm = x.yieldSlots arm (y.lanes.get arm).waitingList := by
    rw [← hx]
    rfl
  have begun : y.LaneRun x arm := by
    rw [← hx]
    exact ⟨rfl, by simp, .inl rfl, fun _ _ => rfl, id⟩
  have lane : x.lanes.get arm = { (y.lanes.get arm) with next := (y.lanes.get arm).afterYield.next } := by
    rw [← hx, ← Lane.afterYield_eq, State.modLane_lanes, Pair_get_modify_same]
  have entry : ∀ k, x.entry arm k = y.entry arm k := fun k => by rw [State.entry, lane]; rfl
  have claims : (x.cells, x.tallies) = (y.cells, y.tallies) := by rw [← hx]; rfl
  have ports : x.ports = y.ports := by rw [← hx]; rfl
  have word : ∀ a, x.word a = y.word a := fun a => by rw [← hx]; rfl
  have wf' : x.memoryOk := begun.canonical wf
  obtain ⟨left, granted, next⟩ := x.yieldSlots_lane arm (y.lanes.get arm).waitingList
  rw [lane] at left granted next
  rw [yields]
  refine ⟨begun.trans (x.yieldSlots_run arm _), (x.yieldSlots_claims arm _).trans claims, left.trans ?_, granted,
    fun k last n number => next.trans ?_, fun k => ?_, ?_, fun k hk => ?_, fun a out => ?_⟩
  · simp
  · simp [Lane.afterYield, last, number]
  · by_cases hk : k ∈ (y.lanes.get arm).waitingList
    · rw [if_pos hk]
      exact (State.yieldSlots_slot wf' nodup hk).1.trans (by rw [entry]; rfl)
    · rw [if_neg hk]
      exact (State.yieldSlots_slotSame hk).entry.trans (entry k)
  · obtain ⟨k, l, list⟩ := List.exists_cons_of_ne_nil waits
    rw [list, State.yieldSlots_ports (by rw [entry]; exact (states k).mp (by simp [list])), ports]
  · exact State.reports_of_words (State.yieldSlots_slot wf' nodup hk).2 (word _) fun _ _ => rfl
  · exact (State.yieldSlots_word wf' out).trans (word a)

/-! ## The yield that ends a standoff (R118) -/

/-- A decision that changes no cell. -/
theorem State.PhaseFrame.unclaimed {s z : State} {v : Survey} (h : s.PhaseFrame z v)
    (claims : (z.cells, z.tallies) = (s.cells, s.tallies)) :
    z = { s with
      survey := z.survey, waiting := (s.dropRequest .grantPhase).waiting, mem := z.mem, ports := z.ports, lanes := z.lanes } := by
  obtain ⟨cells, tallies⟩ := Prod.mk.inj claims
  have self := h.self
  unfold State.PhaseFrame at self
  rwa [cells, tallies] at self

/-- What a decision that ends in a yield of the arm's lane leaves at the end of the phase. -/
structure State.YieldEnds (s u : State) (fs : Pair Finding) (loser : Arm) : Prop where
  frame : u = { s with
    survey := u.survey, waiting := (s.dropRequest .grantPhase).waiting, mem := u.mem, ports := u.ports, lanes := u.lanes }
  survey : u.survey = { (s.survey.decided loser) with count := s.survey.count + 1, standoff := 0 }
  ports : s.portsAfter u loser [.lane, .standoff] [.standoff]
  decision : decisionShown s u []
  keeper : u.lanes.get loser.other = s.lanes.get loser.other
  blocked : ∀ k b z, fs.get loser.other = .blocked k b z → s.reports u loser.other k none b (blockerZoneWord z)
  early : ∀ k ∈ (s.lanes.get loser.other).waitingList, (s.lanes.get loser.other).head ≠ some k →
    s.reports u loser.other k none .early 0
  waiting : (u.lanes.get loser).waitingList = []
  granted : (u.lanes.get loser).grantedList = (s.lanes.get loser).grantedList
  next : ∀ k, (s.lanes.get loser).waitingList.getLast? = some k → ∀ n, (s.lanes.get loser).numberOf k = some n →
    (u.lanes.get loser).next = some (n + 1)
  slots : ∀ k : Slot, (u.lanes.get loser).slots.get k =
    if k ∈ (s.lanes.get loser).waitingList then ⟨.yielded, ((s.lanes.get loser).slots.get k).traverse⟩
    else (s.lanes.get loser).slots.get k
  shown : ∀ k ∈ (s.lanes.get loser).waitingList, s.reports u loser k (some 5) .none 0

/-- R89, R104, R112, R116–R118: a decision without a grant whose standoff has reached SC. -/
theorem exec_surveyGrantPhase_yield {s : State} {t : ZoneTable} (due : s.decisionDue t)
    (held : ∀ arm, ((s.findings t).get arm).isGrantable = false) (standoff : ∀ arm, ((s.findings t).get arm).onOtherArm = true)
    (reached : t.sc.toNat ≤ s.survey.standoff + 1) (waits : (s.lanes.get s.survey.favouredNow.other).waitingList ≠ []) :
    ∃ u, exec (.surveyGrantPhase []) s = .next u ∧ s.YieldEnds u (s.findings t) s.survey.favouredNow.other := by
  obtain ⟨-, wf, -, -, -, -, ok⟩ := id due
  have settled := State.settles_of_held (held .a)
  have begun := State.showing_deciding due settled
  have reports := fun {arm : Arm} {k : Slot} => s.showing_reports (arm := arm) (k := k) (s.findings t) s.survey wf ok
  have blocked := fun {arm : Arm} {k : Slot} {b : Blocker} {z : Option Nat} =>
    State.showing_blocked settled wf ok (arm := arm) (k := k) (b := b) (z := z)
  have lanes := s.showing_lanes (s.findings t) s.survey
  have cells := s.showing_cells (s.findings t) s.survey
  have tallies := s.showing_tallies (s.findings t) s.survey
  have ports := s.showing_ports (s.findings t) s.survey
  have ends := exec_surveyGrantPhase_settled due settled
  have both : ((s.findings t).a.onOtherArm && (s.findings t).b.onOtherArm) = true := by
    rw [show (s.findings t).a.onOtherArm = true from standoff .a, show (s.findings t).b.onOtherArm = true from standoff .b]
    rfl
  rw [State.grantFound_none held, both, State.updateStandoff_reached (by rw [begun.frame.survey]; exact reached)] at ends
  generalize s.showing (s.findings t) s.survey = y at *
  generalize hl : s.survey.favouredNow.other = loser at *
  have yielded : y.Yielded (y.yieldLane loser) loser := by
    refine State.yieldLane_yielded begun.canonical ?_ (by rw [lanes]; exact waits)
    rw [lanes]
    cases loser; exacts [ok.1, ok.2]
  have yields : y.yield = ((y.yieldLane loser).raiseBoth .standoff).setSurvey { (s.survey.decided loser) with standoff := 0 } := by
    rw [State.yield, begun.frame.survey, hl]
    dsimp only
    rw [State.raiseBoth_survey, yielded.run.frame.survey, begun.frame.survey]
  rw [yields] at ends
  generalize y.yieldLane loser = z at *
  have phase : s.PhaseFrame (z.raiseBoth .standoff) s.survey :=
    (begun.frame.laneWork yielded.run.frame).laneWork rfl
  have ended := State.reported (s := (z.raiseBoth .standoff).setSurvey { (s.survey.decided loser) with standoff := 0 })
    (yielded.run.canonical begun.canonical) ((congrArg (fun c => c.1.length) yielded.claims).trans begun.records)
  generalize (((z.raiseBoth .standoff).setSurvey { (s.survey.decided loser) with standoff := 0 }).captureView).endGrantPhase = u at *
  have frame := phase.reported ended
  have ulanes : u.lanes = z.lanes := ended.lanes
  have keeper : ∀ k, ∀ i < 16, u.word (slotBase loser.other k + i) = y.word (slotBase loser.other k + i) := fun k i hi =>
    (ended.slotWord loser.other k i).trans ((yielded.run.slotSame (Side_other_ne loser) k).words i hi)
  refine ⟨u, ends, frame.unclaimed ?_, frame.survey, State.portsAfter_of_flags frame.enf ?_ ?_, ?_, ?_, fun k b z found => ?_,
    fun k hk ne => ?_, ?_, ?_, ?_, ?_, fun k hk => ?_⟩
  · rw [ended.cells, ended.tallies, ← cells, ← tallies]
    exact yielded.claims
  · rw [ended.ports, State.raiseBoth_port, yielded.ports, ports, Pair_get_modify_same, PortRegs.raised_eq, PortRegs.raised_eq,
      BitVec.or_assoc, ← flagBits_append]
    rfl
  · rw [ended.ports, State.raiseBoth_port, yielded.ports, ports, Pair_get_modify_other, PortRegs.raised_eq]
  · refine ended.decisionShown (granted := []) fun a slots _ => ?_
    exact (yielded.words a (by rw [lanes]; exact slots loser)).trans (begun.words a slots nofun)
  · rw [ulanes, yielded.run.other, lanes]
  · exact State.reports_of_words (blocked found) rfl (keeper k)
  · exact State.reports_of_words (begun.early loser.other k hk ne) rfl (keeper k)
  · rw [ulanes, yielded.waiting]
  · rw [ulanes, yielded.granted, lanes]
  · rw [ulanes, ← lanes]
    exact yielded.next
  · rw [ulanes, ← lanes]
    exact yielded.slots
  · exact ended.reports (State.reports_over (reports hk) (yielded.shown k (by rw [lanes]; exact hk)))

end Sys2Proof.Machine

/-- Settles O44: below SC a standoff is a decision without a grant that counts; at SC the unfavoured lane yields. -/
theorem standoffEndsInAYield : Obligations.StandoffEndsInAYield := by
  intro s t slots trs zs due heads
  dsimp only
  have found : ∀ arm, (s.findings t).get arm = .blocked (slots.get arm) .otherArm (some (zs.get arm)) := fun arm => by
    obtain ⟨⟨head, traverse⟩, blocker⟩ := heads arm
    have back : s.heldBack t arm (some (slots.get arm, .otherArm, some (zs.get arm))) := ⟨trs.get arm, traverse, head, blocker⟩
    rw [State.findings_get, State.find_of_heldBack back]
    rfl
  have held : ∀ arm, ((s.findings t).get arm).isGrantable = false := fun arm => by rw [found]; rfl
  have standoff : ∀ arm, ((s.findings t).get arm).onOtherArm = true := fun arm => by rw [found]; rfl
  by_cases reached : t.sc.toNat ≤ s.survey.standoff + 1
  · have waits : ∀ arm, (s.lanes.get arm).waitingList ≠ [] := fun arm =>
      List.ne_nil_of_mem (Lane.head_waits (heads arm).1.1)
    obtain ⟨u, ends, yields⟩ := exec_surveyGrantPhase_yield due held standoff reached (waits _)
    refine ⟨u, ends, yields.frame, yields.decision, fun below => absurd below (Nat.not_lt.mpr reached), fun _ => ?_⟩
    exact ⟨yields.blocked _ _ _ (found _), yields.early, yields.survey, yields.ports, yields.keeper, yields.waiting, yields.granted,
      yields.next, yields.slots, yields.shown⟩
  · have below := Nat.lt_of_not_le reached
    obtain ⟨u, ends, shown⟩ := exec_surveyGrantPhase_noGrant (n := s.survey.standoff + 1) due held fun y survey => by
      rw [show (s.findings t).a.onOtherArm = true from standoff .a, show (s.findings t).b.onOtherArm = true from standoff .b,
        Bool.and_self, State.updateStandoff_below (by rw [survey]; exact below), survey]
    have lanes : u.lanes = s.lanes := by rw [shown.frame]
    have ports : u.ports = s.ports := by rw [shown.frame]
    have survey : u.survey = { s.survey with count := s.survey.count + 1, standoff := s.survey.standoff + 1 } := by
      rw [shown.frame]
    refine ⟨u, ends, ?_, shown.decision, fun _ => ⟨lanes, ports, shown.early, survey, fun arm => shown.blocked _ _ _ _ (found arm)⟩,
      fun h => absurd h reached⟩
    rw [survey, ports, lanes]
    exact shown.frame
end

section
/-! SUPPORT. R123–R125, R129, R134, R135, R186: the cause sets of both arms in agreement with the feeds, the seated marks and the
active table, and the guard report with the conditions: the agreement, what it reads, and each change of a cause set. -/

namespace Sys2Proof.Machine

/-! ## The agreement and what it reads -/

/-- R123, R124, R129, R134: one arm's enforcement record agrees with the state of its feed and with whether a table is active.
`seating`: an evaluation under way has seated the arm, and takes UNSEATED out when its stages are complete (R126). -/
structure Enforcement.Agrees (e : Enforcement) (feed : FeedState) (noTable seating : Bool) : Prop where
  feed : e.pause.feed = decide (feed ≠ .steady)
  unseated : (e.pause.unseated && !seating) = !e.seated
  stopped : e.pause.stopped = (e.stop.trespass || e.stop.feedLoss || e.stop.seatConflict)
  shortfall : (e.pause.shortfall && e.pause.starved) = false
  pauseTable : e.pause.noTable = noTable
  stopTable : e.stop.noTable = noTable

/-- Both arms agree, the arm under evaluation as `seating` says, and both ports' guard reports are in order. -/
structure State.CausesAgree (s : State) (seating : Option Arm) : Prop where
  arms : ∀ arm, (s.enf.get arm).Agrees (s.feeds.get arm).state s.active.isNone (decide (seating = some arm))
  reports : ∀ p, s.guardReportOk p

theorem State.causesOk_iff (s : State) (arm : Arm) :
    s.causesOk arm ↔ (s.enf.get arm).Agrees (s.feeds.get arm).state s.active.isNone false := by
  have eq_of_iff : ∀ {x : Bool} {p : Prop} [Decidable p], (x = true ↔ p) ↔ x = decide p := fun {x p} => by
    cases x <;> simp
  have isNone : s.active.isNone = decide (s.active = none) := by cases s.active <;> rfl
  constructor
  · rintro ⟨feed, unseated, stopped, kinds, pauseTable, stopTable⟩
    refine ⟨eq_of_iff.mp feed, ?_, ?_, by simpa using kinds, isNone ▸ eq_of_iff.mp pauseTable,
      isNone ▸ eq_of_iff.mp stopTable⟩
    · simpa using (eq_of_iff.mp unseated)
    · rw [eq_of_iff.mp stopped]
      simp [Bool.or_assoc]
  · rintro ⟨feed, unseated, stopped, kinds, pauseTable, stopTable⟩
    refine ⟨eq_of_iff.mpr feed, ?_, by simp [stopped, or_assoc], by simpa using kinds, by simp [pauseTable], by simp [stopTable]⟩
    simp only [Bool.not_false, Bool.and_true] at unseated
    simp [unseated]

theorem State.causesAgree_iff (s : State) :
    s.CausesAgree none ↔ bothSides s.causesOk ∧ bothSides s.guardReportOk := by
  have both : ∀ P : Side → Prop, (∀ x, P x) ↔ bothSides P := fun P =>
    ⟨fun h => ⟨h .a, h .b⟩, fun h x => by cases x; exacts [h.1, h.2]⟩
  rw [← both, ← both]
  simp only [State.causesOk_iff]
  exact ⟨fun h => ⟨h.arms, h.reports⟩, fun h => ⟨h.1, h.2⟩⟩

/-- What the agreement reads of one side. -/
def State.causeView (s : State) (x : Side) : (PauseSet × StopSet × Bool) × FeedState × Option ZoneTable × GuardStage × Word :=
  (((s.enf.get x).pause, (s.enf.get x).stop, (s.enf.get x).seated), (s.feeds.get x).state, s.active, (s.ports.get x).stage,
    (s.ports.get x).history)

/-- Work that leaves what the agreement reads. -/
def State.CausesSame (s t : State) : Prop := ∀ x, t.causeView x = s.causeView x

/-- Work that keeps the agreement. -/
def State.CausesKept (s t : State) : Prop := ∀ seating, s.CausesAgree seating → t.CausesAgree seating

theorem State.CausesSame.refl (s : State) : s.CausesSame s := fun _ => rfl

theorem State.CausesSame.trans {s t u : State} (h : s.CausesSame t) (k : t.CausesSame u) : s.CausesSame u := fun x =>
  (k x).trans (h x)

theorem State.CausesKept.refl (s : State) : s.CausesKept s := fun _ => id

theorem State.CausesKept.trans {s t u : State} (h : s.CausesKept t) (k : t.CausesKept u) : s.CausesKept u := fun w ok =>
  k w (h w ok)

theorem State.CausesKept.foldl {α : Type} (g : State → α → State) (h : ∀ (s : State) (x : α), s.CausesKept (g s x))
    (l : List α) (s : State) : s.CausesKept (l.foldl g s) := by
  induction l generalizing s with
  | nil => exact .refl s
  | cons x l ih => exact (h s x).trans (ih _)

theorem State.CausesSame.foldl {α : Type} (g : State → α → State) (h : ∀ (s : State) (x : α), s.CausesSame (g s x))
    (l : List α) (s : State) : s.CausesSame (l.foldl g s) := by
  induction l generalizing s with
  | nil => exact .refl s
  | cons x l ih => exact (h s x).trans (ih _)

/-- R186: the conditions are those of the cause sets. -/
theorem State.guardConditions_of_sets {s t : State} (pause : ∀ x, (t.enf.get x).pause = (s.enf.get x).pause)
    (stop : ∀ x, (t.enf.get x).stop = (s.enf.get x).stop) : t.guardConditions = s.guardConditions := by
  simp only [State.guardConditions_eq, State.stopLine, State.pauseLine, pause, stop]

theorem State.CausesSame.kept {s t : State} (h : s.CausesSame t) : s.CausesKept t := by
  simp only [State.CausesSame, State.causeView, Prod.mk.injEq] at h
  intro seating ⟨arms, reports⟩
  have conditions := State.guardConditions_of_sets (fun x => (h x).1.1) (fun x => (h x).1.2.1)
  refine ⟨fun x => ?_, fun p => ?_⟩
  · obtain ⟨⟨pause, stop, seated⟩, feed, active, -, -⟩ := h x
    obtain ⟨f, u, st, sh, pt, sn⟩ := arms x
    constructor <;> simp only [pause, stop, seated, feed, active] <;> assumption
  · obtain ⟨-, -, -, stage, history⟩ := h p
    rw [State.guardReportOk, stage, history, conditions]
    exact reports p

/-! ## Changes that the agreement does not see -/

/-- Work that leaves the enforcement records, the feeds, the active table and the ports' registers. -/
theorem State.CausesSame.of_frame {s t : State} (h : (t.enf, t.feeds, t.active, t.ports) = (s.enf, s.feeds, s.active, s.ports)) :
    s.CausesSame t := fun x => by
  simp only [Prod.mk.injEq] at h
  obtain ⟨enf, feeds, active, ports⟩ := h
  simp only [State.causeView, enf, feeds, active, ports]

/-- A flag is no part of the guard report. -/
theorem State.raise_causesSame (s : State) (f : Flag) (p : Port) : s.CausesSame (s.raise f p) :=
  fun q => by cases p <;> cases q <;> rfl

theorem State.raiseBoth_causesSame (s : State) (f : Flag) : s.CausesSame (s.raiseBoth f) :=
  (s.raise_causesSame f .a).trans (State.raise_causesSame _ f .b)

theorem State.raiseIf_causesSame (s : State) (b : Bool) (f : Flag) (p : Port) : s.CausesSame (s.raiseIf b f p) := by
  cases b
  · exact .refl s
  · exact s.raise_causesSame f p

/-- A change of one feed's record that leaves the feed's state. -/
theorem State.modFeed_causesSame (s : State) (arm : Arm) {g : Feed → Feed}
    (state : ∀ f, (g f).state = f.state := by intro f; rfl) : s.CausesSame (s.modFeed arm g) := fun x => by
  have kept : ((s.modFeed arm g).feeds.get x).state = (s.feeds.get x).state := by
    obtain rfl | rfl := Arm_eq_or_eq_other x arm <;> simp [state]
  exact congrArg (fun f => (((s.enf.get x).pause, (s.enf.get x).stop, (s.enf.get x).seated), f, s.active,
    (s.ports.get x).stage, (s.ports.get x).history)) kept

/-- A change of one arm's enforcement record that leaves the sets and the seated mark. -/
theorem State.modEnf_causesSame (s : State) (arm : Arm) {g : Enforcement → Enforcement}
    (sets : ∀ e, ((g e).pause, (g e).stop, (g e).seated) = (e.pause, e.stop, e.seated) := by intro e; rfl) :
    s.CausesSame (s.modEnf arm g) := fun x => by
  have kept : (((s.modEnf arm g).enf.get x).pause, ((s.modEnf arm g).enf.get x).stop, ((s.modEnf arm g).enf.get x).seated) =
      ((s.enf.get x).pause, (s.enf.get x).stop, (s.enf.get x).seated) := by
    obtain rfl | rfl := Arm_eq_or_eq_other x arm
    · rw [State.modEnf_enf, Pair_get_modify_same]
      exact sets _
    · rw [State.modEnf_enf, Pair_get_modify_other]
  exact congrArg (fun e => (e, (s.feeds.get x).state, s.active, (s.ports.get x).stage, (s.ports.get x).history)) kept

/-- Work on one slot of a lane. -/
theorem State.SlotWork.causesSame {s u : State} {arm : Arm} {k : Slot} (h : s.SlotWork u arm k) : s.CausesSame u := by
  have frame := h.frame
  unfold State.LaneWork at frame
  have ports : s.CausesSame (s.setPorts u.ports) := by
    obtain same | raised := h.ports
    · rw [same]
      exact .refl s
    · rw [raised]
      exact s.raise_causesSame .lane arm
  intro x
  rw [frame]
  exact ports x

theorem State.yieldLane_causesSame (s : State) (arm : Arm) : s.CausesSame (s.yieldLane arm) := by
  have numbered : s.CausesSame (s.modLane arm Lane.afterYield) := .refl s
  exact numbered.trans (.foldl _ (fun s k => (s.endWaiting_work arm k .yielded).causesSame) _ _)

theorem State.grant_causesSame (s : State) (t : ZoneTable) (arm : Arm) (k : Slot) (tr : Traverse) :
    s.CausesSame (s.grant t arm k tr) := by
  unfold State.grant
  split
  · have claimed : ∀ g, s.CausesSame ((s.claim arm (t.setHas tr.zones)).modLane arm g) := fun _ => .refl s
    exact ((claimed _).trans (State.writeSlotState_work _ arm k .granted).causesSame).trans
      ((State.writeBlocker_work _ arm k .none none).trans
        (State.writeWord_work _ arm k (j := 13) (by omega) (by omega) _)).causesSame
  · exact .refl s

theorem State.plockWrite_causesSame (s : State) (p : Port) (v : Word) : s.CausesSame (s.plockWrite p v) := by
  have handed : ∀ (x : State) (q : Option Port), x.CausesSame (x.flagHandover q) := fun x q => by
    cases q
    · exact .refl x
    · exact x.raise_causesSame _ _
  have put : ∀ l, s.CausesSame (s.putLock l) := fun _ => .refl s
  unfold State.plockWrite
  (repeat' split)
  · exact .refl s
  · exact (put _).trans (handed _ _)
  · exact put _
  · exact .refl s

theorem State.portWrite_causesSame (s : State) (p : Port) (a : Nat) (v : Word) : s.CausesSame (s.portWrite p a v) := by
  unfold State.portWrite
  (repeat' split)
  · exact .refl s
  · exact .refl s
  · exact s.raise_causesSame .misuse p

/-- Every part but the causes: no part of an enforcement record, and no swap. -/
abbrev NoCauses (p : Part) : Prop := (∀ arm, p ≠ .enf arm) ∧ p ≠ .swap

/-- An effect that leaves the enforcement records leaves all that the agreement reads. -/
theorem Effect.causesSame {s t : State} (e : Effect NoCauses s t) : s.CausesSame t := by
  cases e with
  | raise f p => exact s.raise_causesSame f p
  | portWrite p a v => exact s.portWrite_causesSame p a v
  | plockWrite p v => exact s.plockWrite_causesSame p v
  | feedMod arm g _ state => exact s.modFeed_causesSame arm state
  | remaining arm k n => exact (s.writeRemaining_work arm k n).causesSame
  | endGranted arm k => exact (s.endGranted_work arm k).causesSame
  | endWaiting arm k => exact (s.endWaiting_work arm k .withdrawn).causesSame
  | acceptPost arm k q tag => exact (s.acceptPost_work arm k q tag).causesSame
  | yieldLane arm => exact s.yieldLane_causesSame arm
  | grant t arm k tr => exact s.grant_causesSame t arm k tr
  | install i =>
    have written : s.CausesSame ((s.setInstall i).writeInstallRecord) := .refl s
    exact written.trans (State.raiseBoth_causesSame _ _)
  | changeFeed arm _ _ h => exact absurd rfl (h.1 arm)
  | feedLoss arm h => exact absurd rfl (h.1 arm)
  | order arm h => exact absurd rfl (h.1 arm)
  | flush arm h => exact absurd rfl (h.1 arm)
  | runCounter arm _ h => exact absurd rfl (h.1 arm)
  | seat arm h => exact absurd rfl (h.1 arm)
  | gathered arm _ h => exact absurd rfl (h.1 arm)
  | clearStop arm h => exact absurd rfl (h.1 arm)
  | swap _ h => exact absurd rfl h.2
  | _ => exact .of_frame (by simp)

theorem Effects.causesKept {s t : State} (e : Effects NoCauses s t) : s.CausesKept t := fun w ok =>
  Effects.keeps (P := fun s => s.CausesAgree w) (fun _ _ e => e.causesSame.kept w) e ok

end Sys2Proof.Machine
end

section
/-! SUPPORT. R26–R39, R125, R136, R154–R158, R172: what an event that arrives within a service can do, said once and more closely
than by the parts of the guard: an event is a sequence of the steps below, so what each of them keeps every arrival keeps. -/

namespace Sys2Proof.Machine

/-- One step of an event that arrives. -/
inductive ArrivalStep : State → State → Prop
  | portWrite (s : State) (p : Port) (a : Nat) (v : Word) : ArrivalStep s (s.portWrite p a v)
  | plockWrite (s : State) (p : Port) (v : Word) : ArrivalStep s (s.plockWrite p v)
  | waiting (s : State) (w : List (List Request)) : ArrivalStep s (s.setWaiting w)
  | modFeed (s : State) (arm : Arm) (g : Feed → Feed) (state : ∀ f, (g f).state = f.state := by intro f; rfl) :
      ArrivalStep s (s.modFeed arm g)
  | changeFeed (s : State) (arm : Arm) (new : FeedState) : ArrivalStep s (s.changeFeed arm new)
  | addFeedLoss (s : State) (arm : Arm) : ArrivalStep s (s.addFeedLoss arm)
  | orderSnapshot (s : State) (arm : Arm) : ArrivalStep s (s.orderSnapshot arm)
  | acquires (s : State) (arm : Arm) : ArrivalStep s (s.modReach arm (fun r => { r with firstMark := true }))

/-- The steps of events, one after another. -/
abbrev State.Arrives : State → State → Prop := Relation.ReflTransGen ArrivalStep

/-- What every step of an event keeps, from state to state. -/
theorem State.Arrives.rel {R : State → State → Prop} (refl : ∀ s, R s s) (trans : ∀ {s t u}, R s t → R t u → R s u)
    (step : ∀ {s u}, ArrivalStep s u → R s u) {s u : State} (h : s.Arrives u) : R s u := by
  induction h with
  | refl => exact refl s
  | tail _ x ih => exact trans ih (step x)

section
variable (s : State) (arm : Arm)

/-! ## Feed events -/

theorem State.enterLost_arrives (m : ArmFields) : s.Arrives (s.enterLost arm m) := by
  have lost : s.Arrives (((s.modFeed arm (fun f => { f with missTimer := none, goodRun := 0 })).changeFeed arm
      .lost).orderSnapshot arm) :=
    .tail (.tail (.single (.modFeed s arm _)) (.changeFeed _ arm .lost)) (.orderSnapshot _ arm)
  unfold State.enterLost
  dsimp only
  split
  · exact .tail lost (.addFeedLoss _ arm)
  · exact .tail lost (.modFeed _ arm _)

theorem State.fault_arrives (m : ArmFields) : s.Arrives (s.fault arm m) := by
  unfold State.fault
  split
  · exact .refl
  · exact .single (.modFeed s arm _)
  · dsimp only
    split
    · exact .trans (.single (.modFeed s arm _)) (State.enterLost_arrives _ arm m)
    · exact .single (.modFeed s arm _)
  · exact .refl

theorem State.goodRunStep_arrives (m : ArmFields) : s.Arrives (s.goodRunStep arm m) := by
  have begun : s.Arrives (((s.modFeed arm (fun f => { f with goodRun := 1, faultRun := 0 })).changeFeed arm
      .acquiring).modReach arm (fun r => { r with firstMark := true })) :=
    .tail (.tail (.single (.modFeed s arm _)) (.changeFeed _ arm .acquiring)) (.acquires _ arm)
  unfold State.goodRunStep
  split
  · exact begun
  · exact begun
  · dsimp only
    split
    · exact .tail (.tail (.single (.modFeed s arm _)) (.modFeed _ arm _)) (.changeFeed _ arm .steady)
    · exact .single (.modFeed s arm _)
  · exact .single (.modFeed s arm _)

theorem State.takeGood_arrives (m : ArmFields) (bs : List Byte) : s.Arrives (s.takeGood arm m bs) := by
  have held : ∀ (x : State) (gap : Option Nat), x.Arrives (x.hold arm bs gap) := fun x gap => by
    rw [State.hold_eq]
    exact .tail (.single (.modFeed x arm (fun f => f.placed bs gap))) (.waiting _ _)
  exact .trans (.trans (.single (.modFeed s arm _)) (State.goodRunStep_arrives _ arm m)) (held _ _)

theorem State.frameComplete_arrives (chars : List LineChar) : s.Arrives (s.frameComplete arm chars) := by
  unfold State.frameComplete
  split
  · exact .refl
  · dsimp only
    split
    · exact .refl
    split
    · exact .trans (.single (.modFeed s arm _)) (State.fault_arrives _ arm _)
    split
    · exact .single (.modFeed s arm _)
    · exact s.takeGood_arrives arm _ _

theorem State.missExpiry_arrives : s.Arrives (s.missExpiry arm) := by
  unfold State.missExpiry
  split
  · exact .trans (.single (.modFeed s arm _)) (State.fault_arrives _ arm _)
  · exact .refl

theorem State.lossGraceExpiry_arrives : s.Arrives (s.lossGraceExpiry arm) := by
  have stopped : s.Arrives (s.modFeed arm (fun f => { f with graceTimer := none })) := .single (.modFeed s arm _)
  unfold State.lossGraceExpiry
  split
  · exact .refl
  · dsimp only
    split
    · exact stopped
    · exact .tail stopped (.addFeedLoss _ arm)

/-! ## Arrivals -/

theorem State.arrive_arrives (e : Event) : s.Arrives (s.arrive e) := by
  cases e with
  | portWrite p addr v => exact .single (.portWrite s p _ v)
  | plockWrite p v => exact .single (.plockWrite s p v)
  | frameComplete arm chars => exact s.frameComplete_arrives arm chars
  | missExpiry arm => exact s.missExpiry_arrives arm
  | lossGraceExpiry arm => exact s.lossGraceExpiry_arrives arm

variable (during : List Arrival)

theorem State.arriveWhen_arrives (p : Nat → Bool) : s.Arrives (s.arriveWhen during p) := by
  unfold State.arriveWhen
  induction during generalizing s with
  | nil => exact .refl
  | cons x l ih =>
    refine .trans ?_ (ih _)
    dsimp only
    split
    · exact s.arrive_arrives x.event
    · exact .refl

theorem State.arriveAt_arrives (k : Nat) : s.Arrives (s.arriveAt during k) := s.arriveWhen_arrives during _

theorem State.arriveBetween_arrives (lo hi : Nat) : s.Arrives (s.arriveBetween during lo hi) := s.arriveWhen_arrives during _

theorem readRun_arrives (n point a : Nat) : s.Arrives (readRun during n point a s).2 := by
  induction n generalizing point a s with
  | zero => exact .refl
  | succ n ih => exact .trans (s.arriveAt_arrives during _) (ih _ _ _)

theorem readRecord_arrives (point base result n : Nat) : s.Arrives (readRecord during point base result n s).after :=
  .trans (.trans (s.arriveAt_arrives during _) (readRun_arrives _ during n _ base)) (State.arriveAt_arrives _ during _)

end

end Sys2Proof.Machine
end

section
/-! SUPPORT. R123–R125, R134–R136, R186: the causes in agreement through each change of a cause set: feed events, the frame
evaluation, CLEAR_STOP and the swap. -/

namespace Sys2Proof.Machine

/-! ## A change of one arm's causes (R125, R186) -/

/-- R186: a change of causes marks every condition that it brings. -/
theorem State.portAfter_reportOk {s u : State} {p : Port} {fs : List Flag} (port : u.ports.get p = s.portAfter u p fs)
    (ok : s.guardReportOk p) : u.guardReportOk p := by
  have marked : ∀ h c : Word, c &&& ~~~(h ||| c) = 0 := fun h c => by
    ext i
    simp
    tauto
  rw [State.guardReportOk, port, State.portAfter]
  by_cases same : u.guardConditions = s.guardConditions
  · simpa only [same, if_true] using ok
  · simp [same, marked]

theorem State.portsAfter_reportsOk {s u : State} {arm : Arm} {own others : List Flag} (ports : s.portsAfter u arm own others)
    (ok : ∀ p, s.guardReportOk p) (p : Port) : u.guardReportOk p := by
  obtain ⟨same, other⟩ := ports
  obtain rfl | rfl := Arm_eq_or_eq_other p arm
  · exact State.portAfter_reportOk same (ok _)
  · exact State.portAfter_reportOk other (ok _)

section
variable {s u : State} {arm : Arm} {e : Enforcement} {own : List Flag}

/-- A change of one arm's record keeps the agreement when that record agrees afterwards, and the rest is left. -/
theorem State.CausesBecome.agree {w w' : Option Arm} (h : s.CausesBecome u arm e own) (ok : s.CausesAgree w)
    (active : u.active = s.active) (feeds : u.feeds.get arm.other = s.feeds.get arm.other)
    (seating : (w' = some arm.other) = (w = some arm.other))
    (agrees : (s.enf.get arm).Agrees (s.feeds.get arm).state s.active.isNone (decide (w = some arm)) →
      e.Agrees (u.feeds.get arm).state s.active.isNone (decide (w' = some arm))) : u.CausesAgree w' := by
  refine ⟨fun x => ?_, State.portsAfter_reportsOk h.ports ok.reports⟩
  rw [h.enf, active]
  obtain rfl | rfl := Arm_eq_or_eq_other x arm
  · rw [Pair_get_set_same]
    exact agrees (ok.arms _)
  · rw [Pair_get_set_other, feeds]
    simpa only [seating] using ok.arms arm.other

end

section
variable (s : State) (arm : Arm)

/-! ## Feed events (R39, R134–R136) -/

theorem State.changeFeed_causesKept (new : FeedState) : s.CausesKept (s.changeFeed arm new) := by
  intro w ok
  by_cases changes : (s.feeds.get arm).state = new
  · rwa [State.changeFeed, if_pos changes]
  have other : (s.changeFeed arm new).feeds.get arm.other = s.feeds.get arm.other := by simp [State.changeFeed_feeds]
  have state : ((s.changeFeed arm new).feeds.get arm).state = new := by simp [State.changeFeed_feeds]
  by_cases steady : new = .steady
  · subst steady
    refine (State.changeFeed_steady_become changes).agree ok (by simp) other rfl fun ⟨_, u, st, sh, pt, sn⟩ => ?_
    exact ⟨by rw [state]; rfl, u, st, sh, pt, sn⟩
  · refine (State.changeFeed_become changes steady).agree ok (by simp) other rfl fun ⟨_, u, st, sh, pt, sn⟩ => ?_
    exact ⟨by rw [state]; simp [Enforcement.feedHeld, steady], u, st, sh, pt, sn⟩

theorem State.addFeedLoss_causesKept : s.CausesKept (s.addFeedLoss arm) := fun w ok =>
  (s.addFeedLoss_become arm).agree ok (by simp) (by simp) rfl fun ⟨f, u, _, sh, pt, sn⟩ =>
    ⟨by simpa [Enforcement.feedLoss] using f, u, by simp [Enforcement.feedLoss], sh, pt, sn⟩

/-- R134–R136: every step of an event keeps the agreement. -/
theorem ArrivalStep.causesKept {s u : State} (h : ArrivalStep s u) : s.CausesKept u := by
  cases h with
  | portWrite p a v => exact (s.portWrite_causesSame p a v).kept
  | plockWrite p v => exact (s.plockWrite_causesSame p v).kept
  | waiting w => exact State.CausesSame.kept (.refl s)
  | modFeed arm g state => exact (s.modFeed_causesSame arm state).kept
  | changeFeed arm new => exact s.changeFeed_causesKept arm new
  | addFeedLoss arm => exact s.addFeedLoss_causesKept arm
  | orderSnapshot arm => exact (s.modEnf_causesSame arm).kept
  | acquires arm => exact State.CausesSame.kept (.refl s)

theorem State.Arrives.causesKept {s u : State} (h : s.Arrives u) : s.CausesKept u :=
  h.rel .refl .trans ArrivalStep.causesKept

/-! ## The frame evaluation (R126–R133) -/

variable {s arm} (during : List Arrival)

/-- R129: an unseated arm is seated; UNSEATED is to go. -/
theorem State.seat_causesAgree (unseated : (s.enf.get arm).seated = false) (ok : s.CausesAgree none) :
    (s.seat arm).CausesAgree (some arm) := by
  have enf : (s.seat arm).enf = s.enf.modify arm (fun e => { e with seated := true }) := by simp [State.seat, State.seize]
  have sets : ∀ x, ((s.seat arm).enf.get x).pause = (s.enf.get x).pause ∧ ((s.seat arm).enf.get x).stop = (s.enf.get x).stop :=
    fun x => by rw [enf]; cases x <;> cases arm <;> exact ⟨rfl, rfl⟩
  refine ⟨fun x => ?_, fun p => ?_⟩
  · obtain ⟨f, u, st, sh, pt, sn⟩ := ok.arms x
    obtain rfl | rfl := Arm_eq_or_eq_other x arm
    · rw [enf, Pair_get_modify_same]
      exact ⟨f, by simp, st, sh, pt, sn⟩
    · rw [enf, Pair_get_modify_other]
      exact ⟨f, by simpa using u, st, sh, pt, sn⟩
  · rw [State.guardReportOk, State.guardConditions_of_sets (fun x => (sets x).1) fun x => (sets x).2]
    exact ok.reports p

/-- The arm that the stage 2 of an evaluation has seated. -/
def Gathered.seating (g : Gathered) (arm : Arm) : Option Arm := if g.seated then some arm else Option.none

/-- R126: what the stages have gathered makes the agreement whole. -/
theorem State.applyGathered_causesAgree {g : Gathered} (kinds : ∀ k, g.shortfall = some k → ¬ (k.1 = true ∧ k.2 = true))
    (ok : s.CausesAgree (g.seating arm)) : (s.applyGathered arm g).CausesAgree none := by
  have gathered : ∃ p q, s.applyGathered arm g = s.setCauses arm p q := ⟨_, _, rfl⟩
  refine (s.setCauses_become arm _ _).agree ok (by simp) (by simp) ?_ fun ⟨f, u, st, sh, pt, sn⟩ => ?_
  · simp [Gathered.seating]
  · constructor
    case shortfall =>
      cases decided : g.shortfall with
      | none => exact sh
      | some k => simpa using kinds k decided
    case unseated =>
      cases seats : g.seated <;> simp [Gathered.seating, seats] at u ⊢ <;> exact u
    case stopped =>
      simp only [st]
      cases (s.enf.get arm).stop.trespass <;> cases (s.enf.get arm).stop.seatConflict <;> cases g.trespass <;> simp
    case feed => simpa using f
    case pauseTable => exact pt
    case stopTable => exact sn

/-- R126 stages 3–6. -/
theorem State.fullStages_causesKept (s : State) (t : ZoneTable) (arm : Arm) (gap : Option Nat) (marked : Bool) (g : Gathered) :
    s.CausesKept (s.fullStages during t arm gap marked g).1 := by
  have counted : ∀ x : State, x.CausesKept (x.countdown arm gap) := fun x => by
    unfold State.countdown
    split
    · have fell := (x.writeRemaining_work arm ‹_› (countedDown ‹Traverse›.remaining ‹_›)).causesSame
      (repeat' split)
      · exact (fell.trans (State.endGranted_work _ arm _).causesSame).kept
      · exact fell.kept
      · exact .refl x
    · exact .refl x
  have swept : ∀ x : State, x.CausesKept (x.lingerSweep arm) := fun x =>
    State.CausesSame.kept (.refl x)
  unfold State.fullStages
  refine State.CausesKept.trans ?_ (counted _)
  refine State.CausesKept.trans ?_ (State.arriveAt_arrives _ during _).causesKept
  refine State.CausesKept.trans ?_ (State.modEnf_causesSame _ arm).kept
  refine State.CausesKept.trans ?_ (State.arriveAt_arrives _ during _).causesKept
  refine State.CausesKept.trans ?_ (State.arriveAt_arrives _ during _).causesKept
  refine (s.arriveAt_arrives during 3).causesKept.trans ?_
  split
  · exact .refl _
  · exact swept _

/-- R126 stage 2: a seated arm passes, an unseated one is seated. -/
theorem State.seatingStage_causesAgree (arm : Arm) (ok : s.CausesAgree none) :
    (s.seatingStage arm).1.CausesAgree ((s.seatingStage arm).2.seating arm) := by
  unfold State.seatingStage
  split
  · simpa [Gathered.seating, Gathered.none] using ok
  · rename_i unseated
    exact State.seat_causesAgree (by simpa using unseated) ok

/-- R126: the stages of an evaluation. -/
theorem State.evaluationStages_causesAgree (t : ZoneTable) (arm : Arm) (f : HeldFrame) (steady : Bool)
    (ok : s.CausesAgree none) : (s.evaluationStages during t arm f steady).CausesAgree none := by
  have computed : ∀ x : State, x.CausesKept (x.arithmetic t arm f) := fun x =>
    State.CausesSame.kept (.refl x)
  have shown : ∀ x : State, x.CausesKept (x.writeSnapshot arm) := fun x =>
    State.CausesSame.kept (.of_frame (by simp))
  have taken : s.CausesKept (s.takeFrame arm f) :=
    State.CausesSame.kept (s.modFeed_causesSame arm (g := fun d => { d with holding := none }))
  have staged := (((taken.trans (State.arriveAt_arrives _ during 1).causesKept).trans (computed _)).trans
    (State.arriveAt_arrives _ during 2).causesKept) none ok
  unfold State.evaluationStages
  refine shown _ none ((State.arriveAt_arrives _ during 7).causesKept none ?_)
  cases steady with
  | false => exact (State.arriveBetween_arrives _ during 3 7).causesKept none staged
  | true =>
    have seated := State.seatingStage_causesAgree arm staged
    simp only [if_true]
    split
    · refine State.applyGathered_causesAgree (State.fullStages_kinds _ during t _ _ _) ?_
      exact State.fullStages_causesKept during _ t arm _ _ _ _ seated
    · refine State.applyGathered_causesAgree (fun k h => ?_) ((State.arriveBetween_arrives _ during 3 7).causesKept _ seated)
      rw [State.seatingStage_kinds] at h
      cases h

end

end Sys2Proof.Machine
end

section
/-! SUPPORT. R123–R125, R129, R134, R135, R140, R186: the causes in agreement through the grant phase, the survey tick, the
configuration service with its swap, and the resets; and so through every step. -/

namespace Sys2Proof.Machine

section
variable (s : State) (during : List Arrival) (arm : Arm)

/-! ## The grant phase (R80, R106–R118) -/

theorem State.intakeLane_causesKept : s.CausesKept (s.intakeLane during arm) := by
  refine .foldl _ (fun s k => ?_) _ s
  unfold State.visitSlot
  dsimp only
  split
  · exact (readRecord_arrives s during _ _ _ _).causesKept.trans (State.takeCommand_work _ arm k _ _).causesSame.kept
  · exact (readRecord_arrives s during _ _ _ _).causesKept

/-- R106–R118: the decision changes no cause. -/
theorem State.decideGrants_causesSame : s.CausesSame s.decideGrants := by
  have blockers : ∀ (x : State) (y : Arm) (f : Finding), x.CausesSame (x.writeBlockers y f) := fun x y f =>
    .foldl _ (fun x k => (x.writeBlocker_work y k _ _).causesSame) _ x
  have granted : ∀ (x : State) (t : ZoneTable) (y : Arm) (f : Finding), x.CausesSame (x.grantFound t y f) := fun x t y f => by
    cases f with
    | grantable k tr => exact x.grant_causesSame t y k tr
    | _ => exact .refl x
  have flagged : ∀ (x : State) (v : Survey), x.CausesSame ((x.raiseBoth .standoff).setSurvey v) := fun x _ =>
    x.raiseBoth_causesSame .standoff
  have yielded : ∀ x : State, x.CausesSame x.yield := fun x => (x.yieldLane_causesSame _).trans (flagged _ _)
  have stood : ∀ (x : State) (t : ZoneTable) (b : Bool), x.CausesSame (x.updateStandoff t b) := fun x t b => by
    unfold State.updateStandoff
    (repeat' split)
    · exact yielded x
    · exact .refl x
    · exact .refl x
  unfold State.decideGrants
  split
  · exact .refl s
  · refine State.CausesSame.trans ?_ (stood _ _ _)
    refine State.CausesSame.trans ?_ ((granted _ _ .a _).trans (granted _ _ .b _))
    refine State.CausesSame.trans ?_ (blockers _ .b _)
    exact State.CausesSame.trans (t := s.setSurvey _) (.refl s) (blockers _ .a _)

theorem State.grantPhaseBody_causesKept : s.CausesKept (s.grantPhaseBody during) := by
  have shown : ∀ x : State, x.CausesKept x.captureView.endGrantPhase := fun x => State.CausesSame.kept (.of_frame (by simp))
  unfold State.grantPhaseBody
  refine State.CausesKept.trans ?_ (shown _)
  refine State.CausesKept.trans ?_ (State.arriveWhen_arrives _ during _).causesKept
  split
  · exact (s.arriveWhen_arrives during _).causesKept
  · exact (((s.intakeLane_causesKept during .a).trans (State.intakeLane_causesKept _ during .b)).trans
      (State.arriveAt_arrives _ during 320).causesKept).trans (State.decideGrants_causesSame _).kept

/-! ## The survey tick (R102, R159–R162) -/

theorem State.writeMailResult_causesSame (p : Port) (r : MailResult) (x : Option HeldReason) (tag : Byte) :
    s.CausesSame (s.writeMailResult p r x tag) := by
  have written : ∀ v w y, s.CausesSame (((s.writeWord (mailboxBase p + 18) v).writeWord (mailboxBase p + 17) w).writeWord
      (mailboxBase p + 16) y) := fun _ _ _ => .refl s
  exact (written _ _ _).trans (State.raise_causesSame _ .mailbox p)

theorem State.changeInstall_causesSame (i : Install) : s.CausesSame (s.changeInstall i) := by
  have written : s.CausesSame (s.setInstall i).writeInstallRecord := .of_frame (by simp)
  exact written.trans (State.raiseBoth_causesSame _ .install)

/-- R165: the copied table changes the install record alone. -/
theorem State.beginInstall_causesSame (p : Port) (tag : Byte) (k : GateMask) (window : Nat) (t : ZoneTable) :
    s.CausesSame (s.beginInstall p tag k window t) := by
  have answered : ∀ i r, s.CausesSame ((s.changeInstall i).writeMailResult p r none tag) := fun i r =>
    (s.changeInstall_causesSame i).trans (State.writeMailResult_causesSame _ p r none tag)
  unfold State.beginInstall
  split
  · exact answered _ _
  · exact answered _ _

theorem State.takeMail_causesKept (point : Nat) (p : Port) (tag : Byte) (c : MailCommand) :
    s.CausesKept (s.takeMail during point p tag c) := by
  have surveyed : ∀ v, s.CausesKept ((s.setSurvey v).writeMailResult p .done none tag) := fun v =>
    State.CausesSame.kept (State.CausesSame.trans (t := s.setSurvey v) (.refl s) (State.writeMailResult_causesSame _ p _ _ tag))
  have fenced : ∀ z, s.CausesKept ((s.setFence z).writeMailResult p .done none tag) := fun z =>
    State.CausesSame.kept (State.CausesSame.trans (t := s.setFence z) (.refl s) (State.writeMailResult_causesSame _ p _ _ tag))
  unfold State.takeMail
  split
  · exact (s.writeMailResult_causesSame p _ _ tag).kept
  · cases c with
    | install k window =>
      unfold State.carryOutAtOnce
      exact (readRun_arrives s during 256 point 0x300).causesKept.trans (State.beginInstall_causesSame _ p tag k window _).kept
    | abandon =>
      have ended : s.CausesSame s.abandon := by
        unfold State.abandon
        split
        · exact s.changeInstall_causesSame _
        · exact .refl s
      exact (ended.trans (State.writeMailResult_causesSame _ p .done none tag)).kept
    | fence n zs => exact fenced _
    | hold v => exact surveyed _
    | period v => exact surveyed _
    | priority m o =>
      unfold State.carryOutAtOnce
      dsimp only
      split
      · exact surveyed _
      · exact .refl s
    | clearStop a => unfold State.carryOutAtOnce; dsimp only; split <;> exact State.CausesSame.kept (.refl s)
    | restartLane a => unfold State.carryOutAtOnce; dsimp only; split <;> exact State.CausesSame.kept (.refl s)
    | unknown => exact .refl s

theorem State.visitMailbox_causesKept (p : Port) : s.CausesKept (s.visitMailbox during p) := by
  have read := (readRecord_arrives s during (mailPoint p) (mailboxBase p) (mailboxBase p + 16) 16).causesKept
  unfold State.visitMailbox
  dsimp only
  split
  · split
    · exact read.trans (State.takeMail_causesKept _ during _ p _ _)
    · exact (read.trans (State.takeMail_causesKept _ during _ p _ _)).trans (State.arriveBetween_arrives _ during _ _).causesKept
  · exact read.trans (State.arriveBetween_arrives _ during _ _).causesKept

theorem State.surveyTick_causesKept : s.CausesKept (s.surveyTick during) := by
  have begun : ∀ v : Survey, s.CausesKept ((s.setSurvey v).setSip true) := fun v => State.CausesSame.kept (.of_frame (by simp))
  unfold State.surveyTick
  split
  · refine State.CausesKept.trans ?_ (State.requestTogether_effects _ _).causesKept
    exact ((begun _).trans (State.visitMailbox_causesKept _ during .a)).trans (State.visitMailbox_causesKept _ during .b)
  · exact .refl s

/-! ## The configuration service (R137, R138, R164) -/

/-- R95, R97: ending waiting traverses one after another. -/
theorem State.withdrawRun_causesSame (r : SlotResult) (l : List Slot) :
    s.CausesSame (l.foldl (fun s k => (s.endWaiting arm k .withdrawn).writeResult arm k r none) s) :=
  .foldl _ (fun s k => ((s.endWaiting_work arm k .withdrawn).trans (State.writeResult_work _ arm k r none)).causesSame) l s

theorem releaseRun_causesKept (l : List Slot) (point : Nat) : s.CausesKept (releaseRun during arm point l s) := by
  induction l generalizing s point with
  | nil => exact .refl s
  | cons k l ih =>
    have ended : ∀ x : State, x.CausesKept ((x.endGranted arm k).writeResult arm k .restarted none) := fun x =>
      ((x.endGranted_work arm k).trans (State.writeResult_work _ arm k _ none)).causesSame.kept
    exact ((s.arriveAt_arrives during point).causesKept.trans (ended _)).trans (ih _ (point + 1))

theorem State.restartLane_causesKept (point : Nat) : s.CausesKept (s.restartLane during point arm) := by
  have absorbed : ∀ (x : State) (k : Slot), x.CausesKept (x.absorbSlot arm k) := fun x k => by
    unfold State.absorbSlot
    dsimp only
    split
    · exact .refl x
    · exact ((x.writeResult_work arm k .restarted none).trans (State.writeTag_work _ arm k _)).causesSame.kept
  have cleared : ∀ (x : State) (g : Lane → Lane), x.CausesKept (x.modLane arm g) := fun x g => State.CausesSame.kept (.refl x)
  unfold State.restartLane
  refine State.CausesKept.trans ?_ (State.raise_causesSame _ .lane arm).kept
  refine State.CausesKept.trans ?_ (.foldl _ absorbed _ _)
  refine State.CausesKept.trans ?_ (cleared _ _)
  exact (s.withdrawRun_causesSame arm .restarted _).kept.trans (releaseRun_causesKept _ during arm _ point)

/-- R138: the stop causes leave together with STOPPED. -/
theorem State.clearStop_causesKept : s.CausesKept (s.clearStop arm) := by
  have written : ∀ x : State, x.CausesKept (x.writeEventSnapshot arm false) := fun x => State.CausesSame.kept (.of_frame (by simp))
  have seized : s.CausesKept (s.seize arm (fun _ => false)) := State.CausesSame.kept (.refl s)
  refine (seized.trans fun w ok => ?_).trans (written _)
  exact (State.setCauses_become _ arm _ _).agree ok (by simp) (by simp) rfl fun ⟨f, u, _, sh, pt, sn⟩ =>
    ⟨by rw [State.setCauses_feeds]; exact f, u, rfl, sh, pt, sn⟩

theorem State.carryClear_causesKept (c : Accepted) : s.CausesKept (s.carryClear c arm) := by
  unfold State.carryClear
  split
  · exact (s.writeMailResult_causesSame _ _ _ _).kept
  · exact (s.clearStop_causesKept arm).trans (State.writeMailResult_causesSame _ _ _ _ _).kept

theorem State.carryOut_causesKept (point : Nat) (c : Accepted) : s.CausesKept (s.carryOut during point c) := by
  unfold State.carryOut
  split
  · rename_i x _
    exact ((s.arriveAt_arrives during point).causesKept.trans (State.carryClear_causesKept _ x c)).trans
      (State.arriveBetween_arrives _ during _ _).causesKept
  · rename_i x _
    exact ((s.restartLane_causesKept during x point).trans (State.writeMailResult_causesSame _ _ _ _ _).kept).trans
      (State.arriveBetween_arrives _ during _ _).causesKept

theorem carryOutAll_causesKept (l : List Accepted) (point : Nat) : s.CausesKept (carryOutAll during point l s) := by
  induction l generalizing s point with
  | nil => exact (s.arriveBetween_arrives during point 40).causesKept
  | cons c l ih => exact (s.carryOut_causesKept during point c).trans (ih _ (point + 20))

end

section
variable (s : State) (arm : Arm)

/-! ## The install swap (R41, R140, R168) -/

/-- R140: an arm's enforcement record after a swap. -/
def Enforcement.swapped (e : Enforcement) : Enforcement :=
  { e with
    pause := ⟨false, true, true, false, false, e.pause.stopped⟩, stop := { e.stop with noTable := false }
    seated := false, runCounter := 0 }

theorem State.swapLane_frame : ((s.swapLane arm).enf, (s.swapLane arm).feeds) = (s.enf, s.feeds) :=
  State.foldl_keeps (fun s => (s.enf, s.feeds)) _ (fun s k => by simp) _ s

/-- R140, R186: the arm's causes at a swap, after its lane, feed and reach record are changed. -/
theorem State.swapArm_become : ∃ x : State, x.enf = s.enf.modify arm (fun e => { e with seated := false, runCounter := 0 }) ∧
    x.feeds = s.feeds.modify arm Feed.swapped ∧
    (∀ p, (x.ports.get p).stage = (s.ports.get p).stage ∧ (x.ports.get p).history = (s.ports.get p).history) ∧
    x.CausesBecome (s.swapArm arm) arm (s.enf.get arm).swapped [] ∧ (s.swapArm arm).feeds = x.feeds := by
  have lane := s.withdrawRun_causesSame arm .tableChanged ((s.lanes.get arm).slotsIn .waiting)
  obtain ⟨enf, feeds⟩ := Prod.mk.inj (s.swapLane_frame arm)
  have flagged := State.raiseIf_causesSame (((s.swapLane arm).modFeed arm Feed.swapped).dropRequest (.evaluation arm))
    (decide (((s.swapLane arm).feeds.get arm).state ≠ .absent)) .feed arm
  refine ⟨((((s.swapLane arm).swapFeed arm).modReach arm (fun _ => Reach.cleared)).modEnf arm
    (fun e => { e with seated := false, runCounter := 0 })), ?_, ?_, fun p => ?_, ?_, ?_⟩
  · simp [State.swapFeed, enf]
  · simp [State.swapFeed, feeds]
  · have l := lane p
    have f := flagged p
    simp only [State.causeView, Prod.mk.injEq] at l f
    exact ⟨f.2.2.2.1.trans l.2.2.2.1, f.2.2.2.2.trans l.2.2.2.2⟩
  · have own : (((s.swapLane arm).swapFeed arm).modReach arm (fun _ => Reach.cleared)).enf.get arm = s.enf.get arm := by
      simp [State.swapFeed, enf]
    have become := State.setCauses_become ((((s.swapLane arm).swapFeed arm).modReach arm (fun _ => Reach.cleared)).modEnf arm
      (fun e => { e with seated := false, runCounter := 0 })) arm (s.enf.get arm).swapped.pause (s.enf.get arm).swapped.stop
    rw [State.modEnf_enf, Pair_get_modify_same, own] at become
    rw [State.swapArm, State.swapCauses, own]
    exact become
  · simp [State.swapArm, State.swapCauses]

end

/-- R140, R186: the swap of one side, seen from the causes. -/
structure State.SideSwapped (s u : State) (arm : Arm) : Prop where
  enf : u.enf = s.enf.modify arm Enforcement.swapped
  feeds : u.feeds = s.feeds.modify arm Feed.swapped
  reports : (∀ p, s.guardReportOk p) → ∀ p, u.guardReportOk p

theorem State.swapArm_sideSwapped (s : State) (arm : Arm) : s.SideSwapped (s.swapArm arm) arm := by
  obtain ⟨x, enf, feeds, ports, become, kept⟩ := s.swapArm_become arm
  refine ⟨?_, kept.trans feeds, fun ok => State.portsAfter_reportsOk become.ports fun p => ?_⟩
  · rw [become.enf, enf]
    cases arm <;> rfl
  · have sets : ∀ y, (x.enf.get y).pause = (s.enf.get y).pause ∧ (x.enf.get y).stop = (s.enf.get y).stop := fun y => by
      rw [enf]
      cases y <;> cases arm <;> exact ⟨rfl, rfl⟩
    rw [State.guardReportOk, (ports p).1, (ports p).2,
      State.guardConditions_of_sets (fun y => (sets y).1) fun y => (sets y).2]
    exact ok p

/-- R41, R134, R140: the record of an arm after a swap agrees with an ABSENT feed and a table. -/
theorem Enforcement.swapped_agrees {e : Enforcement} {feed : FeedState} {noTable : Bool} (h : e.Agrees feed noTable false) :
    e.swapped.Agrees .absent false false :=
  ⟨rfl, rfl, h.stopped, rfl, rfl, rfl⟩

/-- R168: the blocks that take the table after both sides are swapped. -/
theorem State.swap_causesSame (s : State) (t : ZoneTable) :
    (((s.swapArm .a).swapArm .b).setActive (some t)).CausesSame (s.swap t) := by
  have taken : ∀ (x : State) (v : Survey) (r : Refill), (x.setActive (some t)).CausesSame
      (((((x.setFence []).setSurvey v).setActive (some t)).writeWords 0x400 t.image).putRefill r) := fun x v r =>
    .of_frame (by simp)
  have flagged : ∀ (x : State) (b : RefillState), x.CausesSame (x.flagRefillChange b) := fun x b => by
    unfold State.flagRefillChange
    split
    · exact .refl x
    · exact x.raiseBoth_causesSame .refill
  have shown : ∀ x : State, x.CausesSame ((x.writeEventSnapshot .a true).writeEventSnapshot .b true) := fun x =>
    .of_frame (by simp)
  unfold State.swap
  refine State.CausesSame.trans ?_ (State.changeInstall_causesSame _ _)
  exact State.CausesSame.trans (State.CausesSame.trans (taken _ _ _) (flagged _ _)) (shown _)

theorem State.swap_causesAgree {s : State} (t : ZoneTable) (ok : s.CausesAgree none) : (s.swap t).CausesAgree none := by
  obtain ⟨enfA, feedsA, reportsA⟩ := s.swapArm_sideSwapped .a
  obtain ⟨enfB, feedsB, reportsB⟩ := (s.swapArm .a).swapArm_sideSwapped .b
  refine (s.swap_causesSame t).kept none ?_
  generalize s.swapArm .a = u at *
  generalize u.swapArm .b = v at *
  refine ⟨fun x => ?_, reportsB (reportsA ok.reports)⟩
  have agrees := Enforcement.swapped_agrees (ok.arms x)
  rw [State.setActive_enf, State.setActive_feeds, State.setActive_active, enfB, enfA, feedsB, feedsA]
  cases x <;> exact agrees

theorem State.testGate_causesAgree {s : State} (ok : s.CausesAgree none) : s.testGate.CausesAgree none := by
  unfold State.testGate
  split
  · exact ok
  · split
    · exact State.swap_causesAgree _ ok
    · exact ok

theorem State.configurationBody_causesAgree {s : State} (during : List Arrival) (ok : s.CausesAgree none) :
    (s.configurationBody during).CausesAgree none := by
  have taken : s.CausesKept (s.setAccepted []) := State.CausesSame.kept (.refl s)
  have carried := (taken.trans (carryOutAll_causesKept _ during s.accepted 0)) none ok
  unfold State.configurationBody
  refine (State.requestTogether_effects _ _).causesKept none ((State.arriveAt_arrives _ during 41).causesKept none ?_)
  exact State.testGate_causesAgree ((State.arriveAt_arrives _ during 40).causesKept none carried)

/-! ## Every command -/

theorem State.flushSnapshot_causesSame (s : State) (arm : Arm) : s.CausesSame (s.flushSnapshot arm) := by
  have shown : ∀ y : State, y.CausesSame (y.writeEventSnapshot arm false) := fun _ => .of_frame (by simp)
  unfold State.flushSnapshot
  split
  · exact (s.modEnf_causesSame arm).trans (shown _)
  · exact .refl s

/-- A change of one port's registers that leaves its guard report. -/
theorem State.modPort_causesSame (s : State) (p : Port) {g : PortRegs → PortRegs}
    (report : ∀ r, ((g r).stage, (g r).history) = (r.stage, r.history) := by intro r; rfl) : s.CausesSame (s.modPort p g) := by
  intro x
  have kept : (((s.modPort p g).ports.get x).stage, ((s.modPort p g).ports.get x).history) =
      ((s.ports.get x).stage, (s.ports.get x).history) := by
    obtain rfl | rfl := Arm_eq_or_eq_other x p
    · rw [State.modPort_ports, Pair_get_modify_same]
      exact report _
    · rw [State.modPort_ports, Pair_get_modify_other]
  exact congrArg (fun r => (((s.enf.get x).pause, (s.enf.get x).stop, (s.enf.get x).seated), (s.feeds.get x).state, s.active, r)) kept

theorem State.pmaskWrite_causesSame (s : State) (p : Port) (v : Word) : s.CausesSame (s.pmaskWrite p v) := by
  unfold State.pmaskWrite
  split
  · exact s.modPort_causesSame p
  · exact .refl s

theorem State.registerWrite_causesSame (s : State) (p : Port) (k : BitVec 3) (v : Word) :
    s.CausesSame (s.registerWrite p k v) := by
  unfold State.registerWrite
  split
  · exact s.pmaskWrite_causesSame p v
  · exact s.plockWrite_causesSame p v
  · split
    · exact s.raise_causesSame .misuse p
    · exact .refl s

/-- R186: a read of PGUARD in the history stage makes it the present stage, which owes no mark. -/
theorem State.guardRead_causesAgree {s : State} (p : Port) (value : Word) (ok : s.CausesAgree none) :
    (s.modPort p (fun r => r.afterGuardRead value s.guardConditions)).CausesAgree none := by
  refine ⟨ok.arms, fun q history => ?_⟩
  by_cases own : q = p
  · subst own
    rw [State.modPort_ports, Pair_get_modify_same] at history
    cases stage : (s.ports.get q).stage <;> simp [PortRegs.afterGuardRead, stage] at history
  · rw [State.modPort_ports, Pair_get_modify_of_ne _ _ _ _ own] at history ⊢
    exact ok.reports q history

/-- R69, R128: a service, with the ordered snapshot writes before it. -/
theorem State.serve_causesAgree {s : State} (r : Request) {body : State → State}
    (h : ∀ x : State, x.CausesAgree none → (body x).CausesAgree none) (ok : s.CausesAgree none) :
    (s.serve r body).CausesAgree none := by
  have dropped : s.CausesSame (s.dropRequest r) := .refl s
  unfold State.serve
  split
  · exact h _ (((dropped.trans (State.flushSnapshot_causesSame _ .a)).trans (State.flushSnapshot_causesSame _ .b)).kept none ok)
  · exact ok

theorem State.resetCauses_agree : State.reset.CausesAgree none := by
  rw [State.causesAgree_iff]
  decide

theorem exec_causesAgree {c : Instr} {s t : State} (e : exec c s = .next t) (ok : s.CausesAgree none) : t.CausesAgree none := by
  have reset : ∀ {x : State}, State.reset.CausesSame x → x.CausesAgree none := fun h => h.kept none State.resetCauses_agree
  have effects : ∀ {x : State}, Effects NoCauses s x → x.CausesAgree none := fun h => h.causesKept none ok
  have same : ∀ {x : State}, s.CausesSame x → x.CausesAgree none := fun h => h.kept none ok
  cases c with
  | powerOn => cases e; exact reset fun _ => rfl
  | resetNAssert => cases e; exact reset fun _ => rfl
  | resetNRelease =>
    cases e
    unfold State.resetRelease
    split
    · exact reset fun _ => rfl
    · exact ok
  | readyRise => cases e; exact same (by unfold State.readyRise; split <;> exact .refl s)
  | frameComplete arm chars => cases e; exact (s.frameComplete_arrives arm chars).causesKept none ok
  | missTimerExpiry arm => cases e; exact (s.missExpiry_arrives arm).causesKept none ok
  | lossGraceExpiry arm => cases e; exact (s.lossGraceExpiry_arrives arm).causesKept none ok
  | stateSnapshotWrite arm => cases e; exact same (s.flushSnapshot_causesSame arm)
  | frameEvaluation arm during =>
    cases e
    refine State.serve_causesAgree _ (fun x h => ?_) ok
    unfold State.evaluationBody
    split
    · exact State.evaluationStages_causesAgree during _ arm _ _ h
    · exact h
  | surveyTick during => cases e; exact s.surveyTick_causesKept during none ok
  | configurationService during => cases e; exact State.serve_causesAgree _ (fun x => x.configurationBody_causesAgree during) ok
  | refillTest =>
    cases e
    exact State.serve_causesAgree _ (fun x h => (State.refillTestBody_effects (U := NoCauses) ⟨nofun, nofun⟩ x).causesKept none h) ok
  | surveyGrantPhase during =>
    cases e
    exact State.serve_causesAgree _ (fun x => x.grantPhaseBody_causesKept during none) ok
  | surveyEnd => cases e; exact effects (State.surveyEnd_effects (U := NoCauses) ⟨nofun, nofun⟩ s)
  | rfreqChange high => cases e; exact same (by unfold State.rfreqChange; (repeat' split) <;> exact .refl s)
  | debounceExpiry => cases e; exact effects (State.debounceExpiry_effects (U := NoCauses) ⟨nofun, nofun⟩ s)
  | stallTimerExpiry => cases e; exact effects (State.stallExpiry_effects (U := NoCauses) ⟨nofun, nofun⟩ s)
  | installWindowExpiry => cases e; exact effects (State.windowExpiry_effects (U := NoCauses) ⟨nofun, nofun⟩ s)
  | lockRequest p v m =>
    cases e
    split
    · exact same ((s.plockWrite_causesSame _ _).trans (State.plockWrite_causesSame _ _ _))
    · exact same (s.plockWrite_causesSame p v)
  | lockRelease p v => cases e; exact same (s.plockWrite_causesSame p v)
  | stagingWrite p k v => cases e; exact same (s.portWrite_causesSame p _ v)
  | memoryWrite p a v => cases e; exact same (s.portWrite_causesSame p _ v)
  | feedIdleSeen arm =>
    cases e
    split
    · exact ok
    · exact same (s.modFeed_causesSame arm)
  | pstatRead p => cases e; exact same (s.modPort_causesSame p)
  | pmaskWrite p v => cases e; exact same (s.pmaskWrite_causesSame p v)
  | pguardRead p => cases e; exact State.guardRead_causesAgree p _ ok
  | registerWrite p k v => cases e; exact same (s.registerWrite_causesSame p k v)

/-- The causes stay in agreement through a step. -/
theorem step_causesAgree {s t : State} (e : step s = .next t) (ok : s.CausesAgree none) : t.CausesAgree none := by
  unfold step at e
  split at e
  · cases e
    exact ok
  · rename_i c rest _
    have taken : s.CausesKept (s.setPending rest) := State.CausesSame.kept (.refl s)
    exact exec_causesAgree e (taken none ok)

end Sys2Proof.Machine

open Sys2Proof Sys2Proof.Machine

/-- Settles O56: every command keeps the causes in agreement, each change of a cause set and each swap as a whole. -/
theorem everyStepKeepsTheCauses : Obligations.EveryStepKeepsTheCauses := fun s t causes reports e =>
  t.causesAgree_iff.mp (step_causesAgree e (s.causesAgree_iff.mpr ⟨causes, reports⟩))
end

section
/-! SUPPORT. R127, R128, R177: the words of a snapshot write: the count raised twice, and what stage 7 and an event put between. -/

namespace Sys2Proof.Machine

/-! ## Words written between two raises of the count (R127) -/

section
variable {s : State} {arm : Arm}

theorem State.raiseSnapshotCount_memoryOk (wf : s.memoryOk) (arm : Arm) : (s.raiseSnapshotCount arm).memoryOk :=
  Memory.wf_write _ _ wf

theorem State.raiseSnapshotCount_word (wf : s.memoryOk) (arm : Arm) :
    (s.raiseSnapshotCount arm).word (snapshotBase arm) = s.word (snapshotBase arm) + 1 :=
  Memory.read_write_same _ _ wf

theorem State.raiseSnapshotCount_word_of_ne (s : State) (arm : Arm) {a : Nat} (h : a ≠ snapshotBase arm) :
    (s.raiseSnapshotCount arm).word a = s.word a :=
  State.writeWord_word_of_ne s _ h

/-- R127: the count ends two above where it stood, whatever is written beyond it. -/
theorem State.raisedTwice_word (wf : s.memoryOk) {m : State} (canonical : m.memoryOk)
    (count : m.word (snapshotBase arm) = (s.raiseSnapshotCount arm).word (snapshotBase arm)) :
    (m.raiseSnapshotCount arm).word (snapshotBase arm) = s.word (snapshotBase arm) + 2 := by
  rw [State.raiseSnapshotCount_word canonical, count, State.raiseSnapshotCount_word wf, BitVec.add_assoc]
  rfl

/-! ## A snapshot write for an event (R128) -/

theorem FeedState.code_lt (f : FeedState) : f.code < 4 := by cases f <;> decide

/-- R177: word 1 with a new feed state and a new seated mark. -/
theorem eventWord (w : Word) (f : FeedState) (seated : Bool) :
    putBits (putBits w 0 2 f.code) 4 1 (markAt seated 0) = (w &&& 0xFFEC) ||| wordOf (f.code + markAt seated 4) := by
  have free : ∀ n < 4, (65532#16) &&& wordOf (n * 2 ^ 0) = 0#16 := by decide
  have mark : ∀ n < 2, (65519#16) &&& wordOf (n * 2 ^ 4) = 0#16 := by decide
  have low : ∀ v : Word, (v &&& 3#16).toNat = bitsAt v 0 2 * 2 ^ 0 := fun v => by
    rw [toNat_and_low v 3#16 2 rfl]
    simp [bitsAt]
  have middle : ∀ v : Word, (v &&& 16#16).toNat = bitsAt v 4 1 * 2 ^ 4 := fun v => by
    have shifted : v &&& 16#16 = ((v >>> 4) &&& 1#16) <<< 4 := by
      ext i hi
      interval_cases i <;> simp
    rw [shifted, BitVec.toNat_shiftLeft, toNat_and_low _ 1#16 1 rfl, BitVec.toNat_ushiftRight, bitsAt,
      Nat.shiftRight_eq_div_pow, Nat.shiftLeft_eq]
    have := v.isLt
    omega
  have fields : ∀ n < 4, ∀ b : Bool, (wordOf (n * 2 ^ 0) &&& 65519#16) ||| wordOf (markAt b 0 * 2 ^ 4) =
      wordOf (n + markAt b 4) := by decide
  rw [putBits_eq_mask (m := 65532#16) (field := 3#16) f.code_lt (by decide) (by decide) (low w) (free _ f.code_lt),
    putBits_eq_mask (m := 65519#16) (field := 16#16) (by cases seated <;> decide) (by decide) (by decide) (middle _)
      (mark _ (by cases seated <;> decide)),
    BitVec.and_or_distrib_right, BitVec.or_assoc, fields _ f.code_lt, BitVec.and_assoc]
  rfl

/-- R177: word 15 with the bit of the current traverse kept and the last good sequence shown. -/
theorem sequenceWord (w : Word) (q : Option Byte) : wordOf (bitsAt w 0 1 + lastSeqBits q) =
    (w &&& 1) ||| (match q with | none => 0 | some q => wordOf (2 + q.toNat * 256)) := by
  have bit : wordOf (bitsAt w 0 1) = w &&& 1 := by
    refine BitVec.eq_of_toNat_eq ?_
    rw [toNat_and_low w 1 1 rfl, wordOf_toNat]
    simp only [bitsAt, pow_zero, Nat.div_one, pow_one]
    omega
  cases q with
  | none => simp [lastSeqBits, bit]
  | some q =>
    have apart : (w &&& 1) &&& wordOf (2 + q.toNat * 256) = 0#16 := by
      have even : 1#16 &&& wordOf (2 + q.toNat * 256) = 0#16 := by
        refine BitVec.eq_of_toNat_eq ?_
        rw [BitVec.and_comm, toNat_and_low _ 1#16 1 rfl, wordOf_toNat]
        simp
        omega
      rw [BitVec.and_assoc, show (1 : Word) = 1#16 from rfl, even, BitVec.and_zero]
    rw [← BitVec.add_eq_or_of_and_eq_zero _ _ apart, ← bit]
    refine BitVec.eq_of_toNat_eq ?_
    simp [lastSeqBits]

/-- R128: the words of an event: three from word 1 and nine from word 13, between two raises of the count. -/
def State.eventWritten (s : State) (arm : Arm) (low high : List Word) : State :=
  (((s.raiseSnapshotCount arm).writeWords (snapshotBase arm + 1) low).writeWords (snapshotBase arm + 13) high).raiseSnapshotCount
    arm

theorem State.eventWritten_words {low high : List Word} (wf : s.memoryOk) (lows : low.length = 3) (highs : high.length = 9) :
    let u := s.eventWritten arm low high
    u.word (snapshotBase arm) = s.word (snapshotBase arm) + 2 ∧
      (∀ k < 3, u.word (snapshotBase arm + 1 + k) = low.getD k 0) ∧
      (∀ k < 9, u.word (snapshotBase arm + 13 + k) = high.getD k 0) ∧
      ∀ a, a ≠ snapshotBase arm → (a < snapshotBase arm + 1 ∨ snapshotBase arm + 4 ≤ a) →
        (a < snapshotBase arm + 13 ∨ snapshotBase arm + 22 ≤ a) → u.word a = s.word a := by
  have wf1 := State.raiseSnapshotCount_memoryOk wf arm
  have wf2 : ((s.raiseSnapshotCount arm).writeWords (snapshotBase arm + 1) low).memoryOk := Memory.wf_writeFrom _ _ wf1
  have wf3 : (((s.raiseSnapshotCount arm).writeWords (snapshotBase arm + 1) low).writeWords (snapshotBase arm + 13) high).memoryOk :=
    Memory.wf_writeFrom _ _ wf2
  have highOut : ∀ {a}, a < snapshotBase arm + 13 ∨ snapshotBase arm + 22 ≤ a →
      a < snapshotBase arm + 13 ∨ snapshotBase arm + 13 + high.length ≤ a := fun h => by rw [highs]; omega
  have lowOut : ∀ {a}, a < snapshotBase arm + 1 ∨ snapshotBase arm + 4 ≤ a →
      a < snapshotBase arm + 1 ∨ snapshotBase arm + 1 + low.length ≤ a := fun h => by rw [lows]; omega
  refine ⟨State.raisedTwice_word wf wf3 ?_, fun k hk => ?_, fun k hk => ?_, fun a ha out1 out2 => ?_⟩
  · rw [State.writeWords_word_outside _ _ (highOut (by omega)), State.writeWords_word_outside _ _ (lowOut (by omega))]
  · rw [State.eventWritten, State.raiseSnapshotCount_word_of_ne _ _ (by omega),
      State.writeWords_word_outside _ _ (highOut (by omega)), State.writeWords_word_inside wf1 (by omega)]
  · rw [State.eventWritten, State.raiseSnapshotCount_word_of_ne _ _ (by omega), State.writeWords_word_inside wf2 (by omega)]
  · rw [State.eventWritten, State.raiseSnapshotCount_word_of_ne _ _ ha, State.writeWords_word_outside _ _ (highOut out2),
      State.writeWords_word_outside _ _ (lowOut out1), State.raiseSnapshotCount_word_of_ne _ _ ha]

/-- R128: a snapshot write for an event changes memory alone. -/
theorem State.writeEventSnapshot_memory (s : State) (arm : Arm) (b : Bool) : ∃ m, s.writeEventSnapshot arm b = s.setMem m :=
  ⟨_, rfl⟩

/-- R128, R177: the words of a snapshot write for an event. -/
theorem State.writeEventSnapshot_shown (wf : s.memoryOk) (arm : Arm) :
    s.eventShown (s.writeEventSnapshot arm false) arm ∧
      s.wordsKept (s.writeEventSnapshot arm false) (offsets (snapshotBase arm) 22) := by
  obtain ⟨m, memory⟩ := s.writeEventSnapshot_memory arm false
  have old : ∀ j, 0 < j → (s.raiseSnapshotCount arm).word (snapshotBase arm + j) = s.word (snapshotBase arm + j) := fun j hj =>
    s.raiseSnapshotCount_word_of_ne arm (by omega)
  have held : ∀ (low : List Word) (j : Nat), low.length = 3 → 13 ≤ j →
      ((s.raiseSnapshotCount arm).writeWords (snapshotBase arm + 1) low).word (snapshotBase arm + j) =
        s.word (snapshotBase arm + j) := fun low j h hj => by
    rw [State.writeWords_word_outside _ _ (by omega), old j (by omega)]
  have written : s.writeEventSnapshot arm false = s.eventWritten arm
      ((s.word (snapshotBase arm + 1) &&& 0xFFEC ||| wordOf ((s.feeds.get arm).state.code + markAt (s.enf.get arm).seated 4)) ::
        s.causeWords arm)
      ([s.word (snapshotBase arm + 13), s.word (snapshotBase arm + 14),
        (s.word (snapshotBase arm + 15) &&& 1) |||
          (match (s.feeds.get arm).lastSeq with | none => 0 | some q => wordOf (2 + q.toNat * 256))] ++
        s.tallyWords arm) := by
    unfold State.writeEventSnapshot State.eventTraverseWords
    simp only [Bool.false_eq_true, if_false, old 1 (by omega)]
    rw [held _ 13 rfl (by omega), held _ 14 rfl (by omega), held _ 15 rfl (by omega), sequenceWord]
    rw [show (s.raiseSnapshotCount arm).feeds = s.feeds from rfl, show (s.raiseSnapshotCount arm).enf = s.enf from rfl, eventWord]
    rfl
  have frame : (s.writeEventSnapshot arm false).enf = s.enf ∧ (s.writeEventSnapshot arm false).feeds = s.feeds ∧
      (s.writeEventSnapshot arm false).tallies = s.tallies := by
    rw [memory]
    exact ⟨rfl, rfl, rfl⟩
  obtain ⟨enf, feeds, tallies⟩ := frame
  rw [State.eventShown, enf, feeds, tallies, written]
  obtain ⟨count, low, high, rest⟩ := State.eventWritten_words (arm := arm) (low := _ :: s.causeWords arm)
    (high := [_, _, _] ++ s.tallyWords arm) wf rfl rfl
  refine ⟨⟨count, low 0 (by omega), low 1 (by omega), low 2 (by omega), fun k lo hi => ?_, high 2 (by omega), high 3 (by omega),
    high 4 (by omega), high 5 (by omega), high 6 (by omega), high 7 (by omega), high 8 (by omega)⟩, fun a ha => ?_⟩
  · obtain below | rfl | rfl : k ≤ 12 ∨ k = 13 ∨ k = 14 := by omega
    · exact rest _ (by omega) (by omega) (by omega)
    · exact high 0 (by omega)
    · exact high 1 (by omega)
  · rw [mem_offsets] at ha
    exact rest a (by omega) (by omega) (by omega)

end

end Sys2Proof.Machine

open Sys2Proof Sys2Proof.Machine

/-- Settles O15: the order is taken off, and the write is that of an event. -/
theorem orderedSnapshotWriteShowsTheEvent : Obligations.OrderedSnapshotWriteShowsTheEvent := by
  refine ⟨fun s arm wf ordered => ?_, fun s arm none => congrArg Host.Outcome.next (State.flushSnapshot_of_notOrdered none)⟩
  have flushed : s.flushSnapshot arm = (s.modEnf arm (fun e => { e with snapshotOrdered := false })).writeEventSnapshot arm false :=
    if_pos ordered
  obtain ⟨shown, kept⟩ := State.writeEventSnapshot_shown (s := s.modEnf arm (fun e => { e with snapshotOrdered := false })) wf arm
  obtain ⟨m, memory⟩ := (s.modEnf arm (fun e => { e with snapshotOrdered := false })).writeEventSnapshot_memory arm false
  refine ⟨_, congrArg Host.Outcome.next flushed, ?_, shown, kept⟩
  rw [memory]
  rfl
end

section
/-! SUPPORT. R127, R177: an evaluation up to its stage 7, whatever arrives: the memory stays in its form, the snapshot counts stand,
and the reach record has the frame's position; and the words of stage 7. -/

namespace Sys2Proof.Machine

/-! ## Work before stage 7 -/

/-- Work that writes no snapshot and computes no position. -/
structure State.StageWork (s u : State) : Prop where
  memory : s.memoryOk → u.memoryOk ∧ ∀ arm, u.word (snapshotBase arm) = s.word (snapshotBase arm)
  positions : ∀ arm, (u.reach.get arm).position = (s.reach.get arm).position

theorem State.StageWork.trans {s t u : State} (h : s.StageWork t) (k : t.StageWork u) : s.StageWork u where
  memory wf :=
    have ⟨wf', first⟩ := h.memory wf
    have ⟨wf'', second⟩ := k.memory wf'
    ⟨wf'', fun arm => (second arm).trans (first arm)⟩
  positions arm := (k.positions arm).trans (h.positions arm)

/-- Work that leaves memory and the positions. -/
theorem State.StageWork.of_frame {s u : State} (mem : u.mem = s.mem)
    (positions : ∀ arm, (u.reach.get arm).position = (s.reach.get arm).position) : s.StageWork u :=
  ⟨fun wf => ⟨(congrArg Memory.wf mem).trans wf, fun arm => congrArg (Memory.read · (snapshotBase arm)) mem⟩, positions⟩

theorem State.StageWork.refl (s : State) : s.StageWork s := .of_frame rfl fun _ => rfl

/-- A word written beside the snapshots. -/
theorem State.StageWork.of_write {s u : State} {a : Nat} {v : Word} (mem : u.mem = s.mem.write a v) (reach : u.reach = s.reach)
    (beside : ∀ arm, a ≠ snapshotBase arm) : s.StageWork u where
  memory wf := ⟨(congrArg Memory.wf mem).trans (Memory.wf_write a v wf), fun arm => by
    rw [State.word, mem]
    exact Memory.read_write_of_ne _ _ (beside arm).symm⟩
  positions arm := by rw [reach]

/-- R125: a change of causes writes the status word alone. -/
theorem State.CausesBecome.stageWork {s u : State} {arm : Arm} {e : Enforcement} {own : List Flag}
    (h : s.CausesBecome u arm e own) (reach : u.reach = s.reach) : s.StageWork u where
  memory wf := ⟨h.canonical wf, fun x => (h.status wf).2 _ (by cases x <;> decide)⟩
  positions x := by rw [reach]

theorem State.SlotWork.stageWork {s u : State} {arm : Arm} {k : Slot} (h : s.SlotWork u arm k) : s.StageWork u where
  memory wf := ⟨h.canonical wf, fun x => h.words _ (by
    rw [mem_offsets]
    cases x <;> cases arm <;> simp only [snapshotBase, slotBase, laneBase] <;> omega)⟩
  positions x := by
    have frame := h.frame
    unfold State.LaneWork at frame
    rw [frame]

/-- R171, R172: a port may write no word of a snapshot. -/
theorem State.portWrite_stageWork (s : State) (p : Port) (a : Nat) (v : Word) : s.StageWork (s.portWrite p a v) := by
  unfold State.portWrite
  split
  · exact .refl s
  split
  · rename_i allowed
    refine .of_write rfl rfl fun arm same => ?_
    subst same
    have barred : inRequestHalf p (snapshotBase arm) = false ∧ inStaging (snapshotBase arm) = false := by
      cases p <;> cases arm <;> decide
    simp [State.mayWrite, barred] at allowed
  · exact .of_frame rfl fun _ => rfl

theorem State.plockWrite_stageWork (s : State) (p : Port) (v : Word) : s.StageWork (s.plockWrite p v) := by
  have put : ∀ l, s.StageWork (s.putLock l) := fun l =>
    .of_write (a := 0x00C) rfl rfl fun arm => by cases arm <;> decide
  have handed : ∀ (x : State) (q : Option Port), x.StageWork (x.flagHandover q) := fun x q => by
    cases q
    · exact .refl x
    · exact .of_frame rfl fun _ => rfl
  unfold State.plockWrite
  (repeat' split)
  · exact .refl s
  · exact (put _).trans (handed _ _)
  · exact put _
  · exact .refl s

theorem ArrivalStep.stageWork {s u : State} (h : ArrivalStep s u) : s.StageWork u := by
  cases h with
  | portWrite p a v => exact s.portWrite_stageWork p a v
  | plockWrite p v => exact s.plockWrite_stageWork p v
  | changeFeed arm new =>
    by_cases changes : (s.feeds.get arm).state = new
    · rw [State.changeFeed, if_pos changes]
      exact .refl s
    by_cases steady : new = .steady
    · subst steady
      exact (State.changeFeed_steady_become changes).stageWork (by simp)
    · exact (State.changeFeed_become changes steady).stageWork (by simp)
  | addFeedLoss arm => exact (s.addFeedLoss_become arm).stageWork (by simp)
  | acquires arm =>
    refine .of_frame rfl fun x => ?_
    obtain rfl | rfl := Arm_eq_or_eq_other x arm <;> simp
  | _ => exact .of_frame rfl fun _ => rfl

theorem State.Arrives.stageWork {s u : State} (h : s.Arrives u) : s.StageWork u := h.rel .refl .trans ArrivalStep.stageWork

/-! ## The stages (R126) -/

theorem State.countdown_stageWork (s : State) (arm : Arm) (gap : Option Nat) : s.StageWork (s.countdown arm gap) := by
  unfold State.countdown
  split
  · have fell := (s.writeRemaining_work arm ‹_› (countedDown ‹Traverse›.remaining ‹_›)).stageWork
    (repeat' split)
    · exact fell.trans (State.endGranted_work _ arm _).stageWork
    · exact fell
    · exact .refl s
  · exact .refl s

theorem State.seatingStage_stageWork (s : State) (arm : Arm) : s.StageWork (s.seatingStage arm).1 := by
  unfold State.seatingStage
  split
  · exact .refl s
  · exact .of_frame rfl fun _ => rfl

theorem State.fullStages_stageWork (s : State) (during : List Arrival) (t : ZoneTable) (arm : Arm) (gap : Option Nat)
    (marked : Bool) (g : Gathered) : s.StageWork (s.fullStages during t arm gap marked g).1 := by
  have counted : ∀ (x : State) (f : Enforcement → Enforcement), x.StageWork (x.modEnf arm f) := fun _ _ =>
    .of_frame rfl fun _ => rfl
  unfold State.fullStages
  refine .trans ?_ (State.countdown_stageWork _ arm gap)
  refine .trans ?_ (State.arriveAt_arrives _ during _).stageWork
  refine .trans ?_ (counted _ _)
  refine .trans ?_ (State.arriveAt_arrives _ during _).stageWork
  refine .trans ?_ (State.arriveAt_arrives _ during _).stageWork
  refine (s.arriveAt_arrives during 3).stageWork.trans ?_
  split
  · exact .refl _
  · exact .of_frame rfl fun _ => rfl

theorem State.applyGathered_stageWork (s : State) (arm : Arm) (g : Gathered) : s.StageWork (s.applyGathered arm g) :=
  (s.setCauses_become arm _ _).stageWork (by simp)

/-- R42, R126, R127: an evaluation comes to stage 7 with the memory and the count as found, and with the frame's position. -/
theorem State.evaluationStages_toShow {s : State} (wf : s.memoryOk) (during : List Arrival) (t : ZoneTable) (arm : Arm)
    (f : HeldFrame) (steady : Bool) : ∃ y : State, s.evaluationStages during t arm f steady = y.writeSnapshot arm ∧ y.memoryOk ∧
      y.word (snapshotBase arm) = s.word (snapshotBase arm) ∧ (y.reach.get arm).position = some (transform (t.arms.get arm) f) := by
  have frame : s.StageWork (s.takeFrame arm f) := .of_frame rfl fun x => by
    obtain rfl | rfl := Arm_eq_or_eq_other x arm <;> simp [State.takeFrame]
  obtain ⟨wf1, count⟩ := (frame.trans (State.arriveAt_arrives _ during 1).stageWork).memory wf
  have position : ∀ x : State, ((x.arithmetic t arm f).reach.get arm).position = some (transform (t.arms.get arm) f) :=
    fun x => by simp [State.arithmetic, Reach.run]
  suffices rest : ∃ y, s.evaluationStages during t arm f steady = y.writeSnapshot arm ∧
      (((s.takeFrame arm f).arriveAt during 1).arithmetic t arm f).StageWork y by
    obtain ⟨y, shown, memory, positions⟩ := rest
    obtain ⟨wf2, counts⟩ := memory wf1
    exact ⟨y, shown, wf2, (counts arm).trans (count arm), (positions arm).trans (position _)⟩
  refine ⟨_, rfl, .trans ?_ (State.arriveAt_arrives _ during 7).stageWork⟩
  refine .trans (State.arriveAt_arrives _ during 2).stageWork ?_
  cases steady with
  | false => exact (State.arriveBetween_arrives _ during 3 7).stageWork
  | true =>
    simp only [if_true]
    refine .trans ?_ (State.applyGathered_stageWork _ arm _)
    split
    · exact (State.seatingStage_stageWork _ arm).trans (State.fullStages_stageWork _ during t arm _ _ _)
    · exact (State.seatingStage_stageWork _ arm).trans (State.arriveBetween_arrives _ during 3 7).stageWork

/-! ## Stage 7 (R127, R177) -/

/-- R127: words from word 1 on, between two raises of the count. -/
def State.snapshotWritten (s : State) (arm : Arm) (ws : List Word) : State :=
  ((s.raiseSnapshotCount arm).writeWords (snapshotBase arm + 1) ws).raiseSnapshotCount arm

theorem State.snapshotWritten_words {s : State} (wf : s.memoryOk) (arm : Arm) (ws : List Word) :
    (s.snapshotWritten arm ws).word (snapshotBase arm) = s.word (snapshotBase arm) + 2 ∧
      ∀ k < ws.length, (s.snapshotWritten arm ws).word (snapshotBase arm + 1 + k) = ws.getD k 0 := by
  have wf1 := State.raiseSnapshotCount_memoryOk wf arm
  have wf2 : ((s.raiseSnapshotCount arm).writeWords (snapshotBase arm + 1) ws).memoryOk := Memory.wf_writeFrom _ _ wf1
  refine ⟨State.raisedTwice_word wf wf2 (State.writeWords_word_outside _ _ (by omega)), fun k hk => ?_⟩
  rw [State.snapshotWritten, State.raiseSnapshotCount_word_of_ne _ _ (by omega), State.writeWords_word_inside wf1 hk]

/-- R127: the count raised first plays no part in the words of stage 7. -/
theorem State.writeSnapshot_eq (s : State) (arm : Arm) : s.writeSnapshot arm = s.snapshotWritten arm (s.snapshotWords arm) := by
  have words : ∀ m, (s.setMem m).snapshotWords arm = s.snapshotWords arm := fun _ => rfl
  exact congrArg (s.snapshotWritten arm) (words _)

/-- R177: words 13–15 of stage 7. -/
theorem State.snapshotWords_traverse (s : State) (arm : Arm) :
    let sequence := match (s.feeds.get arm).lastSeq with | none => 0 | some q => 2 + q.toNat * 256
    let w := fun k => (s.snapshotWords arm).getD k 0
    match s.current arm with
    | none => w 12 = 0 ∧ w 13 = 0 ∧ w 14 = wordOf sequence
    | some tr => w 12 = tr.number ∧ w 13 = wordOf tr.remaining ∧ w 14 = wordOf (1 + sequence) := by
  have sequence : lastSeqBits (s.feeds.get arm).lastSeq =
      match (s.feeds.get arm).lastSeq with | none => 0 | some q => 2 + q.toNat * 256 := by
    cases (s.feeds.get arm).lastSeq <;> rfl
  simp only [← sequence, State.snapshotWords, State.traverseWords]
  cases s.current arm with
  | none => exact ⟨rfl, rfl, congrArg wordOf (Nat.zero_add _)⟩
  | some tr => exact ⟨rfl, rfl, rfl⟩

/-- R69, R126: an evaluation that is due, whatever arrives during it. -/
theorem exec_frameEvaluation_during {s : State} {arm : Arm} {t : ZoneTable} {f : HeldFrame} (during : List Arrival)
    (due : s.readyFor (.evaluation arm)) (table : s.active = some t) (held : (s.feeds.get arm).holding = some f) :
    exec (.frameEvaluation arm during) s = .next ((s.dropRequest (.evaluation arm)).evaluationStages during t arm f
      (decide ((s.feeds.get arm).state = .steady))) := by
  refine congrArg Host.Outcome.next ((State.serve_of_readyFor due _).trans ?_)
  unfold State.evaluationBody
  rw [State.dropRequest_active, State.dropRequest_feeds, table, held]

end Sys2Proof.Machine

open Sys2Proof Sys2Proof.Machine

/-- Settles O27: every evaluation comes to stage 7, which writes the layout word by word. -/
theorem evaluationSnapshotShowsTheState : Obligations.EvaluationSnapshotShowsTheState := by
  intro s arm during t f due wf table held
  obtain ⟨y, stages, wf', count, position⟩ := State.evaluationStages_toShow (s := s.dropRequest (.evaluation arm)) wf during t arm f
    (decide ((s.feeds.get arm).state = .steady))
  refine ⟨_, exec_frameEvaluation_during during due table held, ?_⟩
  rw [stages]
  obtain ⟨raised, words⟩ := State.snapshotWritten_words wf' arm (y.snapshotWords arm)
  rw [← State.writeSnapshot_eq] at raised words
  obtain ⟨m, memory⟩ := y.writeSnapshot_memory arm
  have current : (y.writeSnapshot arm).current arm = y.current arm := by rw [memory]; rfl
  have frame : (y.writeSnapshot arm).enf = y.enf ∧ (y.writeSnapshot arm).feeds = y.feeds ∧ (y.writeSnapshot arm).reach = y.reach ∧
      (y.writeSnapshot arm).tallies = y.tallies := by
    rw [memory]
    exact ⟨rfl, rfl, rfl, rfl⟩
  obtain ⟨enf, feeds, reach, tallies⟩ := frame
  have listed : ∀ k < 21, ∀ w, (y.snapshotWords arm).getD k 0 = w →
      (y.writeSnapshot arm).word (snapshotBase arm + (k + 1)) = w := fun k hk w h => by
    rw [← h, ← words k hk, Nat.add_assoc, Nat.add_comm 1 k]
  dsimp only
  rw [enf, feeds, reach, tallies, current]
  refine ⟨raised.trans (congrArg (· + 2) count), listed 0 (by omega) _ rfl, listed 1 (by omega) _ rfl, listed 2 (by omega) _ rfl,
    ⟨_, position, ?_⟩, listed 6 (by omega) _ rfl, listed 7 (by omega) _ rfl, listed 8 (by omega) _ rfl, listed 9 (by omega) _ rfl,
    listed 10 (by omega) _ rfl, listed 11 (by omega) _ rfl, ?_, listed 15 (by omega) _ rfl, listed 16 (by omega) _ rfl,
    listed 17 (by omega) _ rfl, listed 18 (by omega) _ rfl, listed 19 (by omega) _ rfl, listed 20 (by omega) _ rfl⟩
  · refine ⟨listed 3 (by omega) _ ?_, listed 4 (by omega) _ ?_, listed 5 (by omega) _ ?_⟩ <;>
      (simp only [State.snapshotWords, position]; rfl)
  · have shown := y.snapshotWords_traverse arm
    cases traverse : y.current arm
    all_goals
      rw [traverse] at shown
      obtain ⟨number, remaining, sequence⟩ := shown
      exact ⟨listed 12 (by omega) _ number, listed 13 (by omega) _ remaining, listed 14 (by omega) _ sequence⟩
end

section
/-! SUPPORT. R126, R129–R133: what the checks of a steady frame find and gather, and the causes that they leave. -/

namespace Sys2Proof.Machine

/-! ## Coverage and conflict (R66, R130) -/

theorem State.covered_iff {x : State} (records : x.cells.length = 1024) (b : Option Block) (arm : Arm) :
    x.covered b arm = true ↔ coveredIn x.cell b arm := by
  rw [State.covered, Bool.not_eq_true', ← Bool.not_eq_true, State.anyCell_iff records]
  simp [Cell.ownedBy, coveredIn]

theorem coveredIn_congr {cell cell' : Nat → Cell} (same : ∀ i < 1024, cell i = cell' i) (b : Option Block) (arm : Arm) :
    coveredIn cell b arm ↔ coveredIn cell' b arm :=
  forall_congr' fun i => forall_congr' fun hi => by rw [same i hi]

/-- R130: the three ways in which the envelope may meet what seating may not take. -/
theorem State.seatConflict_iff {x : State} (records : x.cells.length = 1024) (arm : Arm) :
    x.seatConflict arm = true ↔ x.seatConflicts arm (x.reach.get arm) := by
  simp only [State.seatConflict, State.blockMeets, State.blockMeetsSet, Bool.or_eq_true, Bool.and_eq_true,
    State.anyCell_iff records, Cell.ownedBy, decide_eq_true_eq, State.closedCell, State.refillFence, State.rfgnt,
    State.seatConflicts, State.taboo]
  constructor
  · rintro ((⟨i, hi, block, other⟩ | ⟨i, hi, block, closed⟩) | ⟨granted, i, hi, block, refill⟩)
    · exact ⟨i, hi, block, .inl other⟩
    · exact ⟨i, hi, block, .inr closed⟩
    · exact ⟨i, hi, block, .inr (.inr ⟨by rw [granted]; nofun, refill⟩)⟩
  · rintro ⟨i, hi, block, other | closed⟩
    · exact .inl (.inl ⟨i, hi, block, other⟩)
    · exact .inl (.inr ⟨i, hi, block, closed⟩)

/-! ## What the stages gather (R126) -/

/-- R126, R129–R133: an arm's enforcement record with the gathered changes made. -/
def Enforcement.gathered (e : Enforcement) (g : Gathered) : Enforcement :=
  let kinds := match g.shortfall with | none => (e.pause.shortfall, e.pause.starved) | some k => k
  { e with
    pause := { e.pause with
      unseated := e.pause.unseated && !g.seated, shortfall := kinds.1, starved := kinds.2
      stopped := e.pause.stopped || g.trespass || g.conflict }
    stop := { e.stop with trespass := e.stop.trespass || g.trespass, seatConflict := e.stop.seatConflict || g.conflict } }

theorem State.applyGathered_become (c : State) (arm : Arm) (g : Gathered) :
    c.CausesBecome (c.applyGathered arm g) arm ((c.enf.get arm).gathered g) [] := c.setCauses_become arm _ _

/-- R126: stages 6 and 7 as they are seen from the causes. -/
theorem State.evaluationEnd_become (c : State) (arm : Arm) (g : Gathered) :
    let u := (c.applyGathered arm g).writeSnapshot arm
    u.enf = c.enf.set arm ((c.enf.get arm).gathered g) ∧ c.portsAfter u arm (c.lineFlags u arm) [] ∧ u.lanes = c.lanes ∧
      u.cells = c.cells ∧ u.reach = c.reach := by
  have become := c.applyGathered_become arm g
  have frame : (c.applyGathered arm g).lanes = c.lanes ∧ (c.applyGathered arm g).cells = c.cells ∧
      (c.applyGathered arm g).reach = c.reach := by simp [State.applyGathered]
  obtain ⟨m, hm⟩ := (c.applyGathered arm g).writeSnapshot_memory arm
  dsimp only
  rw [hm]
  exact ⟨become.enf, become.ports, frame⟩

variable {s : State} {t : ZoneTable} {arm : Arm} {f : HeldFrame}

/-- R64, R129: the guard as the checks of stages 4 and 5 find it. -/
def State.swept (s : State) (t : ZoneTable) (arm : Arm) (f : HeldFrame) : State :=
  ((s.computed t arm f).seatingStage arm).1.lingerSweep arm

/-- R132: the sweep block is covered. -/
def State.ahead (s : State) (t : ZoneTable) (arm : Arm) (f : HeldFrame) : Bool :=
  (s.swept t arm f).covered ((s.swept t arm f).reach.get arm).sweep arm

/-- R129–R133: what the stages gather. -/
def State.gathers (s : State) (t : ZoneTable) (arm : Arm) (f : HeldFrame) : Gathered :=
  { ((s.computed t arm f).seatingStage arm).2 with
    trespass := !(s.swept t arm f).covered ((s.swept t arm f).reach.get arm).envelope arm
    shortfall := some ((s.swept t arm f).shortfallAfter arm (t.arms.get arm).pr.toNat (s.ahead t arm f)) }

/-- R126: the countdown finds the stages before it made, with the run counter brought up to date. -/
def State.checked (s : State) (t : ZoneTable) (arm : Arm) (f : HeldFrame) : State :=
  s.staged t arm f (fun n => runAfter n (s.ahead t arm f))

theorem State.evaluationStages_of_checks {k : Nat} (gap : f.gap = some k) : s.evaluationStages [] t arm f true =
    (((s.checked t arm f).countdown arm (some k)).applyGathered arm (s.gathers t arm f)).writeSnapshot arm := by
  have unmarked : ((s.computed t arm f).reach.get arm).firstMark = false := by
    rw [State.computed_eq]
    simp [State.reachAfter, Reach.run, gap]
  have computed : (s.takeFrame arm f).arithmetic t arm f = s.computed t arm f := rfl
  unfold State.evaluationStages State.fullStages
  simp only [State.arriveAt_nil, computed, unmarked, gap, Option.isSome_some, if_true, Bool.false_eq_true, if_false]
  rfl

/-- R129: the enforcement record that stage 2 leaves. -/
theorem State.seatingStage_enf (x : State) (arm : Arm) :
    (x.seatingStage arm).1.enf = x.enf.modify arm (fun e => { e with seated := true }) := by
  unfold State.seatingStage
  split
  · rename_i seated
    refine (Pair_modify_eq_self ?_).symm
    rw [← seated]
  · rfl

/-- R42: the reach record that the arithmetic leaves. -/
theorem State.computed_reach : (s.computed t arm f).reach.get arm = s.reachAfter t arm f := by
  rw [State.computed_eq]
  exact Pair_get_set_same _ _ _

theorem State.swept_enf : (s.swept t arm f).enf = s.enf.modify arm (fun e => { e with seated := true }) :=
  State.seatingStage_enf (s.computed t arm f) arm

theorem State.swept_reach : (s.swept t arm f).reach.get arm = s.reachAfter t arm f := by
  have kept : ∀ x : State, (x.seatingStage arm).1.reach = x.reach := fun x => by
    unfold State.seatingStage
    split <;> rfl
  show ((s.computed t arm f).seatingStage arm).1.reach.get arm = _
  rw [kept, State.computed_reach]

theorem State.swept_lanes : (s.swept t arm f).lanes = s.lanes := by
  show ((s.computed t arm f).seatingStage arm).1.lanes = _
  unfold State.seatingStage
  split <;> rfl

/-- R129: stage 2 gathers that the arm is seated, and the conflict that the seize found. -/
theorem State.gathers_seating (records : s.cells.length = 1024) : (s.gathers t arm f).seated = !(s.enf.get arm).seated ∧
    ((s.gathers t arm f).conflict = true ↔ (s.enf.get arm).seated = false ∧ s.seatConflicts arm (s.reachAfter t arm f)) := by
  have conflict := State.seatConflict_iff (x := s.computed t arm f) records arm
  rw [State.computed_reach] at conflict
  have enf : (s.computed t arm f).enf = s.enf := rfl
  cases seated : (s.enf.get arm).seated with
  | true => simp [State.gathers, State.seatingStage, enf, seated, Gathered.none]
  | false =>
    simp only [State.gathers, State.seatingStage, enf, seated, Bool.false_eq_true, if_false, Bool.not_false, true_and]
    exact conflict

theorem State.swept_covered (records : s.cells.length = 1024) (b : Option Block) : (s.swept t arm f).covered b arm = true ↔
    coveredIn (s.stagedCell arm (s.reachAfter t arm f)) b arm := by
  have length : (s.swept t arm f).cells.length = 1024 := State.staged_records records t arm f id
  rw [State.covered_iff length]
  exact coveredIn_congr (fun i hi => State.staged_cell (counter := id) records hi) b arm

/-! ## A fully evaluated frame -/

/-- R132: the shortfall cause is the lane's. -/
theorem State.shortfallKind_byLane (x : State) (arm : Arm) (p : PauseSet)
    (kind : (p.shortfall, p.starved) = x.shortfallKind arm) : shortfallByLane (x.lanes.get arm) p := by
  unfold State.shortfallKind at kind
  unfold shortfallByLane
  cases waiting : (x.lanes.get arm).waitingList <;> simp_all

/-- R132, R133: the run counter and the shortfall causes after the check of the sweep block. -/
theorem State.shortfallAfter_rule (x : State) (arm : Arm) (pr : Nat) (covered : Bool) (p : PauseSet)
    (after : (p.shortfall, p.starved) = x.shortfallAfter arm pr covered) :
    let e := x.enf.get arm
    let n := runAfter e.runCounter covered
    (covered = false → n = 0 ∧ shortfallByLane (x.lanes.get arm) p) ∧
      (covered = true → n = min 15 (e.runCounter + 1)) ∧
      (covered = true → pr ≤ n → p.shortfall = false ∧ p.starved = false) ∧
      (covered = true → n < pr →
        (e.pause.shortfall = true ∨ e.pause.starved = true → shortfallByLane (x.lanes.get arm) p) ∧
        (e.pause.shortfall = false ∧ e.pause.starved = false → p.shortfall = false ∧ p.starved = false)) := by
  dsimp only
  unfold State.shortfallAfter at after
  cases covered with
  | false => exact ⟨fun _ => ⟨rfl, x.shortfallKind_byLane arm p after⟩, nofun, nofun, nofun⟩
  | true =>
    refine ⟨nofun, fun _ => rfl, fun _ reached => ?_, fun _ below => ⟨fun short => ?_, fun ⟨h1, h2⟩ => ?_⟩⟩
    · simpa [reached] using after
    · refine x.shortfallKind_byLane arm p ?_
      simpa [Nat.not_le.mpr below, short] using after
    · simpa [Nat.not_le.mpr below, h1, h2] using after

/-- R129–R133: the record that the checks leave, before what they gathered is put in. -/
theorem State.checked_enf : (s.checked t arm f).enf.get arm =
    { (s.enf.get arm) with seated := true, runCounter := runAfter (s.enf.get arm).runCounter (s.ahead t arm f) } := by
  show ((s.swept t arm f).modEnf arm _).enf.get arm = _
  rw [State.modEnf_enf, Pair_get_modify_same, State.swept_enf, Pair_get_modify_same]

theorem State.countdown_causes (x : State) (arm : Arm) (gap : Option Nat) :
    (x.countdown arm gap).enf = x.enf ∧ (x.countdown arm gap).reach = x.reach := by
  have ended : ∀ (y : State) (k : Slot) (n : Nat), (y.writeRemaining arm k n).enf = y.enf ∧
      (y.writeRemaining arm k n).reach = y.reach := fun _ _ _ => ⟨rfl, rfl⟩
  unfold State.countdown
  split
  · split
    · dsimp only
      split
      · simp
      · exact ended _ _ _
    · exact ⟨rfl, rfl⟩
  · exact ⟨rfl, rfl⟩

/-- R126: the guard after a fully evaluated frame. -/
def State.evaluatedFully (s : State) (t : ZoneTable) (arm : Arm) (f : HeldFrame) (k : Nat) : State :=
  (((s.checked t arm f).countdown arm (some k)).applyGathered arm (s.gathers t arm f)).writeSnapshot arm

theorem exec_frameEvaluation_evaluatedFully {k : Nat} (full : s.fullFrame arm t f k) :
    exec (.frameEvaluation arm []) s = .next ((s.dropRequest (.evaluation arm)).evaluatedFully t arm f k) := by
  obtain ⟨due, -, table, held, steady, gap⟩ := full
  rw [exec_frameEvaluation_of_readyFor due table held, decide_eq_true steady, State.evaluationStages_of_checks gap]
  rfl

/-- R126, R129–R133: the causes after a fully evaluated frame. -/
theorem State.evaluatedFully_enf (s : State) (t : ZoneTable) (arm : Arm) (f : HeldFrame) (k : Nat) :
    (s.evaluatedFully t arm f k).enf = s.enf.set arm
      (({ (s.enf.get arm) with
          seated := true, runCounter := runAfter (s.enf.get arm).runCounter (s.ahead t arm f) } : Enforcement).gathered
        (s.gathers t arm f)) := by
  obtain ⟨enf, -, -, -, -⟩ := ((s.checked t arm f).countdown arm (some k)).evaluationEnd_become arm (s.gathers t arm f)
  obtain ⟨kept, -⟩ := (s.checked t arm f).countdown_causes arm (some k)
  have other : (s.checked t arm f).enf.get arm.other = s.enf.get arm.other := by
    show ((s.swept t arm f).modEnf arm _).enf.get arm.other = _
    rw [State.modEnf_enf, Pair_get_modify_other, State.swept_enf, Pair_get_modify_other]
  refine Pair_eq_set ?_ ?_
  · rw [State.evaluatedFully, enf, Pair_get_set_same, kept, State.checked_enf]
  · rw [State.evaluatedFully, enf, Pair_get_set_other, kept, other]

theorem State.evaluatedFully_reach (s : State) (t : ZoneTable) (arm : Arm) (f : HeldFrame) (k : Nat) :
    (s.evaluatedFully t arm f k).reach = s.reach.set arm (s.reachAfter t arm f) := by
  obtain ⟨-, -, -, -, reach⟩ := ((s.checked t arm f).countdown arm (some k)).evaluationEnd_become arm (s.gathers t arm f)
  obtain ⟨-, kept⟩ := (s.checked t arm f).countdown_causes arm (some k)
  have work := State.staged_evalWork (fun n => runAfter n (s.ahead t arm f)) s t arm f
  unfold State.EvalWork at work
  rw [State.evaluatedFully, reach, kept, State.checked, work, State.computed_eq]

/-- R92, R126: without a countdown the lane and the cells are those of the checks, and the flags those of the causes. -/
theorem State.evaluatedFully_idle {k : Nat} (records : s.cells.length = 1024) (none : s.noCountdown arm) :
    let u := s.evaluatedFully t arm f k
    u.lanes = s.lanes ∧ (∀ i < 1024, u.cell i = s.stagedCell arm (s.reachAfter t arm f) i) ∧
      s.portsAfter u arm (s.lineFlags u arm) [] := by
  obtain ⟨-, ports, lanes, other, pause, stop⟩ := s.staged_kept (fun n => runAfter n (s.ahead t arm f)) t arm f
  have idle : (s.checked t arm f).noCountdown arm := fun tr h => none tr (by
    simpa only [State.current, State.currentSlot, State.entry, State.checked, lanes] using h)
  have shown := (s.checked t arm f).evaluationEnd_become arm (s.gathers t arm f)
  dsimp only at shown ⊢
  rw [State.evaluatedFully, State.countdown_of_noCountdown idle]
  obtain ⟨-, flags, lanes', cells', -⟩ := shown
  refine ⟨lanes'.trans lanes, fun i hi => ?_, State.portsAfter_of_flagged (fs := []) (fun x => ?_) ?_ ?_ flags⟩
  · rw [← State.staged_cell (counter := fun n => runAfter n (s.ahead t arm f)) records hi, State.cell, cells']
    rfl
  · obtain rfl | rfl := Arm_eq_or_eq_other x arm
    · exact ⟨pause, stop⟩
    · exact ⟨congrArg _ other, congrArg _ other⟩
  · rw [State.checked, ports]
    simp
  · rw [State.checked, ports]

/-- R129–R133: what the stages gather, in terms of the records after seating and linger sweep. -/
theorem State.gathers_checks (records : s.cells.length = 1024) :
    let e := s.enf.get arm
    let r := s.reachAfter t arm f
    let g := s.gathers t arm f
    let ahead := coveredIn (s.stagedCell arm r) r.sweep arm
    let n := runAfter e.runCounter (s.ahead t arm f)
    let p := (e.gathered g).pause
    g.seated = !e.seated ∧ (g.conflict = true ↔ e.seated = false ∧ s.seatConflicts arm r) ∧
      (g.trespass = true ↔ ¬ coveredIn (s.stagedCell arm r) r.envelope arm) ∧
      (¬ ahead → n = 0 ∧ shortfallByLane (s.lanes.get arm) p) ∧
      (ahead → n = min 15 (e.runCounter + 1)) ∧
      (ahead → (t.arms.get arm).pr.toNat ≤ n → p.shortfall = false ∧ p.starved = false) ∧
      (ahead → n < (t.arms.get arm).pr.toNat →
        (e.pause.shortfall = true ∨ e.pause.starved = true → shortfallByLane (s.lanes.get arm) p) ∧
        (e.pause.shortfall = false ∧ e.pause.starved = false → p.shortfall = false ∧ p.starved = false)) := by
  dsimp only
  obtain ⟨seated, conflict⟩ := State.gathers_seating (t := t) (f := f) (arm := arm) records
  have enf : (s.swept t arm f).enf.get arm = { (s.enf.get arm) with seated := true } := by
    rw [State.swept_enf, Pair_get_modify_same]
  have ahead : s.ahead t arm f = true ↔
      coveredIn (s.stagedCell arm (s.reachAfter t arm f)) (s.reachAfter t arm f).sweep arm := by
    rw [State.ahead, State.swept_reach]
    exact State.swept_covered records _
  have free : (s.gathers t arm f).trespass = true ↔
      ¬ coveredIn (s.stagedCell arm (s.reachAfter t arm f)) (s.reachAfter t arm f).envelope arm := by
    rw [← State.swept_covered records, ← State.swept_reach]
    simp [State.gathers]
  have rule := (s.swept t arm f).shortfallAfter_rule arm (t.arms.get arm).pr.toNat (s.ahead t arm f)
    ((s.enf.get arm).gathered (s.gathers t arm f)).pause rfl
  dsimp only at rule
  rw [enf, State.swept_lanes] at rule
  obtain ⟨short, counts, ends, follows⟩ := rule
  have behind : ¬ coveredIn (s.stagedCell arm (s.reachAfter t arm f)) (s.reachAfter t arm f).sweep arm →
      s.ahead t arm f = false := fun uncovered => Bool.eq_false_iff.mpr fun h => uncovered (ahead.mp h)
  exact ⟨seated, conflict, free, fun uncovered => short (behind uncovered), fun covered => counts (ahead.mpr covered),
    fun covered => ends (ahead.mpr covered), fun covered => follows (ahead.mpr covered)⟩

end Sys2Proof.Machine

open Sys2Proof Sys2Proof.Machine

/-- Settles O24: the causes are those that the checks gather against the staged records; what an idle countdown leaves is shown
by the stages and, word by word, as for every countdown. -/
theorem steadyEvaluationChecksCoverage : Obligations.SteadyEvaluationChecksCoverage := by
  intro s arm t f k full
  have ran := exec_frameEvaluation_evaluatedFully full
  obtain ⟨due, records, -, -, -, -⟩ := id full
  have records' : (s.dropRequest (.evaluation arm)).cells.length = 1024 := records
  have enf := (s.dropRequest (.evaluation arm)).evaluatedFully_enf t arm f k
  have idle := State.evaluatedFully_idle (t := t) (f := f) (k := k) (arm := arm) records'
  dsimp only at idle ⊢
  refine ⟨_, ran, State.evaluatedFully_reach _ t arm f k, ?_, fun none => ?_, ?_⟩
  · rw [enf, Pair_get_set_other]
    rfl
  · obtain ⟨lanes, cells, flags⟩ := idle none
    refine ⟨lanes, cells, flags, fun wf => ?_⟩
    obtain ⟨m, counting, stages⟩ := exec_frameEvaluation_of_full full
    have idle' : m.noCountdown arm := fun tr h => none tr (by
      simpa only [State.current, State.currentSlot, State.entry, counting.lanes] using h)
    obtain ⟨u, ran', shown⟩ := stages m (State.countdown_of_noCountdown idle') ((congrArg Memory.wf counting.mem).trans wf)
    cases Host.Outcome.next.inj (ran'.symm.trans ran)
    exact ⟨counting.evaluated shown (State.SlotWork.refl m arm 0), counting.wordsKept shown (l := []) (fun _ _ => rfl) (by simp)⟩
  · have order : (s.enf.get arm).snapshotOrdered = false := by
      obtain ⟨-, a, b⟩ := due
      cases arm <;> assumption
    have e : ((s.dropRequest (.evaluation arm)).enf.get arm) = s.enf.get arm := rfl
    have checks := (s.dropRequest (.evaluation arm)).gathers_checks records' (t := t) (arm := arm) (f := f)
    rw [enf, Pair_get_set_same]
    obtain ⟨seated, conflict, free, short⟩ := checks
    refine ⟨rfl, ?_, ?_, ?_, ?_, rfl, order, short⟩
    · exact (Bool.or_eq_true _ _).to_iff.trans (or_congr Iff.rfl free)
    · exact (Bool.or_eq_true _ _).to_iff.trans (or_congr Iff.rfl conflict)
    · rw [e] at seated ⊢
      simp [Enforcement.gathered, seated]
    · simp only [Enforcement.gathered, Bool.or_eq_true, free, conflict, or_assoc]
      rfl
end

section
/-! SUPPORT. R126, R129, R130: the frame that seats an arm and carries the first-frame mark, which no later stage checks. -/

namespace Sys2Proof.Machine
variable {s : State} {t : ZoneTable} {arm : Arm} {f : HeldFrame}

/-- R129, R130: what the seating of a marked frame gathers. -/
def State.seatingOf (s : State) (arm : Arm) : Gathered := { Gathered.none with seated := true, conflict := s.seatConflict arm }

/-- R126: the guard after a frame with the first-frame mark that seats the arm. -/
def State.seatedMarked (s : State) (t : ZoneTable) (arm : Arm) (f : HeldFrame) : State :=
  (((s.computed t arm f).seat arm).applyGathered arm ((s.computed t arm f).seatingOf arm)).writeSnapshot arm

theorem State.evaluationStages_of_markedSeating (gap : f.gap = none) (unseated : (s.enf.get arm).seated = false) :
    s.evaluationStages [] t arm f true = s.seatedMarked t arm f := by
  have computed : (s.takeFrame arm f).arithmetic t arm f = s.computed t arm f := rfl
  have enf : (s.computed t arm f).enf = s.enf := rfl
  unfold State.evaluationStages
  simp only [State.arriveAt_nil, State.arriveBetween_nil, computed, gap, Option.isSome_none, if_true, Bool.false_eq_true,
    if_false, State.seatingStage, enf, unseated]
  rfl

/-- R129: stage 2 touches the cells, the tallies and the arm's seated mark. -/
theorem State.seat_frame (x : State) (arm : Arm) : (x.seat arm).mem = x.mem ∧ (x.seat arm).ports = x.ports ∧
    (x.seat arm).lanes = x.lanes ∧ (x.seat arm).enf = x.enf.set arm { (x.enf.get arm) with seated := true } :=
  ⟨rfl, rfl, rfl, rfl⟩

theorem State.seat_evalWork (x : State) (arm : Arm) : x.EvalWork (x.seat arm) :=
  (x.putCells_evalWork _).trans (State.modEnf_evalWork _ arm _)

/-- R42, R129: what the arithmetic and stage 2 leave of the other parts. -/
theorem State.computedSeat_frame (s : State) (t : ZoneTable) (arm : Arm) (f : HeldFrame) :
    let m := (s.computed t arm f).seat arm
    m.mem = s.mem ∧ m.ports = s.ports ∧ m.lanes = s.lanes ∧ m.enf = s.enf.set arm { (s.enf.get arm) with seated := true } :=
  (s.computed t arm f).seat_frame arm

theorem State.seatedMarked_enf : (s.seatedMarked t arm f).enf = s.enf.set arm
    (({ (s.enf.get arm) with seated := true } : Enforcement).gathered ((s.computed t arm f).seatingOf arm)) := by
  obtain ⟨enf, -, -, -, -⟩ := ((s.computed t arm f).seat arm).evaluationEnd_become arm ((s.computed t arm f).seatingOf arm)
  have seat : ((s.computed t arm f).seat arm).enf = s.enf.set arm { (s.enf.get arm) with seated := true } := rfl
  rw [State.seatedMarked, enf, seat, Pair_get_set_same]
  exact Pair_eq_set (by simp) (by simp)

/-- R130: the seating finds the conflicts of the arm's envelope. -/
theorem State.seatingOf_conflict (records : s.cells.length = 1024) :
    ((s.computed t arm f).seatingOf arm).conflict = true ↔ s.seatConflicts arm (s.reachAfter t arm f) := by
  have conflict := State.seatConflict_iff (x := s.computed t arm f) records arm
  rwa [State.computed_reach] at conflict

/-- R129: the free cells of the envelope are taken. -/
theorem State.seatedMarked_cell (records : s.cells.length = 1024) {i : Nat} (hi : i < 1024) : (s.seatedMarked t arm f).cell i =
    if s.seatTakes (s.reachAfter t arm f) i then ⟨some arm, 0, true⟩ else s.cell i := by
  obtain ⟨-, -, -, cells, -⟩ := ((s.computed t arm f).seat arm).evaluationEnd_become arm ((s.computed t arm f).seatingOf arm)
  have length : (s.computed t arm f).cells.length = 1024 := records
  have taboo : (s.computed t arm f).seatExcluded i = false ↔ ¬ s.taboo i := State.seatExcluded_iff _ i
  have cell : (s.computed t arm f).cell i = s.cell i := rfl
  rw [State.cell, State.seatedMarked, cells]
  show ((s.computed t arm f).seize arm (s.computed t arm f).seatExcluded).cell i = _
  rw [State.seize_cell _ arm _ (length ▸ hi), seizeCell_eq, State.computed_reach, cell]
  refine if_congr ?_ rfl rfl
  rw [taboo]
  tauto

/-- R126, R127: the frame and the words of an evaluation whose stages before the last two write nothing and keep the lanes. -/
theorem State.Shown.evaluated {m u : State} (work : ((s.dropRequest (.evaluation arm)).computed t arm f).EvalWork m)
    (mem : m.mem = s.mem) (lanes : m.lanes = s.lanes) (other : m.enf.get arm.other = s.enf.get arm.other)
    (shown : m.Shown u arm) : s.evaluated arm t f u ∧ s.wordsKept u (0x004 :: offsets (snapshotBase arm) 22) := by
  refine ⟨⟨?_, shown.other.trans other, by rw [shown.lanes, lanes], shown.status⟩, fun a ha => (shown.words a ha).trans ?_⟩
  · have evaluation := work.trans shown.work
    unfold State.EvalWork at evaluation
    rw [State.computed_eq] at evaluation
    exact evaluation
  · rw [State.word, mem]
    rfl

theorem State.seatedMarked_shown (wf : s.memoryOk) : let u := (s.dropRequest (.evaluation arm)).seatedMarked t arm f
    s.evaluated arm t f u ∧ s.wordsKept u (0x004 :: offsets (snapshotBase arm) 22) := by
  obtain ⟨mem, -, lanes, enf⟩ := (s.dropRequest (.evaluation arm)).computedSeat_frame t arm f
  have other : (((s.dropRequest (.evaluation arm)).computed t arm f).seat arm).enf.get arm.other = s.enf.get arm.other := by
    rw [enf, Pair_get_set_other]
    rfl
  exact State.Shown.evaluated (State.seat_evalWork _ arm) mem lanes other
    (State.applyGathered_shown ((congrArg Memory.wf mem).trans wf) arm _)

theorem State.seatedMarked_lanes : (s.seatedMarked t arm f).lanes = s.lanes := by
  obtain ⟨-, -, lanes, -⟩ := ((s.computed t arm f).seat arm).evaluationEnd_become arm ((s.computed t arm f).seatingOf arm)
  exact lanes

theorem State.seatedMarked_ports : s.portsAfter (s.seatedMarked t arm f) arm (s.lineFlags (s.seatedMarked t arm f) arm) [] := by
  obtain ⟨-, flags, -⟩ := ((s.computed t arm f).seat arm).evaluationEnd_become arm ((s.computed t arm f).seatingOf arm)
  obtain ⟨-, ports, -, enf⟩ := s.computedSeat_frame t arm f
  refine State.portsAfter_of_flagged (fs := []) (fun x => ?_) ?_ ?_ flags
  · rw [enf]
    obtain rfl | rfl := Arm_eq_or_eq_other x arm <;> simp
  · rw [ports]
    simp
  · rw [ports]

/-- R129, R130: the causes of an arm that is seated, whether or not later stages check the frame. -/
theorem Enforcement.gathered_seated (e : Enforcement) (g : Gathered) (n : Nat) (seated : g.seated = true) :
    let m := ({ e with seated := true, runCounter := n } : Enforcement).gathered g
    m.seated = true ∧ m.pause.unseated = false ∧
      (m.stop.seatConflict = true ↔ e.stop.seatConflict = true ∨ g.conflict = true) := by
  simp [Enforcement.gathered, seated]

end Sys2Proof.Machine

open Sys2Proof Sys2Proof.Machine

/-- Settles O26: a frame that later stages check leaves the causes of SteadyEvaluationChecksCoverage; one with the first-frame
mark, those that the seating alone gathers. -/
theorem seatingTakesTheFreeEnvelope : Obligations.SeatingTakesTheFreeEnvelope := by
  intro s arm t f due records table held steady unseated
  dsimp only
  have records' : (s.dropRequest (.evaluation arm)).cells.length = 1024 := records
  cases gap : f.gap with
  | some k =>
    have full : s.fullFrame arm t f k := ⟨due, records, table, held, steady, gap⟩
    obtain ⟨gathered, conflict, -⟩ := State.gathers_checks records' (t := t) (arm := arm) (f := f)
    have e : (s.dropRequest (.evaluation arm)).enf.get arm = s.enf.get arm := rfl
    obtain ⟨seated, without, conflicts⟩ := ((s.enf.get arm).gathered_seated _ _
      (gathered.trans (by rw [e, unseated]; rfl)))
    refine ⟨_, exec_frameEvaluation_evaluatedFully full, ?_, ?_, ?_, nofun⟩
    all_goals rw [State.evaluatedFully_enf, Pair_get_set_same]
    · exact seated
    · exact without
    · exact conflicts.trans (or_congr Iff.rfl (conflict.trans (and_iff_right unseated)))
  | none =>
    have ran := exec_frameEvaluation_of_readyFor due table held
    rw [decide_eq_true steady, State.evaluationStages_of_markedSeating gap (by exact unseated)] at ran
    obtain ⟨seated, without, conflicts⟩ := (s.enf.get arm).gathered_seated
      (((s.dropRequest (.evaluation arm)).computed t arm f).seatingOf arm) (s.enf.get arm).runCounter rfl
    have lanes := (s.dropRequest (.evaluation arm)).seatedMarked_lanes (t := t) (arm := arm) (f := f)
    have ports := (s.dropRequest (.evaluation arm)).seatedMarked_ports (t := t) (arm := arm) (f := f)
    have cell := fun i hi => (s.dropRequest (.evaluation arm)).seatedMarked_cell (t := t) (arm := arm) (f := f) (i := i) records' hi
    have enf := (s.dropRequest (.evaluation arm)).seatedMarked_enf (t := t) (arm := arm) (f := f)
    have shown := fun wf : s.memoryOk => State.seatedMarked_shown (t := t) (arm := arm) (f := f) wf
    have conflict := (s.dropRequest (.evaluation arm)).seatingOf_conflict (t := t) (arm := arm) (f := f) records'
    generalize (s.dropRequest (.evaluation arm)).seatedMarked t arm f = u at *
    have record : u.enf.get arm = ({ (s.enf.get arm) with seated := true } : Enforcement).gathered
        (((s.dropRequest (.evaluation arm)).computed t arm f).seatingOf arm) := by
      rw [enf, Pair_get_set_same]
      rfl
    have other : u.enf.get arm.other = s.enf.get arm.other := by
      rw [enf, Pair_get_set_other]
      rfl
    refine ⟨u, ran, ?_⟩
    rw [record]
    refine ⟨seated, without, conflicts.trans (or_congr Iff.rfl conflict), fun _ => ⟨fun i hi => ?_, fun wf => (shown wf).1,
      lanes, ?_, ?_, ?_, rfl, other, ports, fun wf => (shown wf).2⟩⟩
    · exact ⟨fun takes => (cell i hi).trans (if_pos takes), fun stays => (cell i hi).trans (if_neg stays)⟩
    · simp [Enforcement.gathered, State.seatingOf, Gathered.none]
    · simp [Enforcement.gathered, State.seatingOf, Gathered.none]
    · exact (Bool.or_eq_true _ _).to_iff.trans (or_congr (by simp [State.seatingOf, Gathered.none]) conflict)
end

section
/-! SUPPORT. What the commands of a service read and change: neither the requests that wait, nor the commands accepted, nor the
install record (R128, R137, R138, R164). -/

namespace Sys2Proof.Machine
variable (s o : State)

/-- The state with the requests that wait, the accepted commands and the install record of another. -/
def State.aside : State := { s with waiting := o.waiting, accepted := o.accepted, install := o.install }

/-! ## Causes and snapshots -/

theorem State.writeWord_aside (a : Nat) (v : Word) : (s.aside o).writeWord a v = (s.writeWord a v).aside o := rfl

theorem State.writeWords_aside (a : Nat) (vs : List Word) : (s.aside o).writeWords a vs = (s.writeWords a vs).aside o := rfl

theorem State.modEnf_aside (arm : Arm) (g : Enforcement → Enforcement) : (s.aside o).modEnf arm g = (s.modEnf arm g).aside o := rfl

theorem State.modLane_aside (arm : Arm) (g : Lane → Lane) : (s.aside o).modLane arm g = (s.modLane arm g).aside o := rfl

theorem State.raise_aside (f : Flag) (p : Port) : (s.aside o).raise f p = (s.raise f p).aside o := rfl

theorem State.raiseIf_aside (b : Bool) (f : Flag) (p : Port) : (s.aside o).raiseIf b f p = (s.raiseIf b f p).aside o := by
  cases b <;> rfl

theorem State.raiseSnapshotCount_aside (arm : Arm) : (s.aside o).raiseSnapshotCount arm = (s.raiseSnapshotCount arm).aside o := rfl

theorem State.causeWords_aside (arm : Arm) : (s.aside o).causeWords arm = s.causeWords arm := rfl

theorem State.tallyWords_aside (arm : Arm) : (s.aside o).tallyWords arm = s.tallyWords arm := rfl

theorem State.eventTraverseWords_aside (arm : Arm) (b : Bool) :
    (s.aside o).eventTraverseWords arm b = s.eventTraverseWords arm b := rfl

theorem State.word_aside (a : Nat) : (s.aside o).word a = s.word a := rfl

theorem State.feeds_aside : (s.aside o).feeds = s.feeds := rfl

theorem State.enf_aside : (s.aside o).enf = s.enf := rfl

theorem State.entry_aside (arm : Arm) (k : Slot) : (s.aside o).entry arm k = s.entry arm k := rfl

theorem State.writeEventSnapshot_aside (arm : Arm) (b : Bool) :
    (s.aside o).writeEventSnapshot arm b = (s.writeEventSnapshot arm b).aside o := by
  unfold State.writeEventSnapshot
  simp only [State.raiseSnapshotCount_aside, State.word_aside, State.feeds_aside, State.enf_aside, State.causeWords_aside,
    State.writeWords_aside, State.eventTraverseWords_aside, State.tallyWords_aside]

theorem State.flushSnapshot_aside (arm : Arm) : (s.aside o).flushSnapshot arm = (s.flushSnapshot arm).aside o := by
  unfold State.flushSnapshot
  rw [State.enf_aside, State.modEnf_aside, State.writeEventSnapshot_aside]
  split <;> rfl

theorem State.noteConditions_aside (w : Word) : (s.aside o).noteConditions w = (s.noteConditions w).aside o := by
  unfold State.noteConditions
  rw [show (s.aside o).guardConditions = s.guardConditions from rfl]
  split <;> rfl

theorem State.setCauses_aside (arm : Arm) (p : PauseSet) (q : StopSet) :
    (s.aside o).setCauses arm p q = (s.setCauses arm p q).aside o := by
  have status : ∀ x : State, (x.aside o).writeStatus = x.writeStatus.aside o := fun _ => rfl
  have conditions : (s.aside o).guardConditions = s.guardConditions := rfl
  unfold State.setCauses
  simp only [State.enf_aside, State.modEnf_aside, conditions, State.noteConditions_aside, State.raiseIf_aside, status]

/-! ## CLEAR_STOP (R137, R138, R162) -/

theorem State.writeMailResult_aside (p : Port) (r : MailResult) (x : Option HeldReason) (tag : Byte) :
    (s.aside o).writeMailResult p r x tag = (s.writeMailResult p r x tag).aside o := by
  unfold State.writeMailResult
  simp only [State.writeWord_aside, State.raise_aside]

theorem State.clearStop_aside (arm : Arm) : (s.aside o).clearStop arm = (s.clearStop arm).aside o := by
  have seize : (s.aside o).seize arm (fun _ => false) = (s.seize arm (fun _ => false)).aside o := rfl
  unfold State.clearStop
  simp only [seize, State.enf_aside, State.setCauses_aside, State.writeEventSnapshot_aside]

theorem State.carryClear_aside (c : Accepted) (arm : Arm) : (s.aside o).carryClear c arm = (s.carryClear c arm).aside o := by
  unfold State.carryClear
  rw [show (s.aside o).stopHeld arm = s.stopHeld arm from rfl]
  split
  · exact s.writeMailResult_aside o _ _ _ _
  · rw [State.clearStop_aside, State.writeMailResult_aside]

/-! ## RESTART_LANE (R95) -/

theorem State.writeSlotState_aside (arm : Arm) (k : Slot) (st : SlotState) :
    (s.aside o).writeSlotState arm k st = (s.writeSlotState arm k st).aside o :=
  State.raiseIf_aside ((s.setEntry arm k { (s.entry arm k) with state := st }).writeWord (slotBase arm k + 10)
    (putBits (s.word (slotBase arm k + 10)) 0 3 st.code)) o _ _ _

theorem State.releaseTraverse_aside (arm : Arm) (tr : Option Traverse) :
    (s.aside o).releaseTraverse arm tr = (s.releaseTraverse arm tr).aside o := by
  unfold State.releaseTraverse
  rw [show (s.aside o).active = s.active from rfl]
  generalize s.active = table
  cases table <;> cases tr <;> rfl

theorem State.writeResult_aside (arm : Arm) (k : Slot) (r : SlotResult) (x : Option SlotReason) :
    (s.aside o).writeResult arm k r x = (s.writeResult arm k r x).aside o := by
  unfold State.writeResult
  simp only [State.writeWord_aside, State.raise_aside]

theorem State.withdrawSlot_aside (arm : Arm) (k : Slot) : (s.aside o).withdrawSlot arm k = (s.withdrawSlot arm k).aside o := by
  unfold State.withdrawSlot State.endWaiting State.dropWaiting State.writeBlocker
  simp only [State.writeSlotState_aside, State.modLane_aside, State.word_aside, State.writeWord_aside, State.writeResult_aside]

theorem State.releaseSlot_aside (arm : Arm) (k : Slot) : (s.aside o).releaseSlot arm k = (s.releaseSlot arm k).aside o := by
  unfold State.releaseSlot State.endGranted State.dropGranted
  simp only [State.writeSlotState_aside, State.modLane_aside, State.entry_aside, State.releaseTraverse_aside,
    State.writeResult_aside]

theorem State.absorbSlot_aside (arm : Arm) (k : Slot) : (s.aside o).absorbSlot arm k = (s.absorbSlot arm k).aside o := by
  unfold State.absorbSlot
  simp only [State.word_aside, State.writeResult_aside, State.writeTag, State.writeWord_aside]
  split <;> rfl

/-- A run of works, each of which leaves these parts aside. -/
theorem foldl_aside {f : State → Slot → State} (work : ∀ x k, f (x.aside o) k = (f x k).aside o) (l : List Slot) :
    l.foldl f (s.aside o) = (l.foldl f s).aside o := by
  induction l generalizing s with
  | nil => rfl
  | cons k l ih => rw [List.foldl_cons, List.foldl_cons, work, ih]

theorem State.restartLane_aside (point point' : Nat) (arm : Arm) :
    (s.aside o).restartLane [] point arm = (s.restartLane [] point' arm).aside o := by
  have lanes : (s.aside o).lanes = s.lanes := rfl
  have withdraw := fun (x : State) l =>
    foldl_aside x o (f := fun x k => x.withdrawSlot arm k) (fun x k => x.withdrawSlot_aside o arm k) l
  have release := fun (x : State) l =>
    foldl_aside x o (f := fun x k => x.releaseSlot arm k) (fun x k => x.releaseSlot_aside o arm k) l
  have absorb := fun (x : State) l =>
    foldl_aside x o (f := fun x k => x.absorbSlot arm k) (fun x k => x.absorbSlot_aside o arm k) l
  simp only [State.restartLane_nil, State.endLane, lanes, withdraw, release, State.modLane_aside, absorb, State.raise_aside]

/-! ## The commands of a service (R164) -/

/-- R164: a command with no event between its points does the same from any of them, whatever else is aside. -/
theorem State.carryOut_aside (point point' : Nat) (c : Accepted) :
    (s.aside o).carryOut [] point c = (s.carryOut [] point' c).aside o := by
  unfold State.carryOut
  cases c.command with
  | clearStop arm => exact s.carryClear_aside o c arm
  | restartLane arm =>
    simp only [State.arriveBetween_nil, s.restartLane_aside o point point' arm, State.writeMailResult_aside]

end Sys2Proof.Machine
end

section
/-! SUPPORT. R70, R72, R128: the arbiter's queue and the ordered snapshot writes before a service. -/

namespace Sys2Proof.Machine
variable (s : State)

/-! ## The queue of requests (R69, R70) -/

theorem State.servable_iff (r : Request) : s.servable r = true ↔ ∃ group later, s.waiting = group :: later ∧ r ∈ group := by
  unfold State.servable
  cases s.waiting with
  | nil => simp
  | cons group later => simp

theorem State.dropRequest_flatten (r : Request) :
    (s.dropRequest r).waiting.flatten = s.waiting.flatten.filter (fun q => q != r) := by
  show ((s.waiting.map _).filter _).flatten = _
  rw [List.flatten_filter_not_isEmpty, List.filter_flatten]

theorem State.requestTogether_flatten (rs : List Request) : (s.requestTogether rs).waiting.flatten = s.waiting.flatten ++ rs := by
  unfold State.requestTogether
  cases rs with
  | nil => simp
  | cons r rs => simp [State.setWaiting]

/-! ## The ordered snapshot writes (R128) -/

theorem State.flushSnapshot_setWaiting (v : List (List Request)) (arm : Arm) :
    (s.setWaiting v).flushSnapshot arm = (s.flushSnapshot arm).setWaiting v := by
  have flushed := s.flushSnapshot_aside (s.setWaiting v) arm
  have same : (s.flushSnapshot arm).aside (s.setWaiting v) = (s.flushSnapshot arm).setWaiting v := by
    simp [State.aside, State.setWaiting]
  rw [← same, ← flushed]
  rfl

/-- R128: a write takes its own order out, and leaves the other arm's record. -/
theorem State.flushSnapshot_enf (arm : Arm) :
    (s.flushSnapshot arm).enf = s.enf.modify arm (fun e => { e with snapshotOrdered := false }) := by
  unfold State.flushSnapshot
  split
  · obtain ⟨m, written⟩ := (s.modEnf arm (fun e => { e with snapshotOrdered := false })).writeEventSnapshot_memory arm false
    rw [written]
    rfl
  · rename_i unordered
    refine (Pair_modify_eq_self ?_).symm
    rw [← Bool.eq_false_iff.mpr unordered]

/-- R128: the guard once the ordered writes of both arms have been made. -/
def State.flushed : State := (s.flushSnapshot .a).flushSnapshot .b

theorem State.flushed_waiting : s.flushed.waiting = s.waiting := by simp [State.flushed]

theorem State.flushed_dropRequest (r : Request) : (s.dropRequest r).flushed = s.flushed.dropRequest r := by
  simp only [State.flushed, State.dropRequest, State.flushSnapshot_setWaiting, State.flushSnapshot_waiting]

theorem State.flushed_unordered (arm : Arm) : (s.flushed.enf.get arm).snapshotOrdered = false := by
  cases arm <;> simp [State.flushed, State.flushSnapshot_enf, Pair.modify, Pair.get, Pair.set]

theorem State.flushed_flushed : s.flushed.flushed = s.flushed := by
  have first := State.flushSnapshot_of_notOrdered (s.flushed_unordered .a)
  have second := State.flushSnapshot_of_notOrdered (s.flushed_unordered .b)
  rw [State.flushed, first, second]

theorem State.serve_flushed (r : Request) (body : State → State) (due : s.servable r = true) :
    s.flushed.serve r body = s.serve r body := by
  have due' : s.flushed.servable r = true := by rwa [State.servable, State.flushed_waiting]
  have served : ∀ x : State, x.servable r = true → x.serve r body = body (x.dropRequest r).flushed := fun x h => if_pos h
  rw [served _ due, served _ due', State.flushed_dropRequest, State.flushed_flushed, State.flushed_dropRequest]

/-- The commands of the four services (R69), each with the request that it serves. -/
theorem exec_of_request {during : List Arrival} {c : Instr} {r : Request}
    (service : (∃ arm, r = .evaluation arm ∧ c = .frameEvaluation arm during) ∨
      (r = .configuration ∧ c = .configurationService during) ∨
      (r = .refillTest ∧ c = .refillTest) ∨ (r = .grantPhase ∧ c = .surveyGrantPhase during)) :
    ∃ body, ∀ x : State, exec c x = .next (x.serve r body) := by
  obtain ⟨arm, rfl, rfl⟩ | ⟨rfl, rfl⟩ | ⟨rfl, rfl⟩ | ⟨rfl, rfl⟩ := service
  · exact ⟨_, fun x => rfl⟩
  · exact ⟨_, fun x => rfl⟩
  · exact ⟨_, fun x => rfl⟩
  · exact ⟨_, fun x => rfl⟩

end Sys2Proof.Machine

open Sys2Proof Sys2Proof.Machine

/-- Settles O16: every service goes through `serve`, which makes the ordered writes itself; made before, they are not made again. -/
theorem orderedSnapshotsPrecedeEveryService : Obligations.OrderedSnapshotsPrecedeEveryService := by
  intro s during c r service
  obtain ⟨body, runs⟩ := exec_of_request service
  refine ⟨s.servable_iff r, fun due => ⟨_, _, _, rfl, rfl, runs s, ?_⟩, fun idle => ?_, s.dropRequest_flatten r,
    s.requestTogether_flatten⟩
  · rw [← s.serve_flushed r body due]
    exact runs _
  · rw [runs, State.serve, idle]
    rfl
end

section
/-! SUPPORT. R137, R138, R162, R164: the service's commands in order, and a CLEAR_STOP among them. -/

namespace Sys2Proof.Machine
variable (s : State)

/-! ## CLEAR_STOP carried out (R138) -/

/-- R138: the unowned envelope cells seized and the causes taken out, before the snapshot write. -/
def State.stopCleared (arm : Arm) : State :=
  (s.seize arm (fun _ => false)).setCauses arm { (s.enf.get arm).pause with stopped := false }
    { (s.enf.get arm).stop with trespass := false, feedLoss := false, seatConflict := false }

theorem State.clearStop_eq (arm : Arm) : s.clearStop arm = (s.stopCleared arm).writeEventSnapshot arm false := rfl

/-- R138: the arm's record without the causes. -/
def Enforcement.cleared (e : Enforcement) : Enforcement :=
  { e with
    pause := { e.pause with stopped := false }
    stop := { e.stop with trespass := false, feedLoss := false, seatConflict := false } }

theorem State.stopCleared_become (arm : Arm) : (s.seize arm (fun _ => false)).CausesBecome (s.stopCleared arm) arm
    (s.enf.get arm).cleared [] := (s.seize arm (fun _ => false)).setCauses_become arm _ _

theorem State.clearStop_enf (arm : Arm) : (s.clearStop arm).enf = s.enf.set arm (s.enf.get arm).cleared := by
  obtain ⟨m, written⟩ := (s.stopCleared arm).writeEventSnapshot_memory arm false
  rw [State.clearStop_eq, written]
  exact (s.stopCleared_become arm).enf

/-! ## The commands of a service, one after the other (R164) -/

/-- R128: no command of a service orders a snapshot write. -/
theorem State.carryOut_snapshotOrdered (c : Accepted) (arm : Arm) :
    ((s.carryOut [] 0 c).enf.get arm).snapshotOrdered = (s.enf.get arm).snapshotOrdered := by
  unfold State.carryOut
  cases c.command with
  | restartLane x =>
    show (((s.restartLane [] 0 x).writeMailResult c.port .done none c.tag).enf.get arm).snapshotOrdered = _
    rw [State.writeMailResult_enf, (s.restartLane_run 0 x).frame]
  | clearStop x =>
    show ((s.carryClear c x).enf.get arm).snapshotOrdered = _
    unfold State.carryClear
    split
    · rw [State.writeMailResult_enf]
    · rw [State.writeMailResult_enf, State.clearStop_enf]
      obtain rfl | rfl := Arm_eq_or_eq_other arm x
      · rw [Pair_get_set_same]
        rfl
      · rw [Pair_get_set_other]

/-- R164: with no event between them, the points do not matter. -/
theorem State.carryOut_point (point : Nat) (c : Accepted) : s.carryOut [] point c = s.carryOut [] 0 c := by
  have same : s.aside s = s := rfl
  have here := s.carryOut_aside s point 0 c
  have there := s.carryOut_aside s 0 0 c
  rw [same] at here there
  exact here.trans there.symm

theorem carryOutAll_nil (point : Nat) (l : List Accepted) (x : State) :
    carryOutAll [] point l x = l.foldl (fun x c => x.carryOut [] 0 c) x := by
  induction l generalizing point x with
  | nil => rfl
  | cons c l ih =>
    rw [carryOutAll, ih, List.foldl_cons]
    rw [State.carryOut_point]

/-- R102, R164: the commands carried out from a state whose request has been taken out, the gate test, and the grant phase. -/
def State.serviceRun (l : List Accepted) : State :=
  ((l.foldl (fun x c => x.carryOut [] 0 c) ((s.dropRequest .configuration).setAccepted [])).testGate).requestTogether [.grantPhase]

theorem exec_configurationService_of_readyFor (ready : s.readyFor .configuration) :
    exec (.configurationService []) s = .next (s.serviceRun s.accepted) := by
  refine congrArg Host.Outcome.next ((State.serve_of_readyFor ready _).trans ?_)
  unfold State.configurationBody
  rw [carryOutAll_nil]
  rfl

theorem State.testGate_of_none {x : State} (none : x.install.pendingTable = none) : x.testGate = x := by
  rw [State.testGate, none]

/-- R164: with no install pending, one command leaves what it does, the rest aside. -/
theorem State.serviceRun_one (c : Accepted) (none : s.install.pendingTable = none) : s.serviceRun [c] =
    { (s.carryOut [] 0 c) with
      waiting := (s.dropRequest .configuration).waiting ++ [[.grantPhase]], accepted := [], install := s.install } := by
  have run : ((s.dropRequest .configuration).setAccepted []).carryOut [] 0 c = _ :=
    s.carryOut_aside ((s.dropRequest .configuration).setAccepted []) 0 0 c
  unfold State.serviceRun
  rw [List.foldl_cons, List.foldl_nil, run,
    State.testGate_of_none (x := (s.carryOut [] 0 c).aside ((s.dropRequest .configuration).setAccepted [])) none]
  rfl

/-- The state with one accepted command and no pending install. -/
def State.alone (c : Accepted) : State := { s with accepted := [c], install := { s.install with pendingTable := none } }

/-- R164: the front command is carried out as a service of it alone carries it out. -/
theorem exec_configurationService_front {c : Accepted} {rest : List Accepted} (ready : s.readyFor .configuration)
    (accepted : s.accepted = c :: rest) : ∃ u, exec (.configurationService []) (s.alone c) = .next u ∧
      exec (.configurationService []) s =
        exec (.configurationService []) { u with accepted := rest, install := s.install, waiting := s.waiting } := by
  have front : (s.alone c).carryOut [] 0 c = (s.carryOut [] 0 c).aside (s.alone c) := s.carryOut_aside (s.alone c) 0 0 c
  have first : exec (.configurationService []) (s.alone c) = .next ((s.alone c).serviceRun [c]) :=
    exec_configurationService_of_readyFor (s.alone c) ready
  refine ⟨_, first, ?_⟩
  rw [(s.alone c).serviceRun_one c rfl, front]
  have ready' : ((s.carryOut [] 0 c).aside (s.setAccepted rest)).readyFor .configuration := by
    obtain ⟨due, a, b⟩ := ready
    exact ⟨due, (s.carryOut_snapshotOrdered c .a).trans a, (s.carryOut_snapshotOrdered c .b).trans b⟩
  have later := exec_configurationService_of_readyFor _ ready'
  refine (exec_configurationService_of_readyFor s ready).trans (Eq.trans ?_ later.symm)
  have run : ((s.dropRequest .configuration).setAccepted []).carryOut [] 0 c = _ :=
    s.carryOut_aside ((s.dropRequest .configuration).setAccepted []) 0 0 c
  rw [accepted]
  unfold State.serviceRun
  rw [List.foldl_cons, run]
  rfl

/-! ## What refuses a CLEAR_STOP (R137) -/

/-- R137: the rule's conditions, in its order. -/
theorem State.stopHeld_rule (arm : Arm) (records : s.cells.length = 1024) : heldRule s arm (s.stopHeld arm) := by
  have others : s.blockMeets (s.reach.get arm).envelope arm.other = true ↔
      ∃ i < 1024, blockHas (s.reach.get arm).envelope i = true ∧ (s.cell i).owner = some arm.other := by
    simp only [State.blockMeets, State.anyCell_iff records, Bool.and_eq_true, Cell.ownedBy, decide_eq_true_eq]
  have meets : ∀ inSet : Nat → Bool, s.blockMeetsSet (s.reach.get arm).envelope inSet = true ↔
      ∃ i < 1024, blockHas (s.reach.get arm).envelope i = true ∧ inSet i = true := fun inSet => by
    simp only [State.blockMeetsSet, State.anyCell_iff records, Bool.and_eq_true]
  unfold heldRule State.stopHeld
  simp only [← others, ← meets, State.refillFence, decide_eq_true_eq]
  refine ⟨fun feed => if_pos feed, fun steady other => ?_, fun steady free fenced => ?_, fun steady free unfenced refill => ?_,
    fun steady free unfenced clear => ?_⟩
  · rw [if_neg steady, if_pos other]
  · rw [if_neg steady, if_neg free, if_pos fenced]
  · rw [if_neg steady, if_neg free, if_neg unfenced, if_pos refill]
  · rw [if_neg steady, if_neg free, if_neg unfenced, if_neg clear]

/-! ## A service whose one command is a CLEAR_STOP (R138, R162) -/

variable {s} {arm : Arm} {p : Port} {tag : Byte}

/-- R102, R164: the state of a service with no install pending, after its command has left `y`. -/
def State.afterService (s y : State) : State :=
  { y with waiting := (s.dropRequest .configuration).waiting ++ [[.grantPhase]], accepted := [], install := s.install }

theorem exec_configurationService_clearStop (due : s.serviceOf ⟨p, tag, .clearStop arm⟩) :
    exec (.configurationService []) s = .next (s.afterService (s.carryClear ⟨p, tag, .clearStop arm⟩ arm)) := by
  obtain ⟨ready, -, -, pending, accepted⟩ := due
  rw [exec_configurationService_of_readyFor s ready, accepted, s.serviceRun_one _ pending]
  rfl

/-- R138: a CLEAR_STOP carried out touches the cells, the tallies, the causes, the flags and memory. -/
theorem State.clearStop_frame (s : State) (arm : Arm) : s.clearStop arm = { s with
    ports := (s.clearStop arm).ports, mem := (s.clearStop arm).mem, cells := (s.clearStop arm).cells
    tallies := (s.clearStop arm).tallies, enf := (s.clearStop arm).enf } := by
  have work : s.EvalWork (s.stopCleared arm) := (s.putCells_evalWork _).trans (State.setCauses_evalWork _ arm _ _)
  have lanes : (s.stopCleared arm).lanes = s.lanes := by simp [State.stopCleared]
  obtain ⟨m, written⟩ := (s.stopCleared arm).writeEventSnapshot_memory arm false
  rw [State.clearStop_eq, written]
  generalize s.stopCleared arm = x at work lanes ⊢
  unfold State.EvalWork at work
  rw [work, lanes]
  rfl

/-- R138: the unowned cells of the last envelope block are seized, closed ones as well. -/
theorem State.clearStop_cell (records : s.cells.length = 1024) {i : Nat} (hi : i < 1024) : (s.clearStop arm).cell i =
    if blockHas (s.reach.get arm).envelope i = true ∧ (s.cell i).owner = none then ⟨some arm, 0, true⟩ else s.cell i := by
  have cells : (s.clearStop arm).cells = (s.seize arm (fun _ => false)).cells := by
    obtain ⟨m, written⟩ := (s.stopCleared arm).writeEventSnapshot_memory arm false
    rw [State.clearStop_eq, written]
    simp [State.stopCleared]
  rw [State.cell, cells]
  show (s.seize arm (fun _ => false)).cell i = _
  rw [State.seize_cell _ arm _ (records ▸ hi), seizeCell_eq]
  simp

/-- R128: an event shown from words that are as before is shown by words that are kept. -/
theorem State.eventShown_congr {x u w : State} (before : ∀ k < 22, x.word (snapshotBase arm + k) = s.word (snapshotBase arm + k))
    (after : ∀ k < 22, w.word (snapshotBase arm + k) = u.word (snapshotBase arm + k)) (enf : w.enf = u.enf)
    (feeds : w.feeds = u.feeds) (tallies : w.tallies = u.tallies) (h : x.eventShown u arm) : s.eventShown w arm := by
  have first := after 0 (by omega)
  have first' := before 0 (by omega)
  rw [Nat.add_zero] at first first'
  obtain ⟨h0, h1, h2, h3, kept, h15, h16, h17, h18, h19, h20, h21⟩ := h
  rw [before 1 (by omega)] at h1
  rw [before 15 (by omega)] at h15
  rw [first'] at h0
  rw [State.eventShown, enf, feeds, tallies]
  exact ⟨first.trans h0, (after 1 (by omega)).trans h1, (after 2 (by omega)).trans h2, (after 3 (by omega)).trans h3,
    fun k lo hi => (after k (by omega)).trans ((kept k lo hi).trans (before k (by omega))), (after 15 (by omega)).trans h15,
    (after 16 (by omega)).trans h16, (after 17 (by omega)).trans h17, (after 18 (by omega)).trans h18,
    (after 19 (by omega)).trans h19, (after 20 (by omega)).trans h20, (after 21 (by omega)).trans h21⟩

theorem State.writeEventSnapshot_memoryOk (wf : s.memoryOk) (arm : Arm) (b : Bool) : (s.writeEventSnapshot arm b).memoryOk :=
  State.raiseSnapshotCount_memoryOk (Memory.wf_writeFrom _ _ (Memory.wf_writeFrom _ _
    (State.raiseSnapshotCount_memoryOk wf arm))) arm

/-- R176: a snapshot write for an event leaves what the status word shows. -/
theorem State.writeEventSnapshot_statusWord (s : State) (arm : Arm) (b : Bool) :
    (s.writeEventSnapshot arm b).statusWord = s.statusWord := by
  obtain ⟨m, written⟩ := s.writeEventSnapshot_memory arm b
  rw [written]
  rfl

/-- R138, R176: the words of a CLEAR_STOP carried out, before its result. -/
theorem State.clearStop_words (wf : s.memoryOk) (arm : Arm) :
    let u := s.clearStop arm
    u.memoryOk ∧ s.eventShown u arm ∧ u.word 0x004 = u.statusWord ∧ s.wordsKept u (0x004 :: offsets (snapshotBase arm) 22) := by
  have become := s.stopCleared_become arm
  have wf' : (s.stopCleared arm).memoryOk := become.canonical wf
  obtain ⟨status, others⟩ := become.status wf
  obtain ⟨shown, kept⟩ := State.writeEventSnapshot_shown wf' arm
  have before : ∀ k < 22, (s.stopCleared arm).word (snapshotBase arm + k) = s.word (snapshotBase arm + k) := fun k hk =>
    others _ fun h => status_notin_snapshot arm (h ▸ (mem_offsets ..).mpr (by omega))
  dsimp only
  rw [State.clearStop_eq]
  refine ⟨State.writeEventSnapshot_memoryOk wf' arm false, State.eventShown_congr before (fun _ _ => rfl) rfl rfl rfl shown, ?_,
    fun a ha => ?_⟩
  · rw [State.writeEventSnapshot_statusWord, ← status]
    exact kept _ (status_notin_snapshot arm)
  · rw [List.mem_cons, not_or] at ha
    exact (kept a ha.2).trans (others a ha.1)

/-- R125, R186: the registers and the flags of the lines follow the causes. -/
theorem State.portsAfter_congr {x z u : State} (ports : x.ports = s.ports) (enf : x.enf = s.enf) (after : u.enf = z.enf) :
    x.lineFlags z arm = s.lineFlags u arm ∧ ∀ y fs, x.portAfter z y fs = s.portAfter u y fs := by
  have conditions : x.guardConditions = s.guardConditions := State.guardConditions_congr enf
  have conditions' : z.guardConditions = u.guardConditions := State.guardConditions_congr after.symm
  refine ⟨?_, fun y fs => ?_⟩
  · simp only [State.lineFlags, State.pauseLine, enf, after]
  · simp only [State.portAfter, ports, conditions, conditions']

/-- R125, R183: the flags of a CLEAR_STOP carried out, with its result's. -/
theorem State.clearStop_ports (s : State) (arm : Arm) (p : Port) {u : State} (enf : u.enf = (s.clearStop arm).enf)
    (ports : u.ports = (s.clearStop arm).ports.modify p (fun r => r.raised .mailbox)) :
    s.portsAfter u arm (s.lineFlags u arm ++ (if p = arm then [.mailbox] else [])) (if p = arm then [] else [.mailbox]) := by
  rw [State.clearStop_eq, State.writeEventSnapshot_enf] at enf
  rw [State.clearStop_eq, State.writeEventSnapshot_ports] at ports
  obtain ⟨own, other⟩ := (s.stopCleared_become arm).ports
  obtain ⟨flags, port⟩ := State.portsAfter_congr (s := s) (arm := arm) (x := s.seize arm (fun _ => false)) rfl rfl enf
  rw [List.nil_append, flags, port] at own
  rw [port] at other
  refine ⟨?_, ?_⟩
  · rw [ports]
    by_cases same : p = arm
    · subst same
      rw [Pair_get_modify_same, own]
      simp [State.portAfter, PortRegs.raised, flagBits_append, flagBits_cons, BitVec.or_assoc]
    · rw [Pair_get_modify_of_ne _ _ _ _ (Ne.symm same), own]
      simp [same]
  · rw [ports]
    by_cases same : p = arm
    · subst same
      rw [Pair_get_modify_other, other]
      simp
    · obtain rfl : p = arm.other := (Arm_eq_or_eq_other p arm).resolve_left same
      rw [Pair_get_modify_same, other]
      simp [same, State.portAfter, PortRegs.raised, flagBits_cons]

/-- R171: neither the status word nor a word of a snapshot is a word of a mailbox. -/
theorem shownWord_notMem_mailResultWords {a : Nat} (shown : a ∈ 0x004 :: offsets (snapshotBase arm) 22) (p : Port) :
    a ∉ mailResultWords p := by
  rw [List.mem_cons, mem_offsets] at shown
  rw [mailResultWords, mem_offsets]
  cases arm <;> cases p <;> simp only [snapshotBase, mailboxBase] at shown ⊢ <;> omega

/-- R162: a mailbox's result touches the flags and memory. -/
theorem State.writeMailResult_frame (s : State) (p : Port) (r : MailResult) (x : Option HeldReason) (tag : Byte) :
    s.writeMailResult p r x tag =
      { s with ports := (s.writeMailResult p r x tag).ports, mem := (s.writeMailResult p r x tag).mem } := rfl

end Sys2Proof.Machine

open Sys2Proof Sys2Proof.Machine

/-- Settles O34: the commands of a service do not see each other's requests; a CLEAR_STOP alone is its rule, carried out between
the taking of the request and the gate test. -/
theorem clearStopInTheService : Obligations.ClearStopInTheService := by
  refine ⟨fun s c rest ready _ accepted => exec_configurationService_front s ready accepted,
    fun s arm records => s.stopHeld_rule arm records, fun s arm p tag due => ⟨fun r held => ?_, fun free => ?_⟩⟩
  · have ran := exec_configurationService_clearStop due
    obtain ⟨-, wf, -, -, -⟩ := due
    have carried : s.carryClear ⟨p, tag, .clearStop arm⟩ arm = s.writeMailResult p .stopHeld (some r) tag := by
      rw [State.carryClear, held]
    rw [carried] at ran
    obtain ⟨result, words⟩ := State.writeMailResult_words wf p .stopHeld (some r) tag
    have ports := s.writeMailResult_ports p .stopHeld (some r) tag
    have frame := s.writeMailResult_frame p .stopHeld (some r) tag
    generalize s.writeMailResult p .stopHeld (some r) tag = y at *
    exact ⟨_, ran, by rw [frame]; rfl, State.portsAfter_of_raised (by rw [frame]; rfl) ports, result, words⟩
  · have ran := exec_configurationService_clearStop due
    obtain ⟨-, wf, records, -, -⟩ := due
    have carried : s.carryClear ⟨p, tag, .clearStop arm⟩ arm = (s.clearStop arm).writeMailResult p .done none tag := by
      rw [State.carryClear, free]
    rw [carried] at ran
    obtain ⟨wf', shown, status, kept⟩ := State.clearStop_words wf arm
    obtain ⟨result, words⟩ := State.writeMailResult_words wf' p .done none tag
    have mailPorts := (s.clearStop arm).writeMailResult_ports p .done none tag
    have mailFrame := (s.clearStop arm).writeMailResult_frame p .done none tag
    have cell := fun i hi => State.clearStop_cell (arm := arm) (i := i) records hi
    have enf := s.clearStop_enf arm
    have ports := fun u => State.clearStop_ports s arm p (u := u)
    have frame := s.clearStop_frame arm
    generalize s.clearStop arm = m at *
    generalize m.writeMailResult p .done none tag = y at *
    have sameEnf : y.enf = m.enf := by rw [mailFrame]
    have event : ∀ a, a ∈ 0x004 :: offsets (snapshotBase arm) 22 → y.word a = m.word a := fun a ha =>
      words a (shownWord_notMem_mailResultWords ha p)
    refine ⟨_, ran, ?_, fun i hi => ?_, sameEnf.trans enf, ports _ sameEnf mailPorts, result, ?_, ?_, ?_⟩
    · rw [mailFrame, frame]
      rfl
    · rw [← cell i hi, mailFrame]
      rfl
    · exact State.eventShown_congr (fun _ _ => rfl) (fun k hk => event _ (List.mem_cons_of_mem _ ((mem_offsets ..).mpr (by omega))))
        sameEnf (by rw [mailFrame]; rfl) (by rw [mailFrame]; rfl) shown
    · refine (event _ (List.mem_cons_self ..)).trans (status.trans ?_)
      rw [mailFrame]
      rfl
    · exact State.wordsKept_trans kept words (by simp only [List.mem_cons, List.mem_append]; tauto)
end

section
/-! SUPPORT. R146–R151: the refill interlock: what is written with a change of its state, when refill may be granted, and how each
event changes the interlock. -/

namespace Sys2Proof.Machine

/-! ## The record, the status word and the flags (R146, R176) -/

/-- R146, R176: the refill record and the status word show `u`, and every other word is as in `s`. -/
abbrev State.refillShown (s u : State) : Prop :=
  u.word 0x00B = u.refillWord ∧ u.word 0x004 = u.statusWord ∧ s.wordsKept u [0x00B, 0x004]

section
variable {s : State}

theorem State.putRefill_shown (wf : s.memoryOk) (r : Refill) : s.refillShown (s.putRefill r) := by
  obtain ⟨status, others⟩ := State.writeStatus_shown (s.setRefill r).writeRefillRecord (Memory.wf_write _ _ wf)
  refine ⟨?_, status, fun a ha => ?_⟩
  · exact (others 0x00B (by decide)).trans (Memory.read_write_same _ _ wf)
  · simp only [List.mem_cons, List.not_mem_nil, or_false, not_or] at ha
    obtain ⟨record, status⟩ := ha
    exact (others a status).trans (Memory.read_write_of_ne _ _ record)

theorem State.raiseBoth_refillShown {x : State} (f : Flag) (shown : s.refillShown x) : s.refillShown (x.raiseBoth f) := shown

theorem State.flagRefillChange_refillShown {x : State} (before : RefillState) (shown : s.refillShown x) :
    s.refillShown (x.flagRefillChange before) := by
  unfold State.flagRefillChange
  split
  · exact shown
  · exact State.raiseBoth_refillShown .refill shown

/-- R183: a flag raised on both ports, every cause as it was. -/
theorem State.portsAfter_raiseBoth {x : State} (f : Flag) (enf : x.enf = s.enf) (ports : x.ports = s.ports) (p : Port) :
    s.portsAfter (x.raiseBoth f) p [f] [f] := by
  refine State.portsAfter_of_flags enf ?_ ?_ <;> rw [State.raiseBoth_port, PortRegs.raised_eq, ports]

end

/-- R146, R149, R151: an interlock put, shown, and flagged on both ports, and nothing else. -/
theorem State.putRefill_raised (s : State) (wf : s.memoryOk) (r : Refill) : let u := (s.putRefill r).raiseBoth .refill
    u = { s with refill := r, ports := u.ports, mem := u.mem } ∧ s.portsAfter u .a [.refill] [.refill] ∧ s.refillShown u :=
  ⟨rfl, State.portsAfter_raiseBoth .refill rfl rfl .a, State.raiseBoth_refillShown .refill (State.putRefill_shown wf r)⟩

/-! ## The refill set without an owner (R149, R67) -/

/-- Records of which none meets the condition count as none. -/
theorem countCells_eq_zero_of_anyCell_eq_false (p : Nat → Cell → Bool) (k : Nat) (cs : List Cell) (h : anyCell p k cs = false) :
    countCells p k cs = 0 := by
  induction cs generalizing k with
  | nil => rfl
  | cons c cs ih =>
    obtain ⟨hc, hcs⟩ := Bool.or_eq_false_iff.mp h
    simp [countCells, hc, ih _ hcs]

/-- R67: an arm that owns no cell of a set counts 0. -/
theorem State.ownedIn_eq_zero {s : State} (records : s.cells.length = 1024) {arm : Arm} {inSet : Nat → Bool}
    (free : ∀ i < 1024, inSet i = true → (s.cell i).owner ≠ some arm) : s.ownedIn arm inSet = 0 := by
  refine countCells_eq_zero_of_anyCell_eq_false _ _ _ ?_
  rw [← Bool.not_eq_true, State.anyCell_iff records]
  rintro ⟨i, hi, meets⟩
  obtain ⟨set, owned⟩ := (Bool.and_eq_true _ _).mp meets
  exact free i hi set (of_decide_eq_true owned)

theorem State.refillSetUnowned_iff {s : State} (records : s.cells.length = 1024) :
    s.refillSetUnowned = true ↔ ∀ i < 1024, s.refillCell i = true → (s.cell i).owner = none := by
  refine ⟨fun h i hi set => State.owner_of_refillSetUnowned records h hi set, fun free => ?_⟩
  have uncounted : ∀ arm, s.ownedIn arm s.refillCell = 0 := fun arm =>
    State.ownedIn_eq_zero records fun i hi set => by simp [free i hi set]
  simp [State.refillSetUnowned, uncounted]

/-! ## The refill test and the stall expiry (R149, R151) -/

section
variable {s : State}

theorem State.refillTestBody_of_free (requested : s.refill.state = .requested) (free : s.refillSetUnowned = true) :
    s.refillTestBody = (s.putRefill s.refill.grantOf).raiseBoth .refill := if_pos ⟨requested, free⟩

theorem State.refillTestBody_of_not (h : ¬ (s.refill.state = .requested ∧ s.refillSetUnowned = true)) :
    s.refillTestBody = s := if_neg h

theorem exec_refillTest_of_readyFor (ready : s.readyFor .refillTest) :
    exec .refillTest s = .next (s.dropRequest .refillTest).refillTestBody :=
  congrArg Host.Outcome.next (State.serve_of_readyFor ready _)

theorem State.stallExpiry_of_requested (runs : s.refill.stallTimer ≠ none) (requested : s.refill.state = .requested) :
    s.stallExpiry = (s.putRefill { s.refill with stallTimer := none, stalled := true }).raiseBoth .refill := by
  obtain ⟨d, timer⟩ := Option.ne_none_iff_exists'.mp runs
  simp [State.stallExpiry, timer, requested]

theorem State.stallExpiry_of_not (h : s.refill.stallTimer = none ∨ s.refill.state ≠ .requested) : s.stallExpiry = s := by
  unfold State.stallExpiry
  split
  · rfl
  next _ timer => exact if_neg (h.resolve_left (by simp [timer]))

/-! ## The sampled RFREQ (R147) -/

theorem debounceTimerFor_eq (t : ZoneTable) (sampled debounced : Bool) : debounceTimerFor t sampled debounced =
    if sampled = debounced then none else some ((if debounced then t.rdf.toNat else t.rdr.toNat) * 1000000) := by
  cases debounced <;> rfl

theorem State.rfreqChange_self : s.rfreqChange s.rfreq = s := if_pos rfl

theorem State.rfreqChange_noTable (noTable : s.active = none) (high : Bool) : s.rfreqChange high = s.setRfreq high := by
  unfold State.rfreqChange
  split
  next same => rw [same]; rfl
  · simp [noTable]

theorem State.rfreqChange_active {t : ZoneTable} (table : s.active = some t) {high : Bool} (change : high ≠ s.rfreq) :
    s.rfreqChange high =
      (s.setRfreq high).setRefill { s.refill with debounceTimer := debounceTimerFor t high s.refill.debounced } := by
  simp [State.rfreqChange, table, change]

/-! ## The debounce timer's expiry (R147, R148, R150) -/

theorem State.debounceExpiry_of_runs {t : ZoneTable} (table : s.active = some t) (runs : s.refill.debounceTimer ≠ none) :
    s.debounceExpiry = (s.putRefill (s.refill.afterDebounce t s.rfreq)).flagRefillChange s.refill.state := by
  obtain ⟨d, timer⟩ := Option.ne_none_iff_exists'.mp runs
  simp [State.debounceExpiry, table, timer]

theorem State.debounceExpiry_of_stopped (stopped : s.refill.debounceTimer = none) : s.debounceExpiry = s := by
  simp [State.debounceExpiry, stopped]

end

section
variable {r : Refill} {t : ZoneTable}

/-- R147: whatever the state becomes, the debounced RFREQ takes the level and the timer stops. -/
theorem Refill.afterDebounce_debounced (r : Refill) (t : ZoneTable) (high : Bool) :
    (r.afterDebounce t high).debounced = high ∧ (r.afterDebounce t high).debounceTimer = none := by
  unfold Refill.afterDebounce
  (repeat' split) <;> exact ⟨rfl, rfl⟩

/-- R148: a rise in IDLE, the table having a refill set. -/
theorem Refill.afterDebounce_request (idle : r.state = .idle) (set : t.refillCount ≠ 0) :
    r.afterDebounce t true = (r.debouncedTo true).requestOf t := by
  simp [Refill.afterDebounce, idle, t.hasRefillSet_iff.mpr set]

/-- R148: any other rise. -/
theorem Refill.afterDebounce_riseKept (h : ¬ (r.state = .idle ∧ t.refillCount ≠ 0)) :
    r.afterDebounce t true = r.debouncedTo true := by
  rw [← ZoneTable.hasRefillSet_iff] at h
  simp [Refill.afterDebounce, h]

/-- R150: a fall in REQUESTED or GRANTED. -/
theorem Refill.afterDebounce_fall (fenced : r.state ≠ .idle) : r.afterDebounce t false = (r.debouncedTo false).toIdle := by
  simp [Refill.afterDebounce, fenced]

/-- R150: a fall in IDLE. -/
theorem Refill.afterDebounce_fallIdle (idle : r.state = .idle) : r.afterDebounce t false = r.debouncedTo false := by
  simp [Refill.afterDebounce, idle]

end

/-! ## REFILL follows a change of the state (R146) -/

section
variable {s : State}

theorem State.flagRefillChange_of_ne {before : RefillState} (h : s.refill.state ≠ before) :
    s.flagRefillChange before = s.raiseBoth .refill := if_neg h

theorem State.flagRefillChange_of_eq {before : RefillState} (h : s.refill.state = before) :
    s.flagRefillChange before = s := if_pos h

theorem State.flagRefillChange_frame (s : State) (before : RefillState) :
    s.flagRefillChange before = { s with ports := (s.flagRefillChange before).ports } := by
  unfold State.flagRefillChange
  split <;> rfl

end

end Sys2Proof.Machine

open Sys2Proof Sys2Proof.Machine

/-- Settles O37: the count of owned cells decides the test; the grant is put, shown and flagged. -/
theorem refillTestGrantsTheUnownedSet : Obligations.RefillTestGrantsTheUnownedSet := by
  intro s ready wf records
  have ran := exec_refillTest_of_readyFor ready
  have unowned : (s.dropRequest .refillTest).refillSetUnowned = true ↔ _ := s.refillSetUnowned_iff records
  refine ⟨fun ⟨requested, free⟩ => ?_, fun refused => ?_⟩
  · rw [State.refillTestBody_of_free (s := s.dropRequest .refillTest) requested (unowned.mpr free)] at ran
    obtain ⟨frame, flags, shown⟩ := (s.dropRequest .refillTest).putRefill_raised wf (s.dropRequest .refillTest).refill.grantOf
    generalize ((s.dropRequest .refillTest).putRefill _).raiseBoth .refill = u at *
    exact ⟨u, ran, frame, by rw [frame]; rfl, flags, shown⟩
  · rw [← unowned] at refused
    rwa [State.refillTestBody_of_not (s := s.dropRequest .refillTest) refused] at ran

/-- Settles O38, by the cases of the line's change and of the stall expiry. -/
theorem refillLineAndStallTimerAct : Obligations.RefillLineAndStallTimerAct := by
  refine ⟨fun s high noTable => ?_, fun s high t table change => ?_, fun s => ?_, fun s wf runs requested => ?_, fun s h => ?_⟩
  · exact congrArg Host.Outcome.next (State.rfreqChange_noTable noTable high)
  · rw [← debounceTimerFor_eq]
    exact congrArg Host.Outcome.next (State.rfreqChange_active table change)
  · exact congrArg Host.Outcome.next State.rfreqChange_self
  · exact ⟨_, congrArg Host.Outcome.next (State.stallExpiry_of_requested runs requested), s.putRefill_raised wf _⟩
  · exact congrArg Host.Outcome.next (State.stallExpiry_of_not h)

/-- Settles O39, by R148 and R150's four cases of the level and the state. -/
theorem debounceExpiryMovesTheRefillState : Obligations.DebounceExpiryMovesTheRefillState := by
  refine ⟨fun s t wf table runs => ?_, fun s stopped => congrArg Host.Outcome.next (State.debounceExpiry_of_stopped stopped)⟩
  refine ⟨_, congrArg Host.Outcome.next (State.debounceExpiry_of_runs table runs), ?_⟩
  have frame := State.flagRefillChange_frame (s.putRefill (s.refill.afterDebounce t s.rfreq)) s.refill.state
  have refill : ((s.putRefill (s.refill.afterDebounce t s.rfreq)).flagRefillChange s.refill.state).refill =
    s.refill.afterDebounce t s.rfreq := State.flagRefillChange_refill ..
  obtain ⟨level, timer⟩ := s.refill.afterDebounce_debounced t s.rfreq
  rw [refill]
  refine ⟨?_, level, timer, fun high idle set => ?_, fun high kept => ?_, fun low fenced => ?_, fun low idle => ?_,
    fun changed => ?_, fun same => ?_, State.flagRefillChange_refillShown _ (State.putRefill_shown wf _)⟩
  · rw [frame]
    rfl
  · rw [high, Refill.afterDebounce_request idle set]
    exact ⟨rfl, rfl, rfl⟩
  · rw [high, Refill.afterDebounce_riseKept kept]
    exact ⟨rfl, rfl, rfl⟩
  · rw [low, Refill.afterDebounce_fall fenced]
    exact ⟨rfl, rfl, rfl⟩
  · rw [low, Refill.afterDebounce_fallIdle idle]
    exact ⟨idle, rfl, rfl⟩
  · rw [State.flagRefillChange_of_ne changed]
    exact State.portsAfter_raiseBoth .refill rfl rfl .a
  · rw [State.flagRefillChange_of_eq same]
    rfl
end

section
/-! SUPPORT. R166, R169, R176: a change of the install record, and the end of a pending install. -/

namespace Sys2Proof.Machine

/-! ## The install record (R166, R176) -/

/-- R176, R166: words 0x008 to 0x00A. -/
abbrev installWords : List Nat := [0x008, 0x009, 0x00A]

/-- R166, R176: the three words of the install record show `u`, and every other word is as in `s`. -/
abbrev State.installShown (s u : State) : Prop :=
  u.word 0x008 = u.installWord ∧ u.word 0x009 = u.install.pendingSerial ∧ u.word 0x00A = u.install.activeSerial ∧
    s.wordsKept u installWords

section
variable {s : State}

@[simp] theorem State.changeInstall_install (s : State) (i : Install) : (s.changeInstall i).install = i := rfl

theorem State.changeInstall_memoryOk (wf : s.memoryOk) (i : Install) : (s.changeInstall i).memoryOk :=
  Memory.wf_writeFrom _ _ wf

theorem State.changeInstall_frame (s : State) (i : Install) : s.changeInstall i =
    { s with install := i, ports := (s.changeInstall i).ports, mem := (s.changeInstall i).mem } := rfl

theorem State.changeInstall_shown (wf : s.memoryOk) (i : Install) : s.installShown (s.changeInstall i) := by
  refine ⟨Memory.read_writeFrom_inside (k := 0) _ wf (by simp), Memory.read_writeFrom_inside (k := 1) _ wf (by simp),
    Memory.read_writeFrom_inside (k := 2) _ wf (by simp), fun a ha => Memory.read_writeFrom_outside _ _ ?_⟩
  simp only [List.mem_cons, List.not_mem_nil, or_false, not_or] at ha
  simp only [List.length_cons, List.length_nil]
  omega

theorem State.changeInstall_port (s : State) (i : Install) (p : Port) :
    (s.changeInstall i).ports.get p = (s.ports.get p).raised .install :=
  State.raiseBoth_port _ _ _

/-! ## The end of a pending install (R169) -/

/-- R169: the install record once the pending table is dropped. -/
def Install.dropped (i : Install) (st : InstallState) : Install :=
  { i with state := st, reason := none, pendingTable := none, window := none }

theorem State.installWord_of_noReason {u : State} (h : u.install.reason = none) : u.installWord = wordOf u.install.state.code := by
  simp [State.installWord, h]

theorem State.installWord_of_dropped {u : State} {i : Install} {st : InstallState} (h : u.install = i.dropped st) :
    u.installWord = wordOf st.code := by
  rw [State.installWord_of_noReason (by rw [h]; rfl), h]
  rfl

theorem State.windowExpiry_of_pending (pending : s.install.state = .pending) (runs : s.install.window ≠ none) :
    s.windowExpiry = s.dropInstall .expired := by
  obtain ⟨d, window⟩ := Option.ne_none_iff_exists'.mp runs
  simp [State.windowExpiry, window, pending]

theorem State.windowExpiry_of_not (h : s.install.window = none ∨ s.install.state ≠ .pending) : s.windowExpiry = s := by
  unfold State.windowExpiry
  split
  · rfl
  next _ window => exact if_neg (h.resolve_left (by simp [window]))

end

end Sys2Proof.Machine

open Sys2Proof Sys2Proof.Machine

/-- Settles O49: the expiry drops the pending table, which is a change of the install record. -/
theorem installWindowEndsAPendingInstall : Obligations.InstallWindowEndsAPendingInstall := by
  refine ⟨fun s wf pending runs => ?_, fun s h => congrArg Host.Outcome.next (State.windowExpiry_of_not h)⟩
  have ran : exec .installWindowExpiry s = .next (s.changeInstall (s.install.dropped .expired)) :=
    congrArg Host.Outcome.next (State.windowExpiry_of_pending pending runs)
  obtain ⟨state, pendingSerial, activeSerial, kept⟩ := State.changeInstall_shown wf (s.install.dropped .expired)
  have expired := state.trans (State.installWord_of_dropped (i := s.install) (st := .expired) rfl)
  exact ⟨_, ran, rfl, State.portsAfter_raiseBoth .install rfl rfl .a, expired, pendingSerial, activeSerial, kept⟩
end

section
/-! SUPPORT. R154–R156: a write to PLOCK, by the rows of the table. -/

namespace Sys2Proof.Machine

/-- R154, R176: the mirror shows `u`, and every other word is as in `s`. -/
abbrev State.lockShown (s u : State) : Prop := u.word 0x00C = u.lockWord ∧ s.wordsKept u [0x00C]

section
variable {s : State} {p : Port} {v : Word}

theorem State.putLock_shown (wf : s.memoryOk) (l : Lock) : s.lockShown (s.putLock l) :=
  ⟨Memory.read_write_same _ _ wf, fun _ ha => Memory.read_write_of_ne _ _ (List.ne_of_not_mem_cons ha)⟩

theorem State.putLock_putLock_shown (wf : s.memoryOk) (l l' : Lock) : s.lockShown ((s.putLock l).putLock l') := by
  obtain ⟨-, first⟩ := State.putLock_shown wf l
  obtain ⟨mirror, second⟩ := State.putLock_shown (s := s.putLock l) (Memory.wf_write _ _ wf) l'
  exact ⟨mirror, State.wordsKept_trans first second fun a => by simp⟩

/-! ## REQUEST and RELEASE (R155) -/

theorem Lock.request_eq (l : Lock) (p : Port) : l.request p = requestedLock l p := by
  obtain ⟨holder, pendingPort, last⟩ := l
  cases holder with
  | none => rfl
  | some h =>
    by_cases own : h = p
    · simp [Lock.request, requestedLock, own]
    · by_cases free : pendingPort = none <;> simp [Lock.request, requestedLock, own, free]

theorem Lock.release_eq (l : Lock) (p : Port) : l.release p = releasedLock l p := by
  obtain ⟨holder, pendingPort, last⟩ := l
  cases holder with
  | none => rfl
  | some h =>
    by_cases own : h = p
    · cases pendingPort <;> simp [Lock.release, releasedLock, Lock.give, own]
    · simp [Lock.release, releasedLock, own]

theorem State.plockWrite_of_notReady (notReady : s.ready = false) (p : Port) (v : Word) : s.plockWrite p v = s := by
  simp [State.plockWrite, notReady]

theorem State.plockWrite_request (ready : s.ready = true) (request : v.getLsbD 0 = true) (noRelease : v.getLsbD 1 = false)
    (p : Port) : s.plockWrite p v = s.putLock (requestedLock s.lock p) := by
  have bits : bitAt v 0 = true ∧ bitAt v 1 = false := ⟨request, noRelease⟩
  simp [State.plockWrite, ready, bits, Lock.request_eq]

theorem State.plockWrite_release (ready : s.ready = true) (release : v.getLsbD 1 = true) (p : Port) :
    s.plockWrite p v = (s.putLock (releasedLock s.lock p)).flagHandover (s.lock.handsTo p) := by
  have bit : bitAt v 1 = true := release
  simp [State.plockWrite, ready, bit, Lock.release_eq]

theorem Lock.handsTo_of_handover {l : Lock} {q : Port} (h : l.holder = some p ∧ l.pendingPort = some q) :
    l.handsTo p = some q := by
  simp [Lock.handsTo, h]

theorem Lock.handsTo_of_not {l : Lock} (h : ¬ (l.holder = some p ∧ l.pendingPort ≠ none)) : l.handsTo p = none := by
  simpa [Lock.handsTo] using h

theorem State.flagHandover_frame (s : State) (x : Option Port) :
    s.flagHandover x = { s with ports := (s.flagHandover x).ports } := by
  cases x <;> rfl

/-! ## Two REQUESTs that meet (R156) -/

/-- R156: both writes hold REQUEST alone, so each is a REQUEST of its port. -/
theorem State.plockMeet_request (ready : s.ready = true) (request : v.getLsbD 0 = true) (noRelease : v.getLsbD 1 = false)
    (p : Port) {first : Port} (order : (if s.lock.holder = none then s.lock.lastHolder.other else p) = first) :
    s.plockMeet p v = (s.putLock (requestedLock s.lock first)).putLock
      (requestedLock (requestedLock s.lock first) first.other) := by
  have requests : ∀ q : Port, (if q = p then v else 1#16).getLsbD 0 = true ∧ (if q = p then v else 1#16).getLsbD 1 = false :=
    fun q => by
      split
      · exact ⟨request, noRelease⟩
      · decide
  have each : ∀ x : State, x.ready = true → ∀ q, x.plockWrite q (if q = p then v else 1#16) = x.putLock (requestedLock x.lock q) :=
    fun x ready q => State.plockWrite_request ready (requests q).1 (requests q).2 q
  unfold State.plockMeet
  dsimp only
  rw [order, each s ready, each (s.putLock (requestedLock s.lock first)) ready]
  rfl

theorem State.plockMeet_of_notReady (notReady : s.ready = false) (p : Port) (v : Word) : s.plockMeet p v = s := by
  unfold State.plockMeet
  dsimp only
  rw [State.plockWrite_of_notReady notReady, State.plockWrite_of_notReady notReady]

theorem requestedLock_meet {l : Lock} (free : l.holder = none) (noPending : l.pendingPort = none) :
    requestedLock (requestedLock l l.lastHolder.other) l.lastHolder.other.other =
      ⟨some l.lastHolder.other, some l.lastHolder, l.lastHolder.other⟩ := by
  simp [requestedLock, free, noPending]

end

end Sys2Proof.Machine

open Sys2Proof Sys2Proof.Machine

/-- Settles O50, row by row: each write puts one lock or, where two REQUESTs meet, two in turn. -/
theorem plockWritesFollowTheTable : Obligations.PlockWritesFollowTheTable := by
  refine ⟨fun s p v wf ready => ⟨fun request noRelease => ?_, fun request noRelease free noPending => ?_,
    fun request noRelease held => ?_, fun release => ?_⟩, fun s p v both notReady => ⟨?_, ?_⟩⟩
  · exact ⟨_, congrArg Host.Outcome.next (State.plockWrite_request ready request noRelease p), rfl, State.putLock_shown wf _⟩
  · have ran := State.plockMeet_request ready request noRelease p (if_pos free)
    rw [requestedLock_meet free noPending] at ran
    exact ⟨_, congrArg Host.Outcome.next ran, rfl, State.putLock_putLock_shown wf _ _⟩
  · have ran := State.plockMeet_request ready request noRelease p (if_neg held)
    exact ⟨_, congrArg Host.Outcome.next ran, rfl, State.putLock_putLock_shown wf _ _⟩
  · have frame := (s.putLock (releasedLock s.lock p)).flagHandover_frame (s.lock.handsTo p)
    refine ⟨_, congrArg Host.Outcome.next (State.plockWrite_release ready release p), ?_, fun q handover => ?_, fun kept => ?_, ?_⟩
    · rw [frame]
      rfl
    · rw [Lock.handsTo_of_handover handover]
      obtain ⟨own, -⟩ := State.portsAfter_of_raised (s := s) (u := (s.putLock (releasedLock s.lock p)).raise .lock q) (f := .lock)
        rfl rfl
      exact ⟨own, Pair_get_modify_other _ _ _⟩
    · rw [Lock.handsTo_of_not kept]
      rfl
    · rw [frame]
      exact State.putLock_shown wf _
  · cases both
    · exact congrArg Host.Outcome.next (State.plockWrite_of_notReady notReady p v)
    · exact congrArg Host.Outcome.next (State.plockMeet_of_notReady notReady p v)
  · exact congrArg Host.Outcome.next (State.plockWrite_of_notReady notReady p v)
end

section
/-! SUPPORT. R102, R159–R162: a tick with no event between its reads: it begins, visits mailbox A and mailbox B, and requests its
services. A visit takes a new command, and what a command taken may change is said once. -/

namespace Sys2Proof.Machine

/-! ## The three parts of a tick (R102) -/

/-- R102, R103: the tick begun: SIP is 1, the timer runs for a full period, and the status word shows it. -/
def State.begun (s : State) : State := (s.setSurvey s.survey.ticked).writeStatus

/-- R159: both mailboxes visited. -/
def State.mailVisits (s : State) (during : List Arrival) : State := (s.visitMailbox during .a).visitMailbox during .b

/-- R102: the tick's services requested. -/
def State.requested (s : State) : State := s.requestTogether s.tickRequests

/-- R102: the requests of a tick in the statement's terms. -/
def State.tickGroupOf (s : State) : List Request :=
  tickGroup (decide (s.accepted ≠ [] ∨ s.install.state = .pending)) (decide (s.refill.state = .requested))

section
variable {s : State}

theorem exec_surveyTick_of_due (due : s.tickDue) (during : List Arrival) :
    exec (.surveyTick during) s = .next (s.begun.mailVisits during).requested := by
  obtain ⟨ready, runs, idle⟩ := due
  exact congrArg Host.Outcome.next (if_pos (by simp [ready, runs, idle]))

theorem exec_surveyTick_of_not_due (h : ¬ s.tickDue) (during : List Arrival) : exec (.surveyTick during) s = .next s := by
  refine congrArg Host.Outcome.next (if_neg fun due => h ?_)
  simpa [State.tickDue, and_assoc] using due

theorem State.requested_eq (s : State) : s.requested = s.setWaiting (s.waiting ++ [s.tickGroupOf]) := by
  have service : s.wantsConfiguration = decide (s.accepted ≠ [] ∨ s.install.state = .pending) := by
    cases list : s.accepted <;> simp [State.wantsConfiguration, list]
  have group : s.tickRequests = s.tickGroupOf := by
    simp only [State.tickRequests, State.tickGroupOf, tickGroup, service, decide_eq_true_eq]
  have some : s.tickGroupOf.isEmpty = false := by
    unfold State.tickGroupOf tickGroup
    cases decide (s.accepted ≠ [] ∨ s.install.state = .pending) <;> simp
  rw [State.requested, group, State.requestTogether, some]
  rfl

/-! ## The tick begun -/

theorem State.begun_memoryOk (wf : s.memoryOk) : s.begun.memoryOk := Memory.wf_write _ _ wf

theorem State.begun_word (s : State) {a : Nat} (h : a ≠ 0x004) : s.begun.word a = s.word a := Memory.read_write_of_ne _ _ h

theorem State.begun_shown (wf : s.memoryOk) : s.statusShown s.begun := (s.setSurvey s.survey.ticked).writeStatus_shown wf

/-! ## A mailbox's words (R178) -/

/-- R159: a mailbox whose words are as before holds what it held. -/
theorem State.mail_congr {t : State} {p : Port} (same : ∀ i < 17, t.word (mailboxBase p + i) = s.word (mailboxBase p + i)) :
    t.word (mailboxBase p) = s.word (mailboxBase p) ∧ (t.mailNew p ↔ s.mailNew p) ∧ t.mailCommand p = s.mailCommand p := by
  have post := same 0 (by omega)
  rw [Nat.add_zero] at post
  refine ⟨post, ?_, congrArg MailCommand.ofWords (List.map_congr_left fun i hi => same i ?_)⟩
  · rw [State.mailNew, post, same 16 (by omega)]
  · have := List.mem_range.mp hi
    omega

theorem State.begun_mail (s : State) (p : Port) : s.begun.word (mailboxBase p) = s.word (mailboxBase p) ∧
    (s.begun.mailNew p ↔ s.mailNew p) ∧ s.begun.mailCommand p = s.mailCommand p :=
  State.mail_congr fun i _ => s.begun_word (by cases p <;> simp only [mailboxBase] <;> omega)

/-! ## A visit with no event between its reads (R159) -/

/-- R165: the table that the staging words hold. -/
def State.stagedTable (s : State) : ZoneTable := ZoneTable.ofWords ((List.range 256).map (fun k => s.word (0x300 + k)))

theorem readRun_nil_eq (n point a : Nat) (s : State) : readRun [] n point a s = ((List.range n).map (fun j => s.word (a + j)), s) := by
  have still : ∀ n point a, (readRun [] n point a s).2 = s := by
    intro n
    induction n with
    | zero => intro _ _; rfl
    | succ n ih => intro point a; exact ih _ _
  exact Prod.ext (readRun_nil n point a s) (still n point a)

theorem State.carryOutAtOnce_install (s : State) (point : Nat) (p : Port) (tag : Byte) (k : GateMask) (window : Nat) :
    s.carryOutAtOnce [] point p tag (.install k window) = s.beginInstall p tag k window s.stagedTable := by
  unfold State.carryOutAtOnce
  dsimp only
  rw [readRun_nil_eq]
  rfl

/-- R158: with no event between its points a command does the same from any of them. -/
theorem State.takeMail_point (s : State) (point : Nat) (p : Port) (tag : Byte) (c : MailCommand) :
    s.takeMail [] point p tag c = s.takeMail [] 0 p tag c := by
  unfold State.takeMail
  split
  · rfl
  · cases c with
    | install k window => rw [State.carryOutAtOnce_install, State.carryOutAtOnce_install]
    | _ => rfl

/-- R159: a visit takes a new command, as the request half holds it, and passes over any other mailbox. -/
theorem State.visitMailbox_nil (s : State) (p : Port) : s.visitMailbox [] p =
    if s.mailNew p then s.takeMail [] 0 p (tagOf (s.word (mailboxBase p))) (s.mailCommand p) else s := by
  unfold State.visitMailbox
  simp only [readRecord_nil, readRun_nil, State.arriveBetween_nil, Bool.and_true, decide_eq_true_eq, State.takeMail_point, ite_self]
  rfl

/-! ## What a command taken may change (R160–R162) -/

/-- The change from `s` to `u` is the work of a command taken from port p's mailbox: of State it touches the survey arbiter, but
neither SIP nor the timer, the install record, the fence set, the accepted commands, the flags and memory, and of memory the install
record and the mailbox's result half. -/
structure State.MailWork (s u : State) (p : Port) : Prop where
  frame : u = { s with
    survey := u.survey, install := u.install, fence := u.fence, accepted := u.accepted, ports := u.ports, mem := u.mem }
  sip : u.survey.sip = s.survey.sip
  timer : u.survey.timer = s.survey.timer
  words : s.wordsKept u (installWords ++ mailResultWords p)
  canonical : s.memoryOk → u.memoryOk

end

section
variable {s t u : State} {p : Port}

theorem State.MailWork.refl (s : State) (p : Port) : s.MailWork s p := ⟨rfl, rfl, rfl, fun _ _ => rfl, id⟩

theorem State.MailWork.trans (h : s.MailWork t p) (h' : t.MailWork u p) : s.MailWork u p where
  frame := by
    rw [h'.frame]
    conv_lhs => rw [h.frame]
  sip := h'.sip.trans h.sip
  timer := h'.timer.trans h.timer
  words := State.wordsKept_trans h.words h'.words fun _ => or_self_iff.mp
  canonical := h'.canonical ∘ h.canonical

variable (s p)

theorem State.writeMailResult_memoryOk {s : State} (wf : s.memoryOk) (p : Port) (r : MailResult) (x : Option HeldReason) (tag : Byte) :
    (s.writeMailResult p r x tag).memoryOk :=
  Memory.wf_write _ _ (Memory.wf_write _ _ (Memory.wf_write _ _ wf))

theorem State.writeMailResult_wordsKept (r : MailResult) (x : Option HeldReason) (tag : Byte) :
    s.wordsKept (s.writeMailResult p r x tag) (mailResultWords p) := fun a ha => by
  rw [mailResultWords, mem_offsets] at ha
  exact (Memory.read_write_of_ne _ _ (by omega)).trans ((Memory.read_write_of_ne _ _ (by omega)).trans
    (Memory.read_write_of_ne _ _ (by omega)))

theorem State.writeMailResult_mailWork (r : MailResult) (x : Option HeldReason) (tag : Byte) :
    s.MailWork (s.writeMailResult p r x tag) p where
  frame := rfl
  sip := rfl
  timer := rfl
  words := fun a ha => s.writeMailResult_wordsKept p r x tag a (mt (List.mem_append_right _) ha)
  canonical := fun wf => State.writeMailResult_memoryOk wf p r x tag

theorem State.changeInstall_mailWork (i : Install) : s.MailWork (s.changeInstall i) p where
  frame := rfl
  sip := rfl
  timer := rfl
  words := fun a ha => Memory.read_writeFrom_outside _ _ (by
    simp only [List.mem_append, List.mem_cons, List.not_mem_nil, or_false, not_or] at ha
    simp only [List.length_cons, List.length_nil]
    omega)
  canonical := fun wf => State.changeInstall_memoryOk wf i

theorem State.setFence_mailWork (zones : List Nat) : s.MailWork (s.setFence zones) p := ⟨rfl, rfl, rfl, fun _ _ => rfl, id⟩

theorem State.accept_mailWork (port : Port) (tag : Byte) (c : ServiceCommand) : s.MailWork (s.accept port tag c) p :=
  ⟨rfl, rfl, rfl, fun _ _ => rfl, id⟩

theorem State.setSurvey_mailWork {v : Survey} (sip : v.sip = s.survey.sip) (timer : v.timer = s.survey.timer) :
    s.MailWork (s.setSurvey v) p :=
  ⟨rfl, sip, timer, fun _ _ => rfl, id⟩

theorem State.beginInstall_mailWork (tag : Byte) (k : GateMask) (window : Nat) (t : ZoneTable) :
    s.MailWork (s.beginInstall p tag k window t) p := by
  unfold State.beginInstall
  split
  · exact (s.changeInstall_mailWork p _).trans (State.writeMailResult_mailWork _ p .done none tag)
  · exact (s.changeInstall_mailWork p _).trans (State.writeMailResult_mailWork _ p .accepted none tag)

theorem State.abandon_mailWork : s.MailWork s.abandon p := by
  unfold State.abandon
  split
  · exact s.changeInstall_mailWork p _
  · exact .refl s p

theorem State.carryOutAtOnce_mailWork (tag : Byte) (c : MailCommand) : s.MailWork (s.carryOutAtOnce [] 0 p tag c) p := by
  have done : ∀ {x : State}, s.MailWork x p → s.MailWork (x.writeMailResult p .done none tag) p := fun h =>
    h.trans (State.writeMailResult_mailWork _ p .done none tag)
  cases c with
  | install k window =>
    rw [State.carryOutAtOnce_install]
    exact s.beginInstall_mailWork p tag k window _
  | abandon => exact done (s.abandon_mailWork p)
  | fence _ zones => exact done (s.setFence_mailWork p _)
  | priority m o =>
    unfold State.carryOutAtOnce
    dsimp only
    split
    · exact done (s.setSurvey_mailWork p rfl rfl)
    · exact .refl s p
  | hold v => exact done (s.setSurvey_mailWork p rfl rfl)
  | period code => exact done (s.setSurvey_mailWork p rfl rfl)
  | clearStop a =>
    unfold State.carryOutAtOnce
    dsimp only
    split
    · exact s.accept_mailWork p p tag _
    · exact .refl s p
  | restartLane a =>
    unfold State.carryOutAtOnce
    dsimp only
    split
    · exact s.accept_mailWork p p tag _
    · exact .refl s p
  | unknown => exact .refl s p

theorem State.takeMail_mailWork (tag : Byte) (c : MailCommand) : s.MailWork (s.takeMail [] 0 p tag c) p := by
  unfold State.takeMail
  split
  · exact s.writeMailResult_mailWork p _ none tag
  · exact s.carryOutAtOnce_mailWork p tag c

theorem State.visitMailbox_mailWork : s.MailWork (s.visitMailbox [] p) p := by
  rw [State.visitMailbox_nil]
  split
  · exact s.takeMail_mailWork p _ _
  · exact .refl s p

variable {s p}

/-- R171, R178: the words of the other port's mailbox are not among those of a command taken. -/
theorem State.MailWork.mail_other (h : s.MailWork u p) {i : Nat} (hi : i < 32) :
    u.word (mailboxBase p.other + i) = s.word (mailboxBase p.other + i) := by
  refine h.words _ fun m => ?_
  simp only [List.mem_append, List.mem_cons, List.not_mem_nil, or_false, mailResultWords, mem_offsets] at m
  cases p <;> simp only [Side.other, mailboxBase] at m <;> omega

/-! ## A tick with one new command -/

theorem State.mailVisits_nil_of_idle (idle : ∀ p, ¬ s.mailNew p) : s.mailVisits [] = s := by
  have passed : ∀ p, s.visitMailbox [] p = s := fun p => (s.visitMailbox_nil p).trans (if_neg (idle p))
  rw [State.mailVisits, passed, passed]

/-- R159: with one new command both visits are its taking. -/
theorem State.mailVisits_nil_of_new (new : s.mailNew p) (calm : ¬ s.mailNew p.other) :
    s.mailVisits [] = s.takeMail [] 0 p (tagOf (s.word (mailboxBase p))) (s.mailCommand p) := by
  have taken := (s.visitMailbox_nil p).trans (if_pos new)
  have passed := (s.visitMailbox_nil p.other).trans (if_neg calm)
  have work := s.takeMail_mailWork p (tagOf (s.word (mailboxBase p))) (s.mailCommand p)
  obtain ⟨-, later, -⟩ := State.mail_congr (p := p.other) fun i hi => work.mail_other (i := i) (by omega)
  cases p with
  | a => exact (congrArg (·.visitMailbox [] .b) taken).trans ((State.visitMailbox_nil _ _).trans (if_neg (mt later.mp calm)))
  | b => exact (congrArg (·.visitMailbox [] .b) passed).trans taken

/-- R102, R159: a tick whose one new command is in port p's mailbox. -/
theorem exec_surveyTick_of_tickWith (h : s.tickWith p) : exec (.surveyTick []) s =
    .next (s.begun.takeMail [] 0 p (tagOf (s.word (mailboxBase p))) (s.mailCommand p)).requested := by
  obtain ⟨-, due, new, calm⟩ := h
  obtain ⟨post, newIff, command⟩ := s.begun_mail p
  obtain ⟨-, calmIff, -⟩ := s.begun_mail p.other
  rw [exec_surveyTick_of_due due, State.mailVisits_nil_of_new (newIff.mpr new) (mt calmIff.mp calm), post, command]

theorem State.takeMail_of_refused {tag : Byte} {c : MailCommand} {r : MailResult} (refused : s.mailRefusal p c = some r) :
    s.begun.takeMail [] 0 p tag c = s.begun.writeMailResult p r none tag := by
  have same : s.begun.mailRefusal p c = some r := refused
  rw [State.takeMail, same]

theorem State.takeMail_of_taken {tag : Byte} {c : MailCommand} (taken : s.mailRefusal p c = none) :
    s.begun.takeMail [] 0 p tag c = s.begun.carryOutAtOnce [] 0 p tag c := by
  have same : s.begun.mailRefusal p c = none := taken
  rw [State.takeMail, same]

/-! ## What a tick shows (R102, R162, R176) -/

/-- R176: what the status word shows. -/
theorem State.statusWord_congr (sip : u.survey.sip = s.survey.sip) (active : u.active = s.active) (enf : u.enf = s.enf)
    (refill : u.refill = s.refill) : u.statusWord = s.statusWord := by
  simp only [State.statusWord, State.pauseLine, State.stopLine, State.rfgnt, sip, active, enf, refill]

theorem State.MailWork.enf (h : s.MailWork u p) : u.enf = s.enf := by rw [h.frame]

/-- R160–R162: a command taken leaves the status word and what it shows. -/
theorem State.MailWork.status (h : s.begun.MailWork u p) (wf : s.memoryOk) : u.word 0x004 = u.statusWord := by
  obtain ⟨status, -⟩ := State.begun_shown wf
  have off : 0x004 ∉ installWords ++ mailResultWords p := by cases p <;> decide
  refine (h.words _ off).trans (status.trans (State.statusWord_congr h.sip ?_ h.enf ?_).symm) <;> rw [h.frame]

/-- R162: a command whose result is written at once, after it has put the survey arbiter and the fence set. -/
def State.answered (s : State) (v : Survey) (zones : List Nat) (p : Port) (r : MailResult) (tag : Byte) : State :=
  ((s.begun.setSurvey v).setFence zones).writeMailResult p r none tag

theorem State.answered_mailWork {v : Survey} (sip : v.sip = true) (timer : v.timer = s.survey.ticked.timer) (zones : List Nat)
    (p : Port) (r : MailResult) (tag : Byte) : s.begun.MailWork (s.answered v zones p r tag) p :=
  ((s.begun.setSurvey_mailWork p sip timer).trans (State.setFence_mailWork _ p zones)).trans
    (State.writeMailResult_mailWork _ p r none tag)

theorem State.answered_shown (wf : s.memoryOk) {v : Survey} (sip : v.sip = true) (timer : v.timer = s.survey.ticked.timer)
    (zones : List Nat) (p : Port) (r : MailResult) (tag : Byte) :
    let u := (s.answered v zones p r tag).requested
    u = { s with survey := v, fence := zones, waiting := u.waiting, mem := u.mem, ports := u.ports } ∧ s.asIdleTick u ∧
      s.portsAfter u p [.mailbox] [] ∧ u.mailResult p tag r 0 ∧ s.wordsKept u (0x004 :: mailResultWords p) := by
  obtain ⟨-, begins⟩ := State.begun_shown wf
  have status := (State.answered_mailWork sip timer zones p r tag).status wf
  obtain ⟨result, kept⟩ := State.writeMailResult_words (s := (s.begun.setSurvey v).setFence zones) (State.begun_memoryOk wf) p r none tag
  have frame := (State.answered_mailWork (s := s) sip timer zones p r tag).frame
  have own : (s.answered v zones p r tag).survey = v ∧ (s.answered v zones p r tag).install = s.install ∧
    (s.answered v zones p r tag).fence = zones ∧ (s.answered v zones p r tag).accepted = s.accepted := by simp [State.answered, State.begun]
  have ports := State.writeMailResult_ports ((s.begun.setSurvey v).setFence zones) p r none tag
  rw [← State.answered] at result kept ports
  generalize s.answered v zones p r tag = y at *
  obtain ⟨survey, install, fence, accepted⟩ := own
  rw [survey, install, fence, accepted] at frame
  dsimp only
  rw [State.requested_eq]
  refine ⟨?_, ⟨?_, status⟩, State.portsAfter_of_raised ?_ ports, result, fun a ha => ?_⟩
  · rw [frame]
    rfl
  · rw [frame]
    rfl
  · rw [frame]
    rfl
  · rw [List.mem_cons, not_or] at ha
    obtain ⟨other, half⟩ := ha
    exact (kept a half).trans (begins a other)

end

/-! ## The layout, the codes and the tests (R178, R180, R160, R161, R143) -/

theorem fenceZones_eq (ws : List Word) (h : ws.length = 16) : fenceZones ws =
    (List.range 33).map (fun j => (ws.getD (3 + j / 3) 0).toNat / 2 ^ (5 * (j % 3)) % 32) := by
  match ws, h with
  | [w0, w1, w2, w3, w4, w5, w6, w7, w8, w9, w10, w11, w12, w13, w14, w15], _ => rfl

theorem mailLayout_of_length (ws : List Word) (h : ws.length = 16) : mailLayout ws := by
  refine ⟨fun c => ?_, fun c => ?_, fun c => ⟨(fenceZones ws).take (ws.getD 2 0).toNat, ?_, ?_, fun j hj => ?_⟩, fun c => ?_,
    fun c => ?_, fun c => ?_, fun c => ?_, fun c => ?_, fun c => ?_⟩
  case refine_4 => simp [fenceZones_eq ws h]
  case refine_5 =>
    rw [List.length_take, fenceZones_eq ws h, List.length_map, List.length_range] at hj
    rw [fenceZones_eq ws h, List.getD_eq_getElem?_getD, List.getElem?_take_of_lt (by omega), ← List.getD_eq_getElem?_getD,
      getD_map_range _ (by omega)]
  case refine_11 =>
    unfold MailCommand.ofWords
    dsimp only
    split <;> first | rfl | omega
  all_goals
    unfold MailCommand.ofWords
    dsimp only
    rw [c]
    rfl

theorem codeTable_holds : codeTable := by
  refine ⟨rfl, rfl, rfl, rfl, rfl, rfl, rfl, rfl, rfl, rfl, rfl, rfl, fun z hz => ?_⟩
  rw [blockerZoneWord, Nat.mod_eq_of_lt hz]

theorem armOfCode_isNone_iff (n : Nat) : (armOfCode n).isNone = true ↔ 1 < n := by
  match n with
  | 0 => decide
  | 1 => decide
  | n + 2 => simp [armOfCode]

/-- R178: 0 names arm and lane A, 1 arm and lane B. -/
theorem armOfCode_eq_some_iff (n : Nat) (p : Port) : armOfCode n = some p ↔ n = (match p with | .a => 0 | .b => 1) := by
  match n with
  | 0 => cases p <;> decide
  | 1 => cases p <;> decide
  | n + 2 => cases p <;> simp [armOfCode]

theorem PriorityMode.ofCode_isNone_iff (n : Nat) : (PriorityMode.ofCode n).isNone = true ↔ 2 < n := by
  match n with
  | 0 => decide
  | 1 => decide
  | 2 => decide
  | n + 3 => simp [PriorityMode.ofCode]

theorem oneShotOfCode_isNone_iff (n : Nat) : (oneShotOfCode n).isNone = true ↔ 2 < n := by
  match n with
  | 0 => decide
  | 1 => decide
  | 2 => decide
  | n + 3 => simp [oneShotOfCode]

theorem State.badFence_iff (s : State) (count : Nat) (zones : List Nat) : s.badFence count zones = true ↔
    32 < count ∨ ∃ z ∈ zones, ∀ t, s.active = some t → t.nz.toNat ≤ z := by
  cases table : s.active with
  | none => cases zones <;> simp [State.badFence, table]
  | some t => simp [State.badFence, table]

theorem State.badArgument_iff (s : State) (c : MailCommand) : s.badArgument c = true ↔ badArgRule s c := by
  cases c with
  | fence count zones => exact s.badFence_iff count zones
  | priority mode oneShot =>
    simp only [State.badArgument, badArgRule, Bool.or_eq_true, PriorityMode.ofCode_isNone_iff, oneShotOfCode_isNone_iff]
  | clearStop arm => exact armOfCode_isNone_iff arm
  | restartLane lane => exact armOfCode_isNone_iff lane
  | _ => simp [State.badArgument, badArgRule]

theorem MailCommand.needsLock_iff (p : Port) (c : MailCommand) : c.needsLock p = true ↔ lockRule p c := by
  cases c with
  | clearStop arm => exact decide_eq_true_iff.trans (not_congr (armOfCode_eq_some_iff arm p))
  | _ => simp [MailCommand.needsLock, lockRule]

theorem MailCommand.notOwn_iff (p : Port) (c : MailCommand) : c.notOwn p = true ↔
    ∃ lane, c = .restartLane lane ∧ lane ≠ (match p with | .a => 0 | .b => 1) := by
  cases c with
  | restartLane lane => simp [MailCommand.notOwn, armOfCode_eq_some_iff]
  | _ => simp [MailCommand.notOwn]

theorem MailCommand.isInstall_iff (c : MailCommand) : c.isInstall = true ↔ ∃ mask window, c = .install mask window := by
  cases c <;> simp [MailCommand.isInstall]

/-- R160: the conditions in their order. -/
theorem State.mailRefusal_order (s : State) (p : Port) (c : MailCommand) :
    (c = .unknown → s.mailRefusal p c = some .badCommand) ∧
    (c ≠ .unknown → s.badArgument c = true → s.mailRefusal p c = some .badArg) ∧
    (c ≠ .unknown → s.badArgument c = false →
      (c.needsLock p = true → s.lock.holder ≠ some p → s.mailRefusal p c = some .noLock) ∧
      (¬ (c.needsLock p = true ∧ s.lock.holder ≠ some p) →
        (c.notOwn p = true → s.mailRefusal p c = some .notOwn) ∧
        (c.notOwn p = false → c.isInstall = true → s.install.state = .pending → s.mailRefusal p c = some .busy) ∧
        (c.notOwn p = false → ¬ (c.isInstall = true ∧ s.install.state = .pending) → s.mailRefusal p c = none))) := by
  unfold State.mailRefusal
  refine ⟨fun unknown => if_pos unknown, fun known bad => ?_, fun known good => ⟨fun needs lacks => ?_, fun locked =>
    ⟨fun other => ?_, fun own install pending => ?_, fun own free => ?_⟩⟩⟩
  · rw [if_neg known, if_pos bad]
  · rw [if_neg known, good, if_neg Bool.false_ne_true, if_pos ⟨needs, lacks⟩]
  · rw [if_neg known, good, if_neg Bool.false_ne_true, if_neg locked, if_pos other]
  · rw [if_neg known, good, if_neg Bool.false_ne_true, if_neg locked, own, if_neg Bool.false_ne_true, if_pos ⟨install, pending⟩]
  · rw [if_neg known, good, if_neg Bool.false_ne_true, if_neg locked, own, if_neg Bool.false_ne_true, if_neg free]

end Sys2Proof.Machine

open Sys2Proof Sys2Proof.Machine

/-- Settles O29: the layout and the codes by their tables, the tests in their order, and a refused command as one whose result is
all that it leaves. -/
theorem refusedMailCommandChangesOnlyItsResult : Obligations.RefusedMailCommandChangesOnlyItsResult := by
  refine ⟨mailLayout_of_length, codeTable_holds, fun s p c => ⟨s.badArgument_iff c, c.needsLock_iff p, c.notOwn_iff p,
    c.isInstall_iff, s.mailRefusal_order p c⟩, fun s p r h refused => ?_⟩
  have ran := exec_surveyTick_of_tickWith h
  rw [State.takeMail_of_refused refused] at ran
  have wf : s.memoryOk := h.1
  exact ⟨_, ran, State.answered_shown (v := s.survey.ticked) wf rfl rfl s.fence p r _⟩
end

section
/-! SUPPORT. R160–R162, R165, R166, R169: the commands that a tick carries out or accepts, each with what it leaves. -/

namespace Sys2Proof.Machine

section
variable {s : State} {p : Port} {tag : Byte}

/-- R160, R161: a command that is taken passed every test. -/
theorem State.good_of_taken {c : MailCommand} (taken : s.mailRefusal p c = none) : ¬ badArgRule s c ∧ c.notOwn p = false := by
  obtain ⟨unknown, bad, tested⟩ := s.mailRefusal_order p c
  have known : c ≠ .unknown := fun e => by simp [unknown e] at taken
  have good : s.badArgument c = false := Bool.eq_false_iff.mpr fun b => by simp [bad known b] at taken
  obtain ⟨lacks, later⟩ := tested known good
  have locked : ¬ (c.needsLock p = true ∧ s.lock.holder ≠ some p) := fun ⟨needs, lock⟩ => by simp [lacks needs lock] at taken
  refine ⟨fun b => ?_, Bool.eq_false_iff.mpr fun other => ?_⟩
  · simp [(s.badArgument_iff c).mpr b] at good
  · simp [(later locked).1 other] at taken

/-! ## HOLD, PERIOD, PRIORITY and FENCE (R101, R105, R115, R142, R143) -/

/-- The tick of a command that puts the survey arbiter alone. -/
theorem State.surveyed_shown (wf : s.memoryOk) {v : Survey} (sip : v.sip = true) (timer : v.timer = s.survey.ticked.timer) (p : Port)
    (tag : Byte) :
    let u := ((s.begun.setSurvey v).writeMailResult p .done none tag).requested
    u = { s with survey := u.survey, waiting := u.waiting, mem := u.mem, ports := u.ports } ∧ u.survey = v ∧ s.asIdleTick u ∧
      s.portsAfter u p [.mailbox] [] ∧ u.mailResult p tag .done 0 ∧ s.wordsKept u (0x004 :: mailResultWords p) := by
  have same : (s.begun.setSurvey v).writeMailResult p .done none tag = s.answered v s.fence p .done tag := rfl
  obtain ⟨frame, shown⟩ := State.answered_shown wf sip timer s.fence p .done tag
  dsimp only
  rw [same]
  generalize (s.answered v s.fence p .done tag).requested = u at *
  have survey : u.survey = v := by rw [frame]
  exact ⟨by rw [survey]; exact frame, survey, shown⟩

theorem Survey.setHold_eq (v : Survey) {n : Nat} (h : ¬ 1 < n) : v.setHold (decide (n = 1)) =
    { v with hold := decide (n = 1), restart := v.restart || (v.hold && decide (n = 0)) } := by
  have lifts : (!decide (n = 1)) = decide (n = 0) := by
    obtain rfl | rfl : n = 0 ∨ n = 1 := by omega
    · rfl
    · rfl
  rw [Survey.setHold, lifts]

/-- R161: the two codes of a PRIORITY that is taken. -/
theorem priority_of_taken {m o : Nat} (taken : s.mailRefusal p (.priority m o) = none) :
    ∃ mode one, PriorityMode.ofCode m = some mode ∧ oneShotOfCode o = some one := by
  obtain ⟨good, -⟩ := State.good_of_taken taken
  rw [badArgRule, not_or, ← PriorityMode.ofCode_isNone_iff, ← oneShotOfCode_isNone_iff, Bool.not_eq_true, Bool.not_eq_true,
    Option.isNone_eq_false_iff, Option.isNone_eq_false_iff, Option.isSome_iff_exists, Option.isSome_iff_exists] at good
  obtain ⟨⟨mode, modeCode⟩, one, oneCode⟩ := good
  exact ⟨mode, one, modeCode, oneCode⟩

/-- R178: a zone number of a FENCE has five bits. -/
theorem lt_of_mem_fence {n : Nat} {zs : List Nat} (command : s.mailCommand p = .fence n zs) {z : Nat} (hz : z ∈ zs) : z < 32 := by
  have bits : ∀ ws : List Word, ∀ z ∈ fenceZones ws, z < 32 := fun ws z hz => by
    obtain ⟨w, -, hw⟩ := List.mem_flatMap.mp hz
    simp only [bitsAt, List.mem_cons, List.not_mem_nil, or_false] at hw
    omega
  unfold State.mailCommand MailCommand.ofWords at command
  dsimp only at command
  split at command <;> simp only [reduceCtorEq, MailCommand.fence.injEq] at command
  obtain ⟨-, rfl⟩ := command
  exact bits _ z (List.mem_of_mem_take hz)

/-- R142: the fence set holds the zone numbers of the list, each once. -/
theorem fenceSetOf_spec {zs : List Nat} (low : ∀ z ∈ zs, z < 32) : (fenceSetOf zs).Nodup ∧ ∀ z, z ∈ fenceSetOf zs ↔ z ∈ zs := by
  refine ⟨List.nodup_range.filter _, fun z => ?_⟩
  simp only [fenceSetOf, List.mem_filter, List.mem_range, List.contains_iff_mem, and_iff_right_iff_imp]
  exact low z

/-- R143: every zone number of a FENCE that is taken is one of the active table's. -/
theorem fence_of_taken {n : Nat} {zs : List Nat} (taken : s.mailRefusal p (.fence n zs) = none) {z : Nat} (hz : z ∈ zs) :
    ∃ t, s.active = some t ∧ z < t.nz.toNat := by
  obtain ⟨good, -⟩ := State.good_of_taken taken
  simp only [badArgRule, not_or, not_exists, not_and, not_forall, not_le] at good
  obtain ⟨-, zones⟩ := good
  obtain ⟨t, table, low⟩ := zones z hz
  exact ⟨t, table, low⟩

/-! ## INSTALL, and ABANDON in PENDING (R165, R166, R169) -/

/-- R162, R166: a command that changes the install record, with its result. -/
def State.installAnswered (s : State) (i : Install) (p : Port) (r : MailResult) (tag : Byte) : State :=
  (s.begun.changeInstall i).writeMailResult p r none tag

theorem State.installAnswered_mailWork (s : State) (i : Install) (p : Port) (r : MailResult) (tag : Byte) :
    s.begun.MailWork (s.installAnswered i p r tag) p :=
  (s.begun.changeInstall_mailWork p i).trans (State.writeMailResult_mailWork _ p r none tag)

theorem State.installAnswered_shown (wf : s.memoryOk) (i : Install) (p : Port) (r : MailResult) (tag : Byte) :
    let u := (s.installAnswered i p r tag).requested
    u = { s with survey := s.survey.ticked, install := i, waiting := u.waiting, mem := u.mem, ports := u.ports } ∧
      u.waiting = s.waiting ++ [tickGroup (decide (s.accepted ≠ [] ∨ i.state = .pending)) (decide (s.refill.state = .requested))] ∧
      s.portsAfter u p [.install, .mailbox] [.install] ∧ u.word 0x008 = u.installWord ∧ u.word 0x009 = i.pendingSerial ∧
      u.word 0x00A = i.activeSerial ∧ u.word 0x004 = u.statusWord ∧ u.mailResult p tag r 0 ∧
      s.wordsKept u ([0x004, 0x008, 0x009, 0x00A] ++ mailResultWords p) := by
  obtain ⟨-, begins⟩ := State.begun_shown wf
  have work := s.installAnswered_mailWork i p r tag
  have status := work.status wf
  have frame := work.frame
  obtain ⟨state, pendingSerial, activeSerial, record⟩ := State.changeInstall_shown (State.begun_memoryOk wf) i
  obtain ⟨result, kept⟩ := State.writeMailResult_words (State.changeInstall_memoryOk (State.begun_memoryOk wf) i) p r none tag
  have ports := State.writeMailResult_ports (s.begun.changeInstall i) p r none tag
  have flagged := s.begun.changeInstall_port i
  have own : (s.installAnswered i p r tag).survey = s.survey.ticked ∧ (s.installAnswered i p r tag).install = i ∧
    (s.installAnswered i p r tag).fence = s.fence ∧ (s.installAnswered i p r tag).accepted = s.accepted := by
    simp [State.installAnswered, State.begun]
  have inner : (s.begun.changeInstall i).installWord = (s.installAnswered i p r tag).installWord := by
    simp [State.installWord, State.installAnswered]
  rw [← State.installAnswered] at result kept ports
  generalize s.installAnswered i p r tag = y at *
  obtain ⟨survey, install, fence, accepted⟩ := own
  rw [survey, install, fence, accepted] at frame
  have off : ∀ a ∈ installWords, a ∉ mailResultWords p := by cases p <;> decide
  dsimp only
  rw [State.requested_eq]
  refine ⟨?_, ?_, State.portsAfter_of_flags ?_ ?_ ?_, ?_, ?_, ?_, status, result, fun a ha => ?_⟩
  · rw [frame]
    rfl
  · rw [frame]
    rfl
  · rw [frame]
    rfl
  · rw [State.setWaiting_ports, ports, Pair_get_modify_same, flagged]
    simp [PortRegs.raised, flagBits_cons, BitVec.or_assoc, State.begun]
  · rw [State.setWaiting_ports, ports, Pair_get_modify_other, flagged]
    simp [PortRegs.raised, State.begun]
  · exact (kept _ (off _ (by simp))).trans (state.trans inner)
  · exact (kept _ (off _ (by simp))).trans pendingSerial
  · exact (kept _ (off _ (by simp))).trans activeSerial
  · simp only [List.cons_append, List.nil_append, List.mem_cons, not_or] at ha
    obtain ⟨h4, h8, h9, h10, half⟩ := ha
    exact (kept a half).trans ((record a (by simp [h8, h9, h10])).trans (begins a h4))

/-- R169: an ABANDON out of PENDING changes nothing. -/
theorem State.abandon_of_not_pending (h : s.install.state ≠ .pending) : s.abandon = s := if_neg h

theorem State.abandon_of_pending (h : s.install.state = .pending) : s.abandon = s.changeInstall (s.install.dropped .abandoned) :=
  if_pos h

theorem State.carryOutAtOnce_abandon (h : s.install.state = .pending) :
    s.begun.carryOutAtOnce [] 0 p tag .abandon = s.installAnswered (s.install.dropped .abandoned) p .done tag :=
  congrArg (·.writeMailResult p .done none tag) (State.abandon_of_pending (s := s.begun) h)

theorem State.carryOutAtOnce_abandon_idle (h : s.install.state ≠ .pending) :
    s.begun.carryOutAtOnce [] 0 p tag .abandon = s.answered s.survey.ticked s.fence p .done tag :=
  congrArg (·.writeMailResult p .done none tag) (State.abandon_of_not_pending (s := s.begun) h)

/-- R183: the order in which two flags are set does not matter. -/
theorem State.portsAfter_flags_comm {u : State} {f g : Flag} {others : List Flag} (h : s.portsAfter u p [f, g] others) :
    s.portsAfter u p [g, f] others := by
  have bits : flagBits [g, f] = flagBits [f, g] := by simp [flagBits_cons, BitVec.or_comm]
  exact ⟨by rw [h.1, State.portAfter, State.portAfter, bits], h.2⟩

/-- R166: the install record of a copy that validation refuses. -/
def Install.invalidated (i : Install) (r : Reason) (t : ZoneTable) : Install :=
  { i with state := .invalid, reason := some r, pendingSerial := t.serial }

/-- R165: the install record of a copy that validation lets through. -/
def Install.begun (i : Install) (mask : GateMask) (window : Nat) (t : ZoneTable) : Install :=
  { i with
    state := .pending, reason := none, pendingSerial := t.serial, pendingTable := some ⟨t, mask⟩
    window := some (window * 1000000) }

theorem State.beginInstall_of_invalid {t : ZoneTable} {r : Reason} (invalid : t.validate = some r) (mask : GateMask) (window : Nat) :
    s.begun.beginInstall p tag mask window t = s.installAnswered (s.install.invalidated r t) p .done tag := by
  rw [State.beginInstall, invalid]
  rfl

theorem State.beginInstall_of_valid {t : ZoneTable} (valid : t.validate = none) (mask : GateMask) (window : Nat) :
    s.begun.beginInstall p tag mask window t = s.installAnswered (s.install.begun mask window t) p .accepted tag := by
  rw [State.beginInstall, valid]
  rfl

/-- R165: the tick's first writes leave the staging words. -/
theorem State.begun_stagedTable (s : State) : s.begun.stagedTable = s.stagedTable :=
  congrArg ZoneTable.ofWords (List.map_congr_left fun _ _ => s.begun_word (by omega))

/-! ## CLEAR_STOP and RESTART_LANE (R102, R160) -/

theorem State.accepted_shown (wf : s.memoryOk) (p : Port) (tag : Byte) (c : ServiceCommand) :
    let u := (s.begun.accept p tag c).requested
    u = { s with
        survey := s.survey.ticked, accepted := s.accepted ++ [⟨p, tag, c⟩]
        waiting := s.waiting ++ [tickGroup true (decide (s.refill.state = .requested))], mem := u.mem } ∧ s.statusShown u := by
  dsimp only
  rw [State.requested_eq]
  have group : (s.begun.accept p tag c).tickGroupOf = tickGroup true (decide (s.refill.state = .requested)) := by
    have some : decide ((s.begun.accept p tag c).accepted ≠ [] ∨ (s.begun.accept p tag c).install.state = .pending) = true := by
      simp [State.accept]
    rw [State.tickGroupOf, some]
    rfl
  rw [group]
  exact ⟨rfl, State.begun_shown wf⟩

/-- R160: the tick that accepts a CLEAR_STOP or a RESTART_LANE. -/
theorem exec_surveyTick_of_accepted {c : MailCommand} {x : ServiceCommand} (h : s.tickWith p) (command : s.mailCommand p = c)
    (taken : s.mailRefusal p (s.mailCommand p) = none)
    (accepts : s.begun.carryOutAtOnce [] 0 p (tagOf (s.word (mailboxBase p))) c =
      s.begun.accept p (tagOf (s.word (mailboxBase p))) x) :
    exec (.surveyTick []) s = .next (s.begun.accept p (tagOf (s.word (mailboxBase p))) x).requested := by
  rw [exec_surveyTick_of_tickWith h, State.takeMail_of_taken taken, command, accepts]

end

end Sys2Proof.Machine

open Sys2Proof Sys2Proof.Machine

/-- Settles O30, command by command: four answer after they put the survey arbiter or the fence set, ABANDON drops the install
record where it is PENDING, and the last two are accepted. -/
theorem commandsCarriedOutAtTheTick : Obligations.CommandsCarriedOutAtTheTick := by
  refine ⟨fun s p h taken => ?_, fun s p arm n h taken names => ⟨fun command => ?_, fun command => ?_⟩⟩
  · have wf : s.memoryOk := h.1
    have ran := exec_surveyTick_of_tickWith h
    rw [State.takeMail_of_taken taken] at ran
    refine ⟨fun n command => ?_, fun code command => ?_, fun m o command => ?_, fun n zs command => ?_, fun command => ?_⟩
    all_goals rw [command] at ran
    · rw [command] at taken
      obtain ⟨good, -⟩ := State.good_of_taken taken
      rw [← Survey.setHold_eq _ good]
      exact ⟨_, ran, State.surveyed_shown (v := s.survey.ticked.setHold (decide (n = 1))) wf rfl rfl p _⟩
    · rw [command] at taken
      obtain ⟨good, -⟩ := State.good_of_taken taken
      obtain ⟨frame, survey, shown⟩ := State.surveyed_shown (v := s.survey.ticked.setPeriod code) wf rfl rfl p
        (tagOf (s.word (mailboxBase p)))
      exact ⟨_, ran, frame, survey, not_lt.mp good, shown⟩
    · rw [command] at taken
      obtain ⟨mode, one, modeCode, oneCode⟩ := priority_of_taken taken
      simp only [State.carryOutAtOnce, modeCode, oneCode] at ran
      refine ⟨_, mode, one, modeCode, oneCode, ran, ?_⟩
      exact State.surveyed_shown (v := s.survey.ticked.setPriority mode one) wf rfl rfl p _
    · obtain ⟨once, member⟩ := fenceSetOf_spec fun z hz => lt_of_mem_fence command hz
      rw [command] at taken
      obtain ⟨frame, shown⟩ := State.answered_shown (v := s.survey.ticked) wf rfl rfl (fenceSetOf zs) p .done
        (tagOf (s.word (mailboxBase p)))
      change exec _ _ = .next (s.answered s.survey.ticked (fenceSetOf zs) p .done (tagOf (s.word (mailboxBase p)))).requested at ran
      generalize (s.answered s.survey.ticked (fenceSetOf zs) p .done (tagOf (s.word (mailboxBase p)))).requested = u at *
      have fence : u.fence = fenceSetOf zs := by rw [frame]
      refine ⟨u, ran, by rw [fence]; exact frame, ?_⟩
      rw [fence]
      exact ⟨once, member, fun z hz => fence_of_taken taken ((member z).mp hz), shown⟩
    · by_cases pending : s.install.state = .pending
      · obtain ⟨frame, waiting, ports, state, -, -, status, result, kept⟩ := State.installAnswered_shown wf
          (s.install.dropped .abandoned) p .done (tagOf (s.word (mailboxBase p)))
        rw [State.carryOutAtOnce_abandon pending] at ran
        generalize (s.installAnswered (s.install.dropped .abandoned) p .done _).requested = u at *
        have install : u.install = s.install.dropped .abandoned := by rw [frame]
        refine ⟨u, ran, by rw [install]; exact frame, result, status, ?_, fun other => absurd pending other, fun _ =>
          ⟨install, State.portsAfter_flags_comm ports, state.trans (State.installWord_of_dropped install), kept⟩⟩
        simpa [Install.dropped] using waiting
      · obtain ⟨frame, ⟨waiting, status⟩, ports, result, kept⟩ := State.answered_shown (v := s.survey.ticked) wf rfl rfl s.fence p .done
          (tagOf (s.word (mailboxBase p)))
        rw [State.carryOutAtOnce_abandon_idle pending] at ran
        generalize (s.answered s.survey.ticked s.fence p .done _).requested = u at *
        have install : u.install = s.install := by rw [frame]
        refine ⟨u, ran, by rw [install]; exact frame, result, status, ?_, fun _ => ⟨install, ports, kept⟩,
          fun other => absurd other pending⟩
        simpa [pending] using waiting
  · have ran := exec_surveyTick_of_accepted (x := .clearStop arm) h command taken (by simp only [State.carryOutAtOnce, names])
    exact ⟨_, ran, State.accepted_shown h.1 p _ _⟩
  · have ran := exec_surveyTick_of_accepted (x := .restartLane arm) h command taken (by simp only [State.carryOutAtOnce, names])
    rw [command] at taken
    obtain ⟨-, own⟩ := State.good_of_taken taken
    have same : arm = p := by
      simpa [MailCommand.notOwn, names] using own
    obtain ⟨frame, shown⟩ := State.accepted_shown h.1 p (tagOf (s.word (mailboxBase p))) (.restartLane arm)
    exact ⟨_, ran, same, frame, shown⟩

/-- Settles O31: the copy is validated, and either outcome is a change of the install record with its result. -/
theorem installCopiesTheStagingTable : Obligations.InstallCopiesTheStagingTable := by
  intro s p mask window h command taken
  have wf : s.memoryOk := h.1
  have ran := exec_surveyTick_of_tickWith h
  rw [State.takeMail_of_taken taken, command, State.carryOutAtOnce_install, State.begun_stagedTable] at ran
  have table : ZoneTable.ofWords ((List.range 256).map (fun k => s.word (0x300 + k))) = s.stagedTable := rfl
  dsimp only
  rw [table]
  generalize s.stagedTable = t at *
  cases valid : t.validate with
  | some r =>
    rw [State.beginInstall_of_invalid valid] at ran
    obtain ⟨frame, waiting, ports, state, pendingSerial, activeSerial, status, result, kept⟩ := State.installAnswered_shown wf
      (s.install.invalidated r t) p .done (tagOf (s.word (mailboxBase p)))
    generalize (s.installAnswered (s.install.invalidated r t) p .done _).requested = u at *
    have install : u.install = s.install.invalidated r t := by rw [frame]
    refine ⟨u, ran, by rw [install]; exact frame, ports, pendingSerial, activeSerial, status, kept, fun r' same => ?_, nofun⟩
    obtain rfl := Option.some.inj same
    refine ⟨install, ?_, result, ?_⟩
    · rw [state, State.installWord, install]
      rfl
    · simpa [Install.invalidated] using waiting
  | none =>
    rw [State.beginInstall_of_valid valid] at ran
    obtain ⟨frame, waiting, ports, state, pendingSerial, activeSerial, status, result, kept⟩ := State.installAnswered_shown wf
      (s.install.begun mask window t) p .accepted (tagOf (s.word (mailboxBase p)))
    generalize (s.installAnswered (s.install.begun mask window t) p .accepted _).requested = u at *
    have install : u.install = s.install.begun mask window t := by rw [frame]
    refine ⟨u, ran, by rw [install]; exact frame, ports, pendingSerial, activeSerial, status, kept, nofun, fun _ => ⟨install, ?_,
      result, ?_⟩⟩
    · rw [state, State.installWord_of_noReason (by rw [install]; rfl), install]
      rfl
    · simpa [Install.begun] using waiting
end

section
/-! SUPPORT. R159, R160, R171: a word of a mailbox's request half that a port rewrites passes through the rest of a tick: what the
tick does is the same, but for that word. -/

namespace Sys2Proof.Machine

/-! ## Memory (R171) -/

theorem Memory.write_read {m : Memory} (wf : m.wf = true) (a : Nat) : m.write a (m.read a) = m := by
  refine Memory.eq_of_read (lo := 0) (Memory.wf_write a _ wf) wf fun c => ?_
  rw [Memory.read_write _ _ _ wf]
  by_cases h : c = a <;> simp [h]

section
variable {s : State} {a : Nat}

theorem State.writeWord_word (wf : s.memoryOk) {v : Word} (same : s.word a = v) : s.writeWord a v = s :=
  congrArg s.setMem (same ▸ Memory.write_read wf a)

theorem State.writeWord_writeWord (wf : s.memoryOk) (v w : Word) : (s.writeWord a v).writeWord a w = s.writeWord a w :=
  congrArg s.setMem (Memory.write_write wf a v w)

/-- R171, R178: no word that a port writes is one that a command taken writes. -/
theorem State.MailWork.word_of_portWritten {u : State} {p : Port} (h : s.MailWork u p) (port : portWritten a = true) :
    u.word a = s.word a := by
  refine h.words a fun m => ?_
  have guard : ∀ b ∈ installWords ++ mailResultWords p, portWritten b = false := by cases p <;> decide
  simp [guard a m] at port

end

/-! ## The words of a request half (R171, R178) -/

theorem inMailboxRequest_word (p : Port) {i : Nat} (hi : i < 16) : inMailboxRequest p (mailboxBase p + i) = true := by
  simp [inMailboxRequest, hi]

theorem portWritten_mailbox (p : Port) {i : Nat} (hi : i < 16) : portWritten (mailboxBase p + i) = true := by
  have half := inMailboxRequest_word p hi
  cases p <;> simp [portWritten, inRequestHalf, half]

theorem inStaging_mailbox (p : Port) {i : Nat} (hi : i < 16) : inStaging (mailboxBase p + i) = false := by
  rw [inStaging, decide_eq_false (by cases p <;> simp only [mailboxBase] <;> omega), Bool.false_and]

theorem mailboxWord_ne_other (p : Port) {i j : Nat} (hi : i < 32) (hj : j < 32) : mailboxBase p.other + j ≠ mailboxBase p + i := by
  cases p <;> simp only [Side.other, mailboxBase] <;> omega

/-! ## The commands (R160–R162, R165) -/

section
variable {a : Nat} {v : Word} {s t : State}

theorem State.Rewritten.writeGuard (h : Rewritten a v s t) {b : Nat} (guard : portWritten b = false) (w : Word) :
    Rewritten a v (s.writeWord b w) (t.writeWord b w) where
  eq := by
    have ne : a ≠ b := fun e => by simpa [e, guard] using h.port
    rw [h.eq]
    exact congrArg s.setMem (Memory.write_comm h.canonical ne v w)
  canonical := Memory.wf_write b w h.canonical
  port := h.port

theorem State.Rewritten.setWaiting (h : Rewritten a v s t) (w : List (List Request)) :
    Rewritten a v (s.setWaiting w) (t.setWaiting w) :=
  h.unseen (F := fun s => s.setWaiting w) rfl rfl

theorem State.Rewritten.begun (h : Rewritten a v s t) : Rewritten a v s.begun t.begun := by
  have same : (t.setSurvey s.survey.ticked).statusWord = (s.setSurvey s.survey.ticked).statusWord := by rw [h.eq]; rfl
  unfold State.begun State.writeStatus
  rw [h.survey, same]
  exact (h.setSurvey s.survey.ticked).writeGuard (by decide) _

theorem State.Rewritten.requested (h : Rewritten a v s t) : Rewritten a v s.requested t.requested := by
  have waiting : t.waiting = s.waiting := by rw [h.eq]; rfl
  have group : t.tickGroupOf = s.tickGroupOf := by rw [h.eq]; rfl
  rw [State.requested_eq, State.requested_eq, waiting, group]
  exact h.setWaiting _

theorem State.Rewritten.writeMailResult (h : Rewritten a v s t) (p : Port) (r : MailResult) (x : Option HeldReason) (tag : Byte) :
    Rewritten a v (s.writeMailResult p r x tag) (t.writeMailResult p r x tag) := by
  have guard : ∀ b ∈ mailResultWords p, portWritten b = false := by cases p <;> decide
  have half : ∀ i < 3, portWritten (mailboxBase p + 16 + i) = false := fun i hi => guard _ ((mem_offsets ..).mpr (by omega))
  exact (((h.writeGuard (half 2 (by omega)) _).writeGuard (half 1 (by omega)) _).writeGuard (half 0 (by omega)) _).raise .mailbox p

theorem State.Rewritten.changeInstall (h : Rewritten a v s t) (i : Install) : Rewritten a v (s.changeInstall i) (t.changeInstall i) := by
  have put := h.unseen (F := fun s => s.setInstall i) rfl rfl
  have written := ((put.writeGuard (b := 0x008) (by decide) (s.setInstall i).installWord).writeGuard (b := 0x009) (by decide)
    i.pendingSerial).writeGuard (b := 0x00A) (by decide) i.activeSerial
  exact (written.raise .install .a).raise .install .b

theorem State.Rewritten.stagedTable (h : Rewritten a v s t) (staging : inStaging a = false) : t.stagedTable = s.stagedTable := by
  refine congrArg ZoneTable.ofWords (List.map_congr_left fun k hk => h.word fun e => ?_)
  have := List.mem_range.mp hk
  simp [← e, inStaging] at staging
  omega

theorem State.Rewritten.beginInstall (h : Rewritten a v s t) (p : Port) (tag : Byte) (k : GateMask) (window : Nat) (z : ZoneTable) :
    Rewritten a v (s.beginInstall p tag k window z) (t.beginInstall p tag k window z) := by
  have install : t.install = s.install := by rw [h.eq]; rfl
  unfold State.beginInstall
  rw [install]
  split
  · exact (h.changeInstall _).writeMailResult p .done none tag
  · exact (h.changeInstall _).writeMailResult p .accepted none tag

theorem State.Rewritten.abandon (h : Rewritten a v s t) : Rewritten a v s.abandon t.abandon := by
  have install : t.install = s.install := by rw [h.eq]; rfl
  unfold State.abandon State.dropInstall
  rw [install]
  split
  · exact h.changeInstall _
  · exact h

theorem State.Rewritten.accept (h : Rewritten a v s t) (p : Port) (tag : Byte) (c : ServiceCommand) :
    Rewritten a v (s.accept p tag c) (t.accept p tag c) :=
  h.unseen (F := fun s => s.accept p tag c) rfl rfl

theorem State.Rewritten.carryOutAtOnce (h : Rewritten a v s t) (staging : inStaging a = false) (p : Port) (tag : Byte)
    (c : MailCommand) : Rewritten a v (s.carryOutAtOnce [] 0 p tag c) (t.carryOutAtOnce [] 0 p tag c) := by
  have put : ∀ w, Rewritten a v ((s.setSurvey w).writeMailResult p .done none tag) ((t.setSurvey w).writeMailResult p .done none tag) :=
    fun w => (h.setSurvey w).writeMailResult p .done none tag
  cases c with
  | install k window =>
    rw [State.carryOutAtOnce_install, State.carryOutAtOnce_install, h.stagedTable staging]
    exact h.beginInstall p tag k window _
  | abandon => exact h.abandon.writeMailResult p .done none tag
  | fence _ zones =>
    exact (h.unseen (F := fun s => s.setFence (fenceSetOf zones)) rfl rfl).writeMailResult p .done none tag
  | priority m o =>
    unfold State.carryOutAtOnce
    dsimp only
    rw [h.survey]
    split
    · exact put _
    · exact h
  | hold n =>
    unfold State.carryOutAtOnce
    dsimp only
    rw [h.survey]
    exact put _
  | period code =>
    unfold State.carryOutAtOnce
    dsimp only
    rw [h.survey]
    exact put _
  | clearStop n =>
    unfold State.carryOutAtOnce
    dsimp only
    split
    · exact h.accept p tag _
    · exact h
  | restartLane n =>
    unfold State.carryOutAtOnce
    dsimp only
    split
    · exact h.accept p tag _
    · exact h
  | unknown => exact h

theorem State.Rewritten.takeMail (h : Rewritten a v s t) (staging : inStaging a = false) (p : Port) (tag : Byte) (c : MailCommand) :
    Rewritten a v (s.takeMail [] 0 p tag c) (t.takeMail [] 0 p tag c) := by
  have same : t.mailRefusal p c = s.mailRefusal p c := by rw [h.eq]; rfl
  unfold State.takeMail
  rw [same]
  split
  · exact h.writeMailResult p _ none tag
  · exact h.carryOutAtOnce staging p tag c

/-- R159, R160: the visit of one mailbox does not see the other's request half. -/
theorem State.Rewritten.visitMailbox {p : Port} {i : Nat} (hi : i < 16) (h : Rewritten (mailboxBase p + i) v s t) :
    Rewritten (mailboxBase p + i) v (s.visitMailbox [] p.other) (t.visitMailbox [] p.other) := by
  obtain ⟨post, new, command⟩ := State.mail_congr (p := p.other) fun j hj =>
    h.word (mailboxWord_ne_other p (i := i) (j := j) (by omega) (by omega))
  rw [State.visitMailbox_nil, State.visitMailbox_nil, if_congr new rfl rfl, post, command]
  split
  · exact h.takeMail (inStaging_mailbox p hi) p.other _ _
  · exact h

/-- A port's word rewritten. -/
theorem State.rewritten_mailbox (wf : s.memoryOk) (p : Port) {i : Nat} (hi : i < 16) (v : Word) :
    Rewritten (mailboxBase p + i) v s (s.writeWord (mailboxBase p + i) v) :=
  ⟨rfl, wf, portWritten_mailbox p hi⟩

end

end Sys2Proof.Machine
end

section
/-! SUPPORT. R159: a port's write that falls within a mailbox's double read: a post tag rewritten after its first read leaves the
mailbox; another word of the request half is taken as it was or as it is. -/

namespace Sys2Proof.Machine

/-! ## One arrival among the reads of a mailbox -/

/-- A record within whose read an event arrives. -/
theorem readRecord_single {x : Arrival} {point base result n : Nat} (h : point ≤ x.point ∧ x.point < point + n + 2) (s : State) :
    let t := s.arrive x.event
    let first := if x.point = point then t else s
    readRecord [x] point base result n s =
      { tag := tagOf (first.word base), isNew := decide (tagOf (first.word base) ≠ tagOf (first.word result))
        agrees := decide (tagOf (t.word base) = tagOf (first.word base))
        words := (List.range n).map (fun j => if point + 1 + j < x.point then s.word (base + j) else t.word (base + j))
        after := t } := by
  unfold readRecord
  dsimp only
  simp only [State.arriveAt_single]
  obtain first | among | last : x.point = point ∨ (point + 1 ≤ x.point ∧ x.point < point + 1 + n) ∨ x.point = point + 1 + n := by omega
  · have later : ∀ j, ¬ point + 1 + j < x.point := fun j => by omega
    rw [readRun_elsewhere (by omega), if_pos first, if_neg (by omega)]
    simp only [later, if_false]
  · rw [if_neg (by omega), readRun_among among, if_neg (by omega)]
  · have sooner : ∀ j ∈ List.range n, point + 1 + j < x.point := fun j hj => by
      have := List.mem_range.mp hj
      omega
    rw [if_neg (by omega), readRun_elsewhere (by omega), if_pos last]
    congr 1
    exact List.map_congr_left fun j hj => (if_pos (sooner j hj)).symm

/-- The points of a mailbox's double read. -/
abbrev inMailRead (p : Port) (point : Nat) : Prop := mailPoint p ≤ point ∧ point < mailPoint p + 18

section
variable {x : Arrival} {p : Port} {s : State}

/-- An arrival outside the points of an INSTALL's copy. -/
theorem State.takeMail_elsewhere {point : Nat} (h : x.point < point ∨ point + 256 ≤ x.point) (p : Port) (tag : Byte)
    (c : MailCommand) (s : State) : s.takeMail [x] point p tag c = s.takeMail [] 0 p tag c := by
  unfold State.takeMail
  split
  · rfl
  · cases c with
    | install k window =>
      rw [State.carryOutAtOnce_install]
      unfold State.carryOutAtOnce
      dsimp only
      rw [readRun_elsewhere h]
      rfl
    | _ => rfl

theorem State.arriveBetween_elsewhere {lo hi : Nat} (h : x.point < lo ∨ hi ≤ x.point) (s : State) :
    s.arriveBetween [x] lo hi = s := by
  have outside : ¬ (lo ≤ x.point ∧ x.point < hi) := by omega
  simpa [State.arriveBetween, State.arriveWhen_single] using fun low high => absurd ⟨low, high⟩ outside

/-- The visit of a mailbox does not see an arrival within the other's double read. -/
theorem State.visitMailbox_elsewhere (h : inMailRead p x.point) (s : State) :
    s.visitMailbox [x] p.other = s.visitMailbox [] p.other := by
  have far : x.point < mailPoint p.other ∨ mailPoint p.other + 274 ≤ x.point := by
    cases p <;> simp only [inMailRead, mailPoint, Side.other] at h ⊢ <;> omega
  have read : ∀ b, readRecord [x] (mailPoint p.other) b (b + 16) 16 s = readRecord [] (mailPoint p.other) b (b + 16) 16 s := fun b => by
    rw [readRecord_nil, readRun_nil]
    unfold readRecord
    dsimp only
    rw [State.arriveAt_single, if_neg (by omega), readRun_elsewhere (by omega), State.arriveAt_single, if_neg (by omega)]
    simp
  unfold State.visitMailbox
  dsimp only
  simp only [read, State.takeMail_elsewhere (show x.point < mailPoint p.other + 18 ∨ mailPoint p.other + 18 + 256 ≤ x.point by omega),
    State.takeMail_point, State.arriveBetween_elsewhere (show x.point < mailPoint p.other + 18 ∨
      mailPoint p.other + 18 + 256 ≤ x.point by omega), State.arriveBetween_nil]

/-- A visit within whose double read an event arrives. -/
theorem State.visitMailbox_within (h : inMailRead p x.point) (s : State) :
    s.visitMailbox [x] p =
      let b := mailboxBase p
      let t := s.arrive x.event
      let first := if x.point = mailPoint p then t else s
      let words := (List.range 16).map
        (fun n => if mailPoint p + 1 + n < x.point then s.word (b + n) else t.word (b + n))
      if tagOf (first.word b) ≠ tagOf (first.word (b + 16)) ∧ tagOf (t.word b) = tagOf (first.word b) then
        t.takeMail [] 0 p (tagOf (first.word b)) (MailCommand.ofWords words)
      else t := by
  have read := readRecord_single (base := mailboxBase p) (result := mailboxBase p + 16) (n := 16) h s
  have early : x.point < mailPoint p + 18 ∨ mailPoint p + 18 + 256 ≤ x.point := .inl h.2
  dsimp only at read ⊢
  unfold State.visitMailbox
  dsimp only
  rw [read]
  simp only [Bool.and_eq_true, decide_eq_true_eq, State.takeMail_elsewhere early, State.arriveBetween_elsewhere early, ite_self]

/-! ## A port's write among the reads -/

variable {v : Word}

theorem State.arrive_portWrite_mailbox (ready : s.ready = true) {addr : BitVec 11} {i : Nat} (hi : i < 16)
    (place : addr.toNat = mailboxBase p + i) (v : Word) : s.arrive (.portWrite p addr v) = s.writeWord (mailboxBase p + i) v := by
  simp [State.arrive, State.portWrite, ready, place, State.mayWrite, inRequestHalf, inMailboxRequest_word p hi]

/-- R159: a post tag rewritten after its first read: the mailbox is left, with its result half. -/
theorem State.visitMailbox_rewrittenTag (h : inMailRead p x.point) (wf : s.memoryOk) (late : x.point ≠ mailPoint p)
    (write : s.arrive x.event = s.writeWord (mailboxBase p) v) (differs : tagOf v ≠ tagOf (s.word (mailboxBase p))) :
    s.visitMailbox [x] p = s.writeWord (mailboxBase p) v := by
  have read : (s.writeWord (mailboxBase p) v).word (mailboxBase p) = v := Memory.read_write_same _ _ wf
  rw [State.visitMailbox_within h]
  dsimp only
  rw [write, if_neg late, read, if_neg fun both => differs both.2]

/-- R159: another word rewritten during the visit, before it is read. -/
theorem State.visitMailbox_rewrittenBefore {i : Nat} (h : inMailRead p x.point) (low : 1 ≤ i) (high : i ≤ 15)
    (write : s.arrive x.event = s.writeWord (mailboxBase p + i) v) (soon : x.point ≤ mailPoint p + 1 + i) :
    s.visitMailbox [x] p = (s.writeWord (mailboxBase p + i) v).visitMailbox [] p := by
  have other : ∀ n, n ≠ i → (s.writeWord (mailboxBase p + i) v).word (mailboxBase p + n) = s.word (mailboxBase p + n) :=
    fun n hn => Memory.read_write_of_ne _ _ (by omega)
  have post := other 0 (by omega)
  rw [Nat.add_zero] at post
  have first : ∀ c : Prop, [Decidable c] → (if c then s.writeWord (mailboxBase p + i) v else s).word (mailboxBase p) =
      (s.writeWord (mailboxBase p + i) v).word (mailboxBase p) := fun c _ => by split <;> simp [post]
  have result : ∀ c : Prop, [Decidable c] → (if c then s.writeWord (mailboxBase p + i) v else s).word (mailboxBase p + 16) =
      (s.writeWord (mailboxBase p + i) v).word (mailboxBase p + 16) := fun c _ => by split <;> simp [other 16 (by omega)]
  have words : MailCommand.ofWords ((List.range 16).map (fun n => if mailPoint p + 1 + n < x.point then s.word (mailboxBase p + n)
      else (s.writeWord (mailboxBase p + i) v).word (mailboxBase p + n))) =
        (s.writeWord (mailboxBase p + i) v).mailCommand p := congrArg MailCommand.ofWords (List.map_congr_left fun n _ => by
    split
    · exact (other n (by omega)).symm
    · rfl)
  rw [State.visitMailbox_within h, State.visitMailbox_nil]
  dsimp only
  rw [write, words, first, result]
  simp only [and_true]

/-- R159: another word rewritten during the visit, after it is read. -/
theorem State.visitMailbox_rewrittenAfter {i : Nat} (h : inMailRead p x.point) (low : 1 ≤ i) (high : i ≤ 15) (wf : s.memoryOk)
    (write : s.arrive x.event = s.writeWord (mailboxBase p + i) v) (late : mailPoint p + 1 + i < x.point) :
    Rewritten (mailboxBase p + i) v (s.visitMailbox [] p) (s.visitMailbox [x] p) := by
  have rewritten := State.rewritten_mailbox wf p (i := i) (by omega) v
  have other : ∀ n, n ≠ i → (s.writeWord (mailboxBase p + i) v).word (mailboxBase p + n) = s.word (mailboxBase p + n) :=
    fun n hn => Memory.read_write_of_ne _ _ (by omega)
  have post := other 0 (by omega)
  rw [Nat.add_zero] at post
  have words : MailCommand.ofWords ((List.range 16).map (fun n => if mailPoint p + 1 + n < x.point then s.word (mailboxBase p + n)
      else (s.writeWord (mailboxBase p + i) v).word (mailboxBase p + n))) = s.mailCommand p :=
    congrArg MailCommand.ofWords (List.map_congr_left fun n _ => by
      split
      · rfl
      · exact other n (by omega))
  rw [State.visitMailbox_within h, State.visitMailbox_nil]
  dsimp only
  rw [write, words, if_neg (by omega : x.point ≠ mailPoint p), post]
  simp only [and_true]
  split
  · exact rewritten.takeMail (inStaging_mailbox p (by omega)) p _ _
  · exact rewritten

/-! ## The tick -/

theorem State.visitMailbox_memoryOk (wf : s.memoryOk) (p : Port) : (s.visitMailbox [] p).memoryOk :=
  (s.visitMailbox_mailWork p).canonical wf

/-- R159: a mailbox whose post tag is its result tag is passed over. -/
theorem State.visitMailbox_withoutCommand (wf : s.memoryOk) (p : Port) :
    (s.writeWord (mailboxBase p) (s.word (mailboxBase p + 16))).visitMailbox [] p =
      s.writeWord (mailboxBase p) (s.word (mailboxBase p + 16)) := by
  have post : (s.writeWord (mailboxBase p) (s.word (mailboxBase p + 16))).word (mailboxBase p) = s.word (mailboxBase p + 16) :=
    Memory.read_write_same _ _ wf
  have result : (s.writeWord (mailboxBase p) (s.word (mailboxBase p + 16))).word (mailboxBase p + 16) = s.word (mailboxBase p + 16) :=
    Memory.read_write_of_ne _ _ (by omega)
  rw [State.visitMailbox_nil, if_neg]
  rw [State.mailNew, post, result]
  exact fun h => h rfl

/-- R159: a post tag rewritten between its reads: the tick does what it does with no command in that mailbox. -/
theorem State.mailVisits_rewrittenTag (h : inMailRead p x.point) (wf : s.memoryOk) (late : x.point ≠ mailPoint p)
    (write : ∀ m : State, m.ready = s.ready → m.arrive x.event = m.writeWord (mailboxBase p) v)
    (differs : tagOf v ≠ tagOf (s.word (mailboxBase p))) :
    s.mailVisits [x] = ((s.writeWord (mailboxBase p) (s.word (mailboxBase p + 16))).mailVisits []).writeWord (mailboxBase p) v := by
  have other : ∀ w, Rewritten (mailboxBase p) w (s.visitMailbox [] p.other) ((s.writeWord (mailboxBase p) w).visitMailbox [] p.other) :=
    fun w => (State.rewritten_mailbox wf p (i := 0) (by omega) w).visitMailbox (by omega)
  have work := s.visitMailbox_mailWork p.other
  have post : (s.visitMailbox [] p.other).word (mailboxBase p) = s.word (mailboxBase p) :=
    work.word_of_portWritten (portWritten_mailbox p (i := 0) (by omega))
  have result : (s.visitMailbox [] p.other).word (mailboxBase p + 16) = s.word (mailboxBase p + 16) := by
    have kept := work.mail_other (i := 16) (by omega)
    rwa [Side_other_other] at kept
  have ready : (s.visitMailbox [] p.other).ready = s.ready := by rw [work.frame]
  have wf' := State.visitMailbox_memoryOk wf p.other
  have passed := State.visitMailbox_withoutCommand wf p
  have passed' := State.visitMailbox_withoutCommand wf' p
  have elsewhere := State.visitMailbox_elsewhere h
  have torn := State.visitMailbox_rewrittenTag h wf late (write s rfl) differs
  have torn' := State.visitMailbox_rewrittenTag h wf' late (write _ ready) (by rwa [post])
  rw [result] at passed'
  cases p with
  | a =>
    have visits : s.mailVisits [x] = (s.writeWord (mailboxBase .a) v).visitMailbox [] .b := by
      rw [State.mailVisits, torn]
      exact elsewhere _
    have idle : (s.writeWord (mailboxBase .a) (s.word (mailboxBase .a + 16))).mailVisits [] =
        (s.writeWord (mailboxBase .a) (s.word (mailboxBase .a + 16))).visitMailbox [] .b := by
      rw [State.mailVisits, passed]
    rw [visits, idle]
    exact (other v).eq.trans (((congrArg (·.writeWord (mailboxBase .a) v) (other _).eq).trans
      (State.writeWord_writeWord wf' _ _)).symm)
  | b =>
    have visits : s.mailVisits [x] = (s.visitMailbox [] .a).writeWord (mailboxBase .b) v := by
      rw [State.mailVisits]
      exact (congrArg (·.visitMailbox [x] .b) (elsewhere s)).trans torn'
    have idle : (s.writeWord (mailboxBase .b) (s.word (mailboxBase .b + 16))).mailVisits [] =
        (s.visitMailbox [] .a).writeWord (mailboxBase .b) (s.word (mailboxBase .b + 16)) := by
      rw [State.mailVisits]
      exact (congrArg (·.visitMailbox [] .b) (other _).eq).trans passed'
    rw [visits, idle]
    exact (State.writeWord_writeWord wf' _ _).symm

/-- R159: another word rewritten before it is read: the tick takes it as it is. -/
theorem State.mailVisits_rewrittenBefore {i : Nat} (h : inMailRead p x.point) (wf : s.memoryOk) (low : 1 ≤ i) (high : i ≤ 15)
    (write : ∀ m : State, m.ready = s.ready → m.arrive x.event = m.writeWord (mailboxBase p + i) v)
    (soon : x.point ≤ mailPoint p + 1 + i) : s.mailVisits [x] = (s.writeWord (mailboxBase p + i) v).mailVisits [] := by
  have other := (State.rewritten_mailbox wf p (i := i) (by omega) v).visitMailbox (by omega)
  have ready : (s.visitMailbox [] p.other).ready = s.ready := by rw [(s.visitMailbox_mailWork p.other).frame]
  have elsewhere := State.visitMailbox_elsewhere h
  cases p with
  | a =>
    rw [State.mailVisits, State.visitMailbox_rewrittenBefore h low high (write s rfl) soon]
    exact elsewhere _
  | b =>
    rw [State.mailVisits]
    refine (congrArg (·.visitMailbox [x] .b) (elsewhere s)).trans ?_
    refine (State.visitMailbox_rewrittenBefore h low high (write _ ready) soon).trans ?_
    exact congrArg (·.visitMailbox [] .b) other.eq.symm

/-- R159: another word rewritten after it is read: the tick takes it as it was. -/
theorem State.mailVisits_rewrittenAfter {i : Nat} (h : inMailRead p x.point) (wf : s.memoryOk) (low : 1 ≤ i) (high : i ≤ 15)
    (write : ∀ m : State, m.ready = s.ready → m.arrive x.event = m.writeWord (mailboxBase p + i) v)
    (late : mailPoint p + 1 + i < x.point) : Rewritten (mailboxBase p + i) v (s.mailVisits []) (s.mailVisits [x]) := by
  have ready : (s.visitMailbox [] p.other).ready = s.ready := by rw [(s.visitMailbox_mailWork p.other).frame]
  have elsewhere := State.visitMailbox_elsewhere h
  cases p with
  | a =>
    have visits : s.mailVisits [x] = (s.visitMailbox [x] .a).visitMailbox [] .b := elsewhere _
    rw [visits]
    exact (State.visitMailbox_rewrittenAfter h low high wf (write s rfl) late).visitMailbox (p := .a) (by omega)
  | b =>
    have visits : s.mailVisits [x] = (s.visitMailbox [] .a).visitMailbox [x] .b := congrArg (·.visitMailbox [x] .b) (elsewhere s)
    rw [visits]
    exact State.visitMailbox_rewrittenAfter h low high (State.visitMailbox_memoryOk wf .a) (write _ ready) late

end

end Sys2Proof.Machine
end

section
/-! SUPPORT. R101, R102, R160: a command taken does not look at the survey timer, and mailbox A's leaves the test of mailbox B's. -/

namespace Sys2Proof.Machine

section
variable {s t : State}

/-! ## The survey timer (R101) -/

/-- R101: the survey timer put. -/
def State.withTimer (s : State) (d : Option Nat) : State := s.setSurvey { s.survey with timer := d }

theorem State.withTimer_same {d : Option Nat} (h : s.survey.timer = d) : s.withTimer d = s := by
  subst h
  rfl

theorem State.takeMail_withTimer (s : State) (d : Option Nat) (p : Port) (tag : Byte) (c : MailCommand) :
    (s.withTimer d).takeMail [] 0 p tag c = (s.takeMail [] 0 p tag c).withTimer d := by
  have refusal : (s.withTimer d).mailRefusal p c = s.mailRefusal p c := rfl
  unfold State.takeMail
  rw [refusal]
  split
  · rfl
  · cases c with
    | install k window =>
      rw [State.carryOutAtOnce_install, State.carryOutAtOnce_install]
      have table : (s.withTimer d).stagedTable = s.stagedTable := rfl
      rw [table]
      unfold State.beginInstall
      have install : (s.withTimer d).install = s.install := rfl
      rw [install]
      split <;> rfl
    | abandon =>
      unfold State.carryOutAtOnce State.abandon State.dropInstall
      dsimp only
      have install : (s.withTimer d).install = s.install := rfl
      rw [install]
      split <;> rfl
    | priority m o =>
      unfold State.carryOutAtOnce
      dsimp only
      split <;> rfl
    | clearStop n =>
      unfold State.carryOutAtOnce
      dsimp only
      split <;> rfl
    | restartLane n =>
      unfold State.carryOutAtOnce
      dsimp only
      split <;> rfl
    | fence n zones => rfl
    | hold n => rfl
    | period code => rfl
    | unknown => rfl

theorem State.visitMailbox_withTimer (s : State) (d : Option Nat) (p : Port) :
    (s.withTimer d).visitMailbox [] p = (s.visitMailbox [] p).withTimer d := by
  have new : (s.withTimer d).mailNew p = s.mailNew p := rfl
  have command : (s.withTimer d).mailCommand p = s.mailCommand p := rfl
  have post : (s.withTimer d).word (mailboxBase p) = s.word (mailboxBase p) := rfl
  rw [State.visitMailbox_nil, State.visitMailbox_nil]
  simp only [new, command, post, State.takeMail_withTimer]
  split <;> rfl

theorem State.requested_withTimer (s : State) (d : Option Nat) : (s.withTimer d).requested = s.requested.withTimer d := by
  rw [State.requested_eq, State.requested_eq]
  rfl

/-! ## Mailbox A's command and the test of mailbox B's (R160, R161) -/

variable {u : State} {p : Port}

/-- R161: only a port that holds the lock changes the install record by a command. -/
theorem State.takeMail_install (s : State) (p : Port) (tag : Byte) (c : MailCommand) :
    (s.takeMail [] 0 p tag c).install = s.install ∨ s.lock.holder = some p := by
  refine or_iff_not_imp_right.mpr fun lacks => ?_
  unfold State.takeMail
  split
  next => rfl
  next taken =>
    have locked : c.needsLock p = false := by
      cases needs : c.needsLock p with
      | false => rfl
      | true => simp [State.mailRefusal, needs, lacks, ite_eq_iff] at taken
    cases c with
    | install k window => simp [MailCommand.needsLock] at locked
    | abandon => simp [MailCommand.needsLock] at locked
    | priority m o =>
      unfold State.carryOutAtOnce
      dsimp only
      split <;> rfl
    | clearStop n =>
      unfold State.carryOutAtOnce
      dsimp only
      split <;> rfl
    | restartLane n =>
      unfold State.carryOutAtOnce
      dsimp only
      split <;> rfl
    | fence n zones => rfl
    | hold n => rfl
    | period code => rfl
    | unknown => rfl

/-- R160, R161: the test of a command looks at the active table, the lock and, with the lock held, at the pending install. -/
theorem State.mailRefusal_congr (active : u.active = s.active) (lock : u.lock = s.lock)
    (install : u.install = s.install ∨ s.lock.holder ≠ some p) (c : MailCommand) : u.mailRefusal p c = s.mailRefusal p c := by
  have bad : u.badArgument c = s.badArgument c := by
    unfold State.badArgument State.badFence
    rw [active]
  have pending : ¬ (c.needsLock p = true ∧ s.lock.holder ≠ some p) →
      (c.isInstall = true ∧ u.install.state = .pending ↔ c.isInstall = true ∧ s.install.state = .pending) := fun locked => by
    obtain same | lacks := install
    · rw [same]
    · cases c with
      | install k window => exact absurd ⟨rfl, lacks⟩ locked
      | _ => simp [MailCommand.isInstall]
  unfold State.mailRefusal
  rw [bad, lock]
  by_cases locked : c.needsLock p = true ∧ s.lock.holder ≠ some p
  · rw [if_pos locked, if_pos locked]
  · rw [if_neg locked, if_neg locked, if_congr (pending locked) rfl rfl]

/-- R160: mailbox A's command changes no outcome of the test of mailbox B's. -/
theorem State.mailRefusal_visitMailbox (s : State) (c : MailCommand) :
    (s.visitMailbox [] .a).mailRefusal .b c = s.mailRefusal .b c := by
  have work := s.visitMailbox_mailWork .a
  refine State.mailRefusal_congr (by rw [work.frame]) (by rw [work.frame]) ?_ c
  rw [State.visitMailbox_nil]
  split
  · refine (s.takeMail_install .a _ _).imp_right fun holds => ?_
    rw [holds]
    decide
  · exact .inl rfl

end

/-! ## Two commands at one tick (R159) -/

section
variable {s : State}

/-- R103: SIP put. -/
def State.withSip (s : State) (b : Bool) : State := s.setSurvey { s.survey with sip := b }

/-- R102, R159: a tick with mailbox B's command removed is the visit of mailbox A. -/
theorem exec_surveyTick_withoutSecond (wf : s.memoryOk) (due : s.tickDue) :
    exec (.surveyTick []) (s.withoutCommand (mailboxBase .b) (mailboxBase .b + 16)) =
      .next ((s.begun.visitMailbox [] .a).writeWord (mailboxBase .b) (s.word (mailboxBase .b + 16))).requested := by
  let w := s.word (mailboxBase .b + 16)
  have begun := (State.rewritten_mailbox wf .b (i := 0) (by omega) w).begun
  have visited := begun.visitMailbox (p := .b) (by omega)
  have result : (s.begun.visitMailbox [] .a).word (mailboxBase .b + 16) = w :=
    ((s.begun.visitMailbox_mailWork .a).mail_other (i := 16) (by omega)).trans
      (s.begun_word (by simp only [mailboxBase]; omega))
  have passed := State.visitMailbox_withoutCommand (State.visitMailbox_memoryOk (State.begun_memoryOk wf) .a) .b
  rw [result] at passed
  have due' : (s.writeWord (mailboxBase .b) w).tickDue := due
  have ran := exec_surveyTick_of_due due' []
  rw [State.mailVisits] at ran
  exact ran.trans (congrArg (fun x => Host.Outcome.next (State.requested x))
    ((congrArg (·.visitMailbox [] .b) visited.eq).trans passed))

/-- R102, R103: a tick that has begun, begun again with SIP down. -/
theorem State.begun_of_mailWork {x : State} {p : Port} (wf : s.memoryOk) (work : s.begun.MailWork x p) :
    (x.withSip false).begun = x.withTimer (some (fullPeriod x.survey.period)) := by
  have sip : x.survey.sip = true := work.sip
  have survey : (x.withSip false).survey.ticked = { x.survey with timer := some (fullPeriod x.survey.period) } :=
    congrArg (fun b : Bool => { x.survey with timer := some (fullPeriod x.survey.period), sip := b }) sip.symm
  have begun : (x.withSip false).begun = (x.withTimer (some (fullPeriod x.survey.period))).writeStatus :=
    congrArg (fun v => (x.setSurvey v).writeStatus) survey
  have canonical : (x.withTimer (some (fullPeriod x.survey.period))).memoryOk := work.canonical (State.begun_memoryOk wf)
  have shown : (x.withTimer (some (fullPeriod x.survey.period))).word 0x004 =
      (x.withTimer (some (fullPeriod x.survey.period))).statusWord := work.status wf
  exact begun.trans (State.writeWord_word canonical shown)

/-- R102, R159: a tick with mailbox A's command removed, at a state whose tick has begun and whose SIP is down again. -/
theorem exec_surveyTick_withoutFirst {x : State} (wf : x.memoryOk) {d : Option Nat}
    (begun : (x.withSip false).begun = x.withTimer d) (due : (x.withSip false).tickDue) :
    exec (.surveyTick []) ((x.withSip false).withoutCommand (mailboxBase .a) (mailboxBase .a + 16)) =
      .next (((x.visitMailbox [] .b).requested.withTimer d).writeWord (mailboxBase .a) (x.word (mailboxBase .a + 16))) := by
  let w := x.word (mailboxBase .a + 16)
  have wf' : (x.withSip false).memoryOk := wf
  have rewritten := (State.rewritten_mailbox wf' .a (i := 0) (by omega) w).begun
  rw [begun] at rewritten
  have passed : ((x.withTimer d).writeWord (mailboxBase .a) w).visitMailbox [] .a = (x.withTimer d).writeWord (mailboxBase .a) w :=
    State.visitMailbox_withoutCommand (s := x.withTimer d) wf .a
  have visited := (rewritten.visitMailbox (p := .a) (by omega)).requested
  rw [State.visitMailbox_withTimer, State.requested_withTimer] at visited
  have due' : ((x.withSip false).writeWord (mailboxBase .a) w).tickDue := due
  have ran := exec_surveyTick_of_due due' []
  rw [State.mailVisits] at ran
  refine ran.trans (congrArg Host.Outcome.next ?_)
  have first : ((x.withSip false).writeWord (mailboxBase .a) w).begun.visitMailbox [] .a =
      ((x.withSip false).writeWord (mailboxBase .a) w).begun :=
    (congrArg (·.visitMailbox [] .a) rewritten.eq).trans (passed.trans rewritten.eq.symm)
  rw [first]
  exact visited.eq

/-- R102, R103: a tick's requests and its SIP taken back, with a word put back. -/
theorem State.requested_undone {x : State} {b : Nat} {w w' : Word} {waiting : List (List Request)} (wf : x.memoryOk)
    (same : x.waiting = waiting) (held : x.word b = w') :
    ({ (x.writeWord b w).requested with
      survey := { (x.writeWord b w).requested.survey with sip := false }, waiting := waiting } : State).writeWord b w' =
        x.withSip false := by
  have put : { (x.writeWord b w).requested with
      survey := { (x.writeWord b w).requested.survey with sip := false }, waiting := waiting } =
        (x.withSip false).writeWord b w := by
    rw [State.requested_eq, ← same]
    rfl
  rw [put]
  exact (State.writeWord_writeWord (s := x.withSip false) wf w w').trans (State.writeWord_word (s := x.withSip false) wf held)

/-- R102: a tick's timer put back, with a word put back. -/
theorem State.requested_retimed {y : State} {a : Nat} {w w' : Word} {d e : Option Nat} (wf : y.memoryOk)
    (timer : y.survey.timer = d) (held : y.word a = w') :
    ({ (y.requested.withTimer e).writeWord a w with
      survey := { ((y.requested.withTimer e).writeWord a w).survey with timer := d } } : State).writeWord a w' =
        y.requested := by
  rw [State.requested_eq]
  generalize y.waiting ++ [y.tickGroupOf] = g
  have put : { ((y.setWaiting g).withTimer e).writeWord a w with
      survey := { (((y.setWaiting g).withTimer e).writeWord a w).survey with timer := d } } =
        ((y.setWaiting g).withTimer d).writeWord a w := rfl
  have timed : (y.setWaiting g).withTimer d = y.setWaiting g := State.withTimer_same timer
  rw [put, timed]
  exact (State.writeWord_writeWord (s := y.setWaiting g) wf w w').trans (State.writeWord_word (s := y.setWaiting g) wf held)

/-- R159, R160: two commands at one tick: each is taken as at a tick without the other. -/
theorem exec_surveyTick_of_both (wf : s.memoryOk) (due : s.tickDue) :
    let a := mailboxBase .a
    let b := mailboxBase .b
    ∃ u v, exec (.surveyTick []) (s.withoutCommand b (b + 16)) = .next u ∧
      exec (.surveyTick []) ((({ u with survey := { u.survey with sip := false }, waiting := s.waiting } : State).writeWord b
        (s.word b)).withoutCommand a (a + 16)) = .next v ∧
      exec (.surveyTick []) s =
        .next (({ v with survey := { v.survey with timer := u.survey.timer } } : State).writeWord a (s.word a)) ∧
      ∀ c, u.mailRefusal .b c = s.mailRefusal .b c := by
  intro a b
  have work := s.begun.visitMailbox_mailWork .a
  have later := (s.begun.visitMailbox [] .a).visitMailbox_mailWork .b
  have wf' := State.visitMailbox_memoryOk (State.begun_memoryOk wf) .a
  have wf'' := State.visitMailbox_memoryOk wf' .b
  have direct := exec_surveyTick_of_due due []
  have first := exec_surveyTick_withoutSecond wf due
  have refusals := s.begun.mailRefusal_visitMailbox
  rw [State.mailVisits] at direct
  generalize s.begun.visitMailbox [] .a = x at *
  have timer : x.survey.timer = some (fullPeriod s.survey.period) := work.timer
  have waiting : x.waiting = s.waiting := by rw [work.frame]; rfl
  have ready : x.ready = true := by
    rw [work.frame]
    exact due.1
  have second := exec_surveyTick_withoutFirst wf' (State.begun_of_mailWork wf work)
    ⟨ready, congrArg Option.isSome timer, rfl⟩
  have wordB : x.word b = s.word b :=
    (work.word_of_portWritten (portWritten_mailbox .b (i := 0) (by omega))).trans (s.begun_word (by simp [mailboxBase]))
  have wordA : (x.visitMailbox [] .b).word a = s.word a :=
    (later.word_of_portWritten (portWritten_mailbox .a (i := 0) (by omega))).trans
      ((work.word_of_portWritten (portWritten_mailbox .a (i := 0) (by omega))).trans (s.begun_word (by simp [mailboxBase])))
  have undone := State.requested_undone (b := b) (w := s.word (b + 16)) wf' waiting wordB
  rw [← undone] at second
  generalize x.visitMailbox [] .b = y at *
  have timers := later.timer.trans timer
  have undone' := State.requested_retimed (e := some (fullPeriod x.survey.period)) (w := x.word (a + 16)) wf'' timers wordA
  have started : (x.writeWord b (s.word (b + 16))).requested.survey.timer = some (fullPeriod s.survey.period) := by
    rw [State.requested_eq]
    exact timer
  refine ⟨_, _, first, second, ?_, fun c => ?_⟩
  · rw [started]
    exact direct.trans (congrArg Host.Outcome.next undone'.symm)
  · rw [State.requested_eq]
    exact refusals c

/-! ## A port's write among the reads (R159) -/

theorem State.mailVisits_memoryOk (wf : s.memoryOk) : (s.mailVisits []).memoryOk :=
  State.visitMailbox_memoryOk (State.visitMailbox_memoryOk wf .a) .b

variable {p : Port} {addr : BitVec 11} {v : Word} {i j : Nat}

/-- R159: a post tag rewritten after its first read and before its second. -/
theorem exec_surveyTick_rewrittenTag (wf : s.memoryOk) (due : s.tickDue) (place : addr.toNat = mailboxBase p)
    (differs : tagOf v ≠ tagOf (s.word (mailboxBase p))) (low : 1 ≤ j) (high : j ≤ 17) :
    ∃ u, exec (.surveyTick []) (s.withoutCommand (mailboxBase p) (mailboxBase p + 16)) = .next u ∧
      exec (.surveyTick [⟨mailPoint p + j, .portWrite p addr v⟩]) s = .next (u.writeWord (mailboxBase p) v) := by
  let w := s.word (mailboxBase p + 16)
  have wf' := State.begun_memoryOk wf
  have due' : (s.writeWord (mailboxBase p) w).tickDue := due
  have begun := (State.rewritten_mailbox wf p (i := 0) (by omega) w).begun
  have post : s.begun.word (mailboxBase p) = s.word (mailboxBase p) := (s.begun_mail p).1
  have result : s.begun.word (mailboxBase p + 16) = w := s.begun_word (by cases p <;> simp [mailboxBase])
  have torn := State.mailVisits_rewrittenTag (x := ⟨mailPoint p + j, .portWrite p addr v⟩) (v := v)
    ⟨Nat.le_add_right .., by dsimp only; omega⟩ wf' (by dsimp only; omega)
    (fun m same => State.arrive_portWrite_mailbox (same.trans due.1) (i := 0) (by omega) place v) (by rwa [post])
  have canonical : ((s.begun.writeWord (mailboxBase p) w).mailVisits []).memoryOk :=
    State.mailVisits_memoryOk (Memory.wf_write _ _ wf')
  have rewritten := (State.rewritten_mailbox canonical p (i := 0) (by omega) v).requested
  refine ⟨_, (exec_surveyTick_of_due due' []).trans (congrArg (fun x => Host.Outcome.next (State.requested (State.mailVisits x [])))
    begun.eq), (exec_surveyTick_of_due due _).trans (congrArg Host.Outcome.next ?_)⟩
  rw [torn, result]
  exact rewritten.eq

/-- R159: another word of the request half rewritten among the reads. -/
theorem exec_surveyTick_rewrittenWord (wf : s.memoryOk) (due : s.tickDue) (place : addr.toNat = mailboxBase p + i)
    (low : 1 ≤ i) (high : i ≤ 15) (within : j ≤ 17) :
    exec (.surveyTick [⟨mailPoint p + j, .portWrite p addr v⟩]) s = exec (.surveyTick []) (s.writeWord addr.toNat v) ∨
      ∃ u, exec (.surveyTick []) s = .next u ∧
        exec (.surveyTick [⟨mailPoint p + j, .portWrite p addr v⟩]) s = .next (u.writeWord addr.toNat v) := by
  have wf' := State.begun_memoryOk wf
  have due' : (s.writeWord (mailboxBase p + i) v).tickDue := due
  have reads : inMailRead p (⟨mailPoint p + j, .portWrite p addr v⟩ : Arrival).point :=
    ⟨Nat.le_add_right .., by dsimp only; omega⟩
  have write : ∀ m : State, m.ready = s.begun.ready →
      m.arrive (.portWrite p addr v) = m.writeWord (mailboxBase p + i) v := fun m same =>
    State.arrive_portWrite_mailbox (same.trans due.1) (by omega) place v
  rw [place, exec_surveyTick_of_due due]
  obtain soon | late := Nat.lt_or_ge (1 + i) j |>.symm
  · refine .inl ?_
    have begun := (State.rewritten_mailbox wf p (i := i) (by omega) v).begun
    rw [State.mailVisits_rewrittenBefore reads wf' low high write (by dsimp only; omega), exec_surveyTick_of_due due', begun.eq]
  · refine .inr ⟨_, exec_surveyTick_of_due due [], congrArg Host.Outcome.next ?_⟩
    exact (State.mailVisits_rewrittenAfter reads wf' low high write (by dsimp only; omega)).requested.eq

end

end Sys2Proof.Machine
end
open Sys2Proof Sys2Proof.Machine

/-- Settles O28: a tick is its beginning, the two visits and its requests; what a command of mailbox A may change is outside what a
visit of mailbox B looks at, and a port's write among a mailbox's reads passes through the rest of the tick. -/
theorem tickRaisesSipAndRequestsServices : Obligations.TickRaisesSipAndRequestsServices := by
  unfold Obligations.TickRaisesSipAndRequestsServices
  refine ⟨fun s wf due idleA idleB => ?_, fun s during idle => exec_surveyTick_of_not_due idle during, fun s wf due => ?_,
    fun s p addr v j wf due place differs low high => ?_, fun s p addr v i j wf due place low high within => ?_⟩
  · have idle : ∀ p, ¬ s.begun.mailNew p := fun p => by
      obtain ⟨-, new, -⟩ := s.begun_mail p
      cases p with
      | a => exact mt new.mp idleA
      | b => exact mt new.mp idleB
    refine ⟨s.begun.requested, ?_, ?_, ?_, ?_⟩
    · rw [exec_surveyTick_of_due due, State.mailVisits_nil_of_idle idle]
    · rw [State.requested_eq]
      rfl
    · rw [State.requested_eq]
      rfl
    · rw [State.requested_eq]
      exact s.begun_shown wf
  · exact exec_surveyTick_of_both wf due
  · exact exec_surveyTick_rewrittenTag wf due place differs low high
  · exact exec_surveyTick_rewrittenWord wf due place low high within

section
/-! SUPPORT. R39, R41, R55, R97, R140, R168: an install swap on one arm's side: its lane, its feed receiver, its reach record and its
causes. -/

namespace Sys2Proof.Machine

/-! ## One slot (R97) -/

/-- R97: a WAITING traverse is withdrawn with result TABLE_CHANGED. -/
def State.changeSlot (s : State) (arm : Arm) (k : Slot) : State :=
  (s.endWaiting arm k .withdrawn).writeResult arm k .tableChanged none

/-- R97: a slot's entry after a swap. -/
def SlotEntry.swapped (e : SlotEntry) : SlotEntry := if e.state = .waiting then { e with state := .withdrawn } else e

section
variable {s x u : State} {arm : Arm} {k : Slot}

theorem State.changeSlot_work (s : State) (arm : Arm) (k : Slot) : s.SlotWork (s.changeSlot arm k) arm k :=
  (s.endWaiting_work arm k .withdrawn).trans (State.writeResult_work _ arm k .tableChanged none)

theorem State.changeSlot_words (wf : s.memoryOk) :
    let u := s.changeSlot arm k
    s.reports u arm k (some 4) .none 0 ∧ u.word (slotBase arm k + 9) = 3 ∧ s.wordsKept u (offsets (slotBase arm k + 9) 3) := by
  obtain ⟨⟨state, zone⟩, within⟩ := State.endWaiting_words (arm := arm) (k := k) wf .withdrawn
  obtain ⟨result, rest⟩ := State.writeResult_words (arm := arm) (k := k) ((s.endWaiting_work arm k .withdrawn).canonical wf)
    .tableChanged
  refine ⟨⟨(rest _ (by simp)).trans state, (rest _ (by simp)).trans zone⟩, result, State.wordsKept_trans within rest fun a ha => ?_⟩
  simp only [List.mem_cons, List.not_mem_nil, or_false] at ha
  rw [mem_offsets]
  omega

theorem State.changeSlot_ports (s : State) (arm : Arm) (k : Slot) :
    (s.changeSlot arm k).ports = s.ports.modify arm (fun r => r.raised .lane) := by
  obtain kept | raised := (s.endWaiting_work arm k .withdrawn).ports
  · rw [State.changeSlot, State.writeResult_ports, kept]
  · rw [State.changeSlot, State.writeResult_ports, raised, Pair_raised_raised]

theorem State.changeSlot_entry (s : State) (arm : Arm) (k : Slot) :
    (s.changeSlot arm k).entry arm k = { (s.entry arm k) with state := .withdrawn } := by
  simp [State.changeSlot, State.entry, State.endWaiting_lane, Vector_get_set_slot]

theorem State.changeSlot_claims (s : State) (arm : Arm) (k : Slot) :
    ((s.changeSlot arm k).cells, (s.changeSlot arm k).tallies) = (s.cells, s.tallies) := by
  simp [State.changeSlot]

/-! ## The lane (R97) -/

/-- R97: the slots whose traverse a swap withdraws. -/
def State.waitingSlots (s : State) (arm : Arm) : List Slot := (s.lanes.get arm).slotsIn .waiting

theorem State.mem_waitingSlots : k ∈ s.waitingSlots arm ↔ (s.entry arm k).state = .waiting := Lane.mem_slotsIn ..

/-- R97: the WAITING traverses of a lane end. -/
def State.changeSlots (s : State) (arm : Arm) : State := (s.waitingSlots arm).foldl (fun s k => s.changeSlot arm k) s

theorem State.swapLane_eq (s : State) (arm : Arm) : s.swapLane arm =
    (s.changeSlots arm).modLane arm (fun l => { l with next := none, waitingList := [], grantedList := [] }) := rfl

/-- R97: the words outside the results of the slots that a run withdraws. -/
theorem State.changeRun_wordsKept (wf : s.memoryOk) {l : List Slot} {a : Nat} (away : ∀ k ∈ l, a ∉ offsets (slotBase arm k + 9) 3) :
    (l.foldl (fun s k => s.changeSlot arm k) s).word a = s.word a := by
  induction l generalizing s with
  | nil => rfl
  | cons k l ih =>
    obtain ⟨-, -, kept⟩ := State.changeSlot_words (arm := arm) (k := k) wf
    have later := ih ((s.changeSlot_work arm k).canonical wf) fun j hj => away j (List.mem_cons_of_mem _ hj)
    exact later.trans (kept a (away k List.mem_cons_self))

/-- R39, R97: the flag of a lane whose traverses a swap withdraws. -/
def State.laneFlag (s : State) (arm : Arm) : List Flag := if ∀ k : Slot, (s.entry arm k).state ≠ .waiting then [] else [.lane]

/-- The change from `s` to `u` is that of a swap on the arm's lane. -/
structure State.LaneSwapped (s u : State) (arm : Arm) : Prop where
  frame : u = { s with mem := u.mem, ports := u.ports, lanes := u.lanes }
  other : u.lanes.get arm.other = s.lanes.get arm.other
  lists : (u.lanes.get arm).next = none ∧ (u.lanes.get arm).waitingList = [] ∧ (u.lanes.get arm).grantedList = []
  slots : ∀ k, u.entry arm k = (s.entry arm k).swapped
  results : ∀ k, (s.entry arm k).state = .waiting → u.word (slotBase arm k + 9) = 3 ∧ s.reports u arm k (some 4) .none 0
  words : ∀ a, (∀ k, (s.entry arm k).state = .waiting → a ∉ offsets (slotBase arm k + 9) 3) → u.word a = s.word a
  own : u.ports.get arm = { s.ports.get arm with flags := (s.ports.get arm).flags ||| flagBits (s.laneFlag arm) }
  away : u.ports.get arm.other = s.ports.get arm.other
  canonical : u.memoryOk

theorem State.changeSlots_ports (s : State) (arm : Arm) : (s.changeSlots arm).ports =
    if s.waitingSlots arm = [] then s.ports else s.ports.modify arm (fun r => r.raised .lane) := by
  unfold State.changeSlots
  cases s.waitingSlots arm with
  | nil => rfl
  | cons k l =>
    have first := s.changeSlot_ports arm k
    rw [List.foldl_cons, if_neg (List.cons_ne_nil k l)]
    obtain kept | raised := (State.LaneRun.foldl (fun s k => s.changeSlot_work arm k) l (s.changeSlot arm k)).ports
    · rw [kept, first]
    · rw [raised, first, Pair_raised_raised]

/-- R97: a slot after the WAITING traverses of its lane have ended. -/
theorem State.changeSlots_slot (wf : s.memoryOk) (arm : Arm) (k : Slot) :
    (s.changeSlots arm).entry arm k = (s.entry arm k).swapped ∧ ((s.entry arm k).state = .waiting →
      (s.changeSlots arm).word (slotBase arm k + 9) = 3 ∧ s.reports (s.changeSlots arm) arm k (some 4) .none 0) := by
  have work := fun s k => State.changeSlot_work s arm k
  by_cases waiting : (s.entry arm k).state = .waiting
  · obtain ⟨x, found, left⟩ := State.slotRun work (Lane.slotsIn_nodup _ .waiting) (State.mem_waitingSlots.mpr waiting) s
    obtain ⟨⟨state, zone⟩, result, -⟩ := State.changeSlot_words (s := x) (arm := arm) (k := k) (found.canonical wf)
    refine ⟨?_, fun _ => ⟨(left.words 9 (by omega)).trans result, ?_, (left.words 11 (by omega)).trans zone⟩⟩
    · rw [SlotEntry.swapped, if_pos waiting, ← found.entry]
      exact left.entry.trans (x.changeSlot_entry arm k)
    · exact (left.words 10 (by omega)).trans (state.trans (by rw [found.words 10 (by omega)]))
  · have kept := State.SlotSame.foldl work (mt State.mem_waitingSlots.mp waiting) s
    refine ⟨?_, fun h => absurd h waiting⟩
    rw [SlotEntry.swapped, if_neg waiting]
    exact kept.entry

theorem State.swapLane_swapped (wf : s.memoryOk) (arm : Arm) : s.LaneSwapped (s.swapLane arm) arm := by
  have run := State.LaneRun.foldl (fun s k => State.changeSlot_work s arm k) (s.waitingSlots arm) s
  have claims := State.foldl_keeps (fun s => (s.cells, s.tallies)) _ (fun s k => State.changeSlot_claims s arm k)
    (s.waitingSlots arm) s
  have slot := State.changeSlots_slot wf arm
  have ports := s.changeSlots_ports arm
  have kept : ∀ a, (∀ k, (s.entry arm k).state = .waiting → a ∉ offsets (slotBase arm k + 9) 3) →
      (s.changeSlots arm).word a = s.word a := fun a away =>
    State.changeRun_wordsKept wf fun k hk => away k (State.mem_waitingSlots.mp hk)
  have none : s.waitingSlots arm = [] ↔ ∀ k : Slot, (s.entry arm k).state ≠ .waiting := by
    simp only [List.eq_nil_iff_forall_not_mem, State.mem_waitingSlots, ne_eq]
  rw [State.swapLane_eq]
  change s.LaneRun (s.changeSlots arm) arm at run
  change ((s.changeSlots arm).cells, (s.changeSlots arm).tallies) = _ at claims
  generalize s.changeSlots arm = x at *
  obtain ⟨cells, tallies⟩ := Prod.mk.inj claims
  refine ⟨?_, ?_, ?_, fun k => ?_, fun k => (slot k).2, kept, ?_, ?_, run.canonical wf⟩
  · have frame := run.frame
    unfold State.LaneWork at frame
    rw [cells, tallies] at frame
    conv_lhs => rw [frame]
    rfl
  · simpa using run.other
  · simp
  · rw [← (slot k).1]
    simp [State.entry]
  · show x.ports.get arm = _
    rw [ports, State.laneFlag, if_congr none rfl rfl]
    split
    · simp
    · rw [Pair_get_modify_same, PortRegs.raised_eq]
  · show x.ports.get arm.other = _
    rw [ports]
    split
    · rfl
    · exact Pair_get_modify_other ..

/-! ## The arm's side (R41, R55, R140, R168) -/

/-- R39, R41: the flag of a feed receiver that a swap brings to ABSENT. -/
def State.feedFlag (s : State) (arm : Arm) : List Flag := if (s.feeds.get arm).state = .absent then [] else [.feed]

theorem State.setCauses_frame (s : State) (arm : Arm) (p : PauseSet) (q : StopSet) : s.setCauses arm p q =
    { s with enf := (s.setCauses arm p q).enf, ports := (s.setCauses arm p q).ports, mem := (s.setCauses arm p q).mem } := by
  have work := s.setCauses_evalWork arm p q
  have cells : (s.setCauses arm p q).cells = s.cells := by simp
  have tallies : (s.setCauses arm p q).tallies = s.tallies := by simp
  have lanes : (s.setCauses arm p q).lanes = s.lanes := by simp
  unfold State.EvalWork at work
  rw [cells, tallies, lanes] at work
  exact work

/-- The change from `s` to `u` is that of a swap on the arm's side. -/
structure State.ArmSwapped (s u : State) (arm : Arm) : Prop where
  frame : u = { s with
    waiting := (s.dropRequest (.evaluation arm)).waiting, ports := u.ports, mem := u.mem, lanes := u.lanes
    reach := s.reach.modify arm (fun _ => Reach.cleared), feeds := s.feeds.modify arm Feed.swapped
    enf := s.enf.modify arm Enforcement.swapped }
  other : u.lanes.get arm.other = s.lanes.get arm.other
  lists : (u.lanes.get arm).next = none ∧ (u.lanes.get arm).waitingList = [] ∧ (u.lanes.get arm).grantedList = []
  slots : ∀ k, u.entry arm k = (s.entry arm k).swapped
  results : ∀ k, (s.entry arm k).state = .waiting → u.word (slotBase arm k + 9) = 3 ∧ s.reports u arm k (some 4) .none 0
  words : ∀ a, a ≠ 0x004 → (∀ k, (s.entry arm k).state = .waiting → a ∉ offsets (slotBase arm k + 9) 3) → u.word a = s.word a
  ports : s.portsAfter u arm ((s.laneFlag arm ++ s.feedFlag arm) ++ s.lineFlags u arm) []
  canonical : u.memoryOk

theorem slotBase_lt (arm : Arm) (k : Slot) : 0x100 ≤ slotBase arm k ∧ slotBase arm k + 16 ≤ 0x300 := by
  have := k.isLt
  cases arm <;> simp only [slotBase, laneBase] <;> omega

/-- R41, R55, R140: the side of an arm as a swap puts it, before its causes. -/
def State.sideCleared (s : State) (arm : Arm) : State :=
  ((s.swapFeed arm).modReach arm (fun _ => Reach.cleared)).modEnf arm (fun e => { e with seated := false, runCounter := 0 })

theorem State.sideCleared_frame (s : State) (arm : Arm) : s.sideCleared arm = { s with
    waiting := (s.dropRequest (.evaluation arm)).waiting, ports := (s.sideCleared arm).ports
    reach := s.reach.modify arm (fun _ => Reach.cleared), feeds := s.feeds.modify arm Feed.swapped
    enf := s.enf.modify arm (fun e => { e with seated := false, runCounter := 0 }) } := by
  unfold State.sideCleared State.swapFeed State.raiseIf
  split <;> rfl

theorem State.swapArm_eq (s : State) (arm : Arm) : s.swapArm arm = ((s.swapLane arm).sideCleared arm).setCauses arm
    ((s.swapLane arm).enf.get arm).swapped.pause ((s.swapLane arm).enf.get arm).swapped.stop := by
  have own : (((s.swapLane arm).swapFeed arm).modReach arm (fun _ => Reach.cleared)).enf.get arm = (s.swapLane arm).enf.get arm := by
    simp [State.swapFeed]
  rw [State.swapArm, State.swapCauses, own]
  rfl

theorem State.swapArm_swapped (wf : s.memoryOk) (arm : Arm) : s.ArmSwapped (s.swapArm arm) arm := by
  obtain ⟨frame, other, lists, slots, results, words, own, away, canonical⟩ := State.swapLane_swapped wf arm
  rw [State.swapArm_eq]
  generalize s.swapLane arm = x at *
  have enf : x.enf = s.enf := by rw [frame]
  have feeds : x.feeds = s.feeds := by rw [frame]
  have cleared := x.sideCleared_frame arm
  have flagged := (((x.modFeed arm Feed.swapped).dropRequest (.evaluation arm))).raiseIf_port_same
    (decide ((x.feeds.get arm).state ≠ .absent)) .feed arm
  have unflagged := (((x.modFeed arm Feed.swapped).dropRequest (.evaluation arm))).raiseIf_port_other
    (decide ((x.feeds.get arm).state ≠ .absent)) .feed arm
  change (x.sideCleared arm).ports.get arm = _ at flagged
  change (x.sideCleared arm).ports.get arm.other = x.ports.get arm.other at unflagged
  rw [enf]
  have become := (x.sideCleared arm).setCauses_become arm (s.enf.get arm).swapped.pause (s.enf.get arm).swapped.stop
  have written := (x.sideCleared arm).setCauses_frame arm (s.enf.get arm).swapped.pause (s.enf.get arm).swapped.stop
  generalize x.sideCleared arm = c at *
  generalize c.setCauses arm (s.enf.get arm).swapped.pause (s.enf.get arm).swapped.stop = u at *
  have lanes : u.lanes = x.lanes := by rw [written, cleared]
  have clearedEnf : c.enf = s.enf.modify arm (fun e => { e with seated := false, runCounter := 0 }) := by rw [cleared, enf]
  have canonical' : c.memoryOk := by
    rw [cleared]
    exact canonical
  obtain ⟨-, kept⟩ := become.status canonical'
  have word : ∀ a, a ≠ 0x004 → u.word a = x.word a := fun a ha => (kept a ha).trans (by rw [cleared]; rfl)
  have slot : ∀ k j, u.word (slotBase arm k + j) = x.word (slotBase arm k + j) := fun k j => word _ (by
    have := slotBase_lt arm k
    omega)
  refine ⟨?_, ?_, ?_, fun k => ?_, fun k waiting => ?_, fun a ha off => (word a ha).trans (words a off), ?_, become.canonical canonical'⟩
  · have causes : u.enf = s.enf.modify arm Enforcement.swapped := by
      rw [become.enf, clearedEnf]
      cases arm <;> rfl
    rw [causes, cleared, feeds] at written
    conv_lhs => rw [written]
    conv_lhs => rw [frame]
    rw [lanes]
    rfl
  · rw [lanes, other]
  · rw [lanes]
    exact lists
  · rw [State.entry, lanes]
    exact slots k
  · obtain ⟨result, state, zone⟩ := results k waiting
    exact ⟨(slot k 9).trans result, (slot k 10).trans state, (slot k 11).trans zone⟩
  · refine State.portsAfter_of_flagged (c := c) (fun y => ?_) ?_ (unflagged.trans away) become.ports
    · rw [clearedEnf]
      cases y <;> cases arm <;> exact ⟨rfl, rfl⟩
    · have feedFlag : (if decide ((x.feeds.get arm).state ≠ .absent) = true then [Flag.feed] else []) = s.feedFlag arm := by
        rw [State.feedFlag, feeds]
        by_cases absent : (s.feeds.get arm).state = .absent <;> simp [absent]
      rw [flagged, feedFlag]
      show ({ x.ports.get arm with flags := (x.ports.get arm).flags ||| flagBits (s.feedFlag arm) } : PortRegs) = _
      rw [own, flagBits_append, BitVec.or_assoc]

end
end Sys2Proof.Machine
end

section
/-! SUPPORT. R125, R168, R183, R186: the flags and the guard report of a swap, which changes one arm's causes and then the other's. -/

namespace Sys2Proof.Machine

section
variable {s t u : State}

/-! ## The guard conditions of the two arms (R186) -/

/-- R186: one arm's condition bits as the low nibble and the other's as the high one. -/
theorem State.guardConditions_mix (first : t.enf.get .a = u.enf.get .a) (second : (t.enf.get .b).pause = (s.enf.get .b).pause ∧
    (t.enf.get .b).stop = (s.enf.get .b).stop) :
    t.guardConditions = (u.guardConditions &&& 0x000F) ||| (s.guardConditions &&& 0x00F0) := by
  have low : ∀ b, ∀ i < 4, conditionBit b i &&& 0x000F = conditionBit b i ∧ conditionBit b i &&& 0x00F0 = 0 := by decide
  have high : ∀ b, ∀ i < 4, conditionBit b (i + 4) &&& 0x000F = 0 ∧ conditionBit b (i + 4) &&& 0x00F0 = conditionBit b (i + 4) := by
    decide
  simp only [State.guardConditions_eq, State.stopLine, State.pauseLine, first, second, BitVec.and_or_distrib_right,
    low _ 0 (by omega), low _ 1 (by omega), low _ 2 (by omega), high _ 0 (by omega), high _ 1 (by omega), high _ 2 (by omega)]
  simp [BitVec.or_assoc]

/-- R186: the conditions between the two changes are those of one of the moments beside it. -/
theorem conditions_between {gs gt gu : Word} (mix : gt = (gu &&& 0x000F) ||| (gs &&& 0x00F0))
    (whole : gs = (gs &&& 0x000F) ||| (gs &&& 0x00F0)) : (gu = gs → gt = gs) ∧ gt ||| (gs ||| gu) = gs ||| gu := by
  refine ⟨fun same => by rw [mix, same, ← whole], ?_⟩
  have low : (gu &&& 0x000F) ||| gu = gu := by
    ext i hi
    simp only [BitVec.getElem_or, BitVec.getElem_and]
    cases gu[i] <;> simp
  have high : (gs &&& 0x00F0) ||| gs = gs := by
    ext i hi
    simp only [BitVec.getElem_or, BitVec.getElem_and]
    cases gs[i] <;> simp
  calc gt ||| (gs ||| gu) = ((gs &&& 0x00F0) ||| gs) ||| ((gu &&& 0x000F) ||| gu) := by rw [mix]; ac_rfl
    _ = gs ||| gu := by rw [low, high]

theorem marked_or {g h : Word} (marked : g &&& ~~~h = 0) : h ||| g = h := by
  ext i hi
  have bit := congrArg (fun w : Word => w[i]) marked
  simp only [BitVec.getElem_and, BitVec.getElem_not] at bit
  rw [BitVec.getElem_or]
  cases hg : g[i] <;> cases hh : h[i] <;> simp_all

/-- R183, R186: a port's registers after two changes of causes: the flags and the stage as after one, and the history as well where
it has a mark for each condition that held before. -/
theorem State.portAfter_two {p : Port} {fs gs hs : List Flag} (between : (u.guardConditions = s.guardConditions →
      t.guardConditions = s.guardConditions) ∧ t.guardConditions ||| (s.guardConditions ||| u.guardConditions) =
        s.guardConditions ||| u.guardConditions)
    (ht : t.ports.get p = s.portAfter t p fs) (hu : u.ports.get p = t.portAfter u p gs)
    (flags : flagBits fs ||| flagBits gs = flagBits hs) :
    u.ports.get p = { s.portAfter u p hs with history := (u.ports.get p).history } ∧
      (s.guardConditions &&& ~~~(s.ports.get p).history = 0 → u.ports.get p = s.portAfter u p hs) := by
  obtain ⟨back, covered⟩ := between
  unfold State.portAfter at ht
  rw [State.portAfter, ht] at hu
  have shape : u.ports.get p = { s.portAfter u p hs with history := (u.ports.get p).history } := by
    rw [hu, State.portAfter]
    generalize s.guardConditions = gs, t.guardConditions = gt, u.guardConditions = gu at back ⊢
    by_cases same : gu = gs
    · simp [same, back same, BitVec.or_assoc, flags]
    · by_cases second : gu = gt
      · subst second
        simp [same, BitVec.or_assoc, flags]
      · simp [same, second, BitVec.or_assoc, flags]
  refine ⟨shape, fun marked => shape.trans ?_⟩
  have history : (u.ports.get p).history = if u.guardConditions = s.guardConditions then (s.ports.get p).history
      else (s.ports.get p).history ||| u.guardConditions := by
    rw [hu]
    dsimp only
    by_cases same : u.guardConditions = s.guardConditions
    · simp [same, back same]
    · rw [if_neg same]
      by_cases second : u.guardConditions = t.guardConditions
      · rw [if_pos second, ← second, if_neg same]
      · rw [if_neg second]
        split
        · rfl
        · have union : (s.ports.get p).history = (s.ports.get p).history ||| s.guardConditions := (marked_or marked).symm
          rw [union, BitVec.or_assoc, BitVec.or_assoc, BitVec.or_assoc]
          rw [show s.guardConditions ||| (t.guardConditions ||| u.guardConditions) =
            t.guardConditions ||| (s.guardConditions ||| u.guardConditions) by ac_rfl, covered]
  rw [history]
  rfl

/-! ## Both sides (R168) -/

/-- The change from `s` to `u` is that of a swap on both arms' sides. -/
structure State.SidesSwapped (s u : State) : Prop where
  frame : u = { s with
    waiting := ((s.dropRequest (.evaluation .a)).dropRequest (.evaluation .b)).waiting, ports := u.ports, mem := u.mem
    lanes := u.lanes, reach := ⟨Reach.cleared, Reach.cleared⟩, feeds := ⟨swappedFeed s.feeds.a, swappedFeed s.feeds.b⟩
    enf := ⟨s.enf.a.swapped, s.enf.b.swapped⟩ }
  lists : ∀ arm, (u.lanes.get arm).next = none ∧ (u.lanes.get arm).waitingList = [] ∧ (u.lanes.get arm).grantedList = []
  slots : ∀ arm k, u.entry arm k = (s.entry arm k).swapped
  results : ∀ arm k, (s.entry arm k).state = .waiting →
    u.word (slotBase arm k + 9) = 3 ∧ s.reports u arm k (some 4) .none 0
  words : ∀ a, a ≠ 0x004 → (∀ arm k, (s.entry arm k).state = .waiting → a ∉ offsets (slotBase arm k + 9) 3) → u.word a = s.word a
  ports : ∀ arm, u.ports.get arm = { s.portAfter u arm ((s.laneFlag arm ++ s.feedFlag arm) ++ s.lineFlags u arm) with
      history := (u.ports.get arm).history } ∧
    (s.guardConditions &&& ~~~(s.ports.get arm).history = 0 →
      u.ports.get arm = s.portAfter u arm ((s.laneFlag arm ++ s.feedFlag arm) ++ s.lineFlags u arm))
  canonical : u.memoryOk

theorem slotBase_apart (k k' : Slot) {i j : Nat} (hi : i < 16) (hj : j < 16) : slotBase .a k + i ≠ slotBase .b k' + j := by
  have := k.isLt
  simp only [slotBase, laneBase]
  omega

theorem State.lineFlags_congr {s' u' : State} {arm : Arm} (before : s'.enf.get arm = s.enf.get arm)
    (after : u'.enf.get arm = u.enf.get arm) : s'.lineFlags u' arm = s.lineFlags u arm := by
  have pause : s'.pauseLine arm = s.pauseLine arm := congrArg (·.pause.held) before
  have pause' : u'.pauseLine arm = u.pauseLine arm := congrArg (·.pause.held) after
  rw [State.lineFlags, State.lineFlags, pause, pause', before, after]

theorem State.ArmSwapped.both (first : s.ArmSwapped t .a) (second : t.ArmSwapped u .b) : s.SidesSwapped u := by
  have enfT : t.enf = ⟨s.enf.a.swapped, s.enf.b⟩ := by rw [first.frame]; rfl
  have enfU : u.enf = ⟨s.enf.a.swapped, s.enf.b.swapped⟩ := by rw [second.frame, enfT]; rfl
  have lanesT : t.lanes.b = s.lanes.b := first.other
  have lanesU : u.lanes.a = t.lanes.a := second.other
  have feedsT : t.feeds.b = s.feeds.b := by rw [first.frame]; rfl
  have away : ∀ k j, j < 16 → u.word (slotBase .a k + j) = t.word (slotBase .a k + j) := fun k j hj => by
    have := slotBase_lt .a k
    refine second.words _ (by omega) fun k' _ m => ?_
    rw [mem_offsets] at m
    exact slotBase_apart k k' (i := j) (j := slotBase .a k + j - slotBase .b k') hj (by omega) (by omega)
  have before : ∀ k j, j < 16 → t.word (slotBase .b k + j) = s.word (slotBase .b k + j) := fun k j hj => by
    have := slotBase_lt .b k
    refine first.words _ (by omega) fun k' _ m => ?_
    rw [mem_offsets] at m
    exact slotBase_apart k' k (i := slotBase .b k + j - slotBase .a k') (j := j) (by omega) hj (by omega)
  have entryT : ∀ k, t.entry .b k = s.entry .b k := fun k => congrArg (·.slots.get k) lanesT
  have between := conditions_between (gs := s.guardConditions) (gu := u.guardConditions)
    (State.guardConditions_mix (t := t) (by rw [enfT, enfU]; rfl) ⟨by rw [enfT]; rfl, by rw [enfT]; rfl⟩)
    (State.guardConditions_mix rfl ⟨rfl, rfl⟩)
  refine ⟨?_, fun arm => ?_, fun arm k => ?_, fun arm k waiting => ?_, fun a status off => ?_, fun arm => ?_, second.canonical⟩
  · have written := second.frame
    rw [first.frame] at written
    conv_lhs => rw [written]
    rfl
  · cases arm with
    | a =>
      show u.lanes.a.next = none ∧ _
      rw [show u.lanes.get .a = t.lanes.get .a from lanesU, lanesU]
      exact first.lists
    | b => exact second.lists
  · cases arm with
    | a => exact (congrArg (·.slots.get k) lanesU).trans (first.slots k)
    | b => exact (second.slots k).trans (congrArg SlotEntry.swapped (entryT k))
  · cases arm with
    | a =>
      obtain ⟨result, state, zone⟩ := first.results k waiting
      exact ⟨(away k 9 (by omega)).trans result, (away k 10 (by omega)).trans state, (away k 11 (by omega)).trans zone⟩
    | b =>
      obtain ⟨result, state, zone⟩ := second.results k (by rwa [entryT])
      rw [before k 10 (by omega)] at state
      exact ⟨result, state, zone⟩
  · exact (second.words a status fun k waiting => off .b k (by rwa [← entryT])).trans (first.words a status (off .a))
  · cases arm with
    | a =>
      refine State.portAfter_two between first.ports.1 second.ports.2 ?_
      refine BitVec.or_zero.trans ?_
      rw [State.lineFlags_congr (s := s) (u := u) rfl (by rw [enfT, enfU]; rfl)]
    | b =>
      refine State.portAfter_two between first.ports.2 second.ports.1 ?_
      have lane : t.laneFlag .b = s.laneFlag .b := by simp only [State.laneFlag, entryT]
      have feed : t.feedFlag .b = s.feedFlag .b := by
        rw [State.feedFlag, State.feedFlag]
        exact congrArg (fun f : Feed => if f.state = .absent then [] else [Flag.feed]) feedsT
      refine BitVec.zero_or.trans ?_
      rw [State.lineFlags_congr (s := s) (u := u) (by rw [enfT]; rfl) rfl, lane, feed]

theorem State.swapSides (wf : s.memoryOk) : s.SidesSwapped ((s.swapArm .a).swapArm .b) :=
  (State.swapArm_swapped wf .a).both (State.swapArm_swapped (State.swapArm_swapped wf .a).canonical .b)

end
end Sys2Proof.Machine
end

section
/-! SUPPORT. R128, R152, R166–R168: the quiet gate, and the blocks that take the new table after both arms' sides. -/

namespace Sys2Proof.Machine

section
variable {s u : State} {arm : Arm}

/-! ## The quiet gate (R167) -/

theorem Reach.still_iff (r : Reach) : r.still = true ↔ r.velocity = ⟨0, 0, 0⟩ := by
  obtain ⟨-, ⟨x, y, z⟩⟩ := r
  simp [Reach.still, and_assoc]

/-- R167: the gate is open exactly when every condition of the rule holds. -/
theorem State.gateOpen_iff (k : GateMask) : s.gateOpen k = true ↔ gateRule s k := by
  simp only [State.gateOpen, gateRule, State.lanesEmpty, State.feedsSteady, State.armsStill, State.rfgnt, Reach.still_iff,
    Bool.and_eq_true, Bool.or_eq_true, decide_eq_true_eq, Bool.not_eq_true', decide_eq_false_iff_not, List.isEmpty_iff, and_assoc,
    ne_eq]

/-! ## The snapshots of a swap (R128, R177) -/

/-- R128, R177: the arm's snapshot words after the snapshot write of a swap, which has left the state as it is in `u`. -/
abbrev State.swapShown (s u : State) (arm : Arm) : Prop :=
  let b := snapshotBase arm
  let f := u.feeds.get arm
  u.word b = s.word b + 2 ∧ u.word (b + 1) = s.word (b + 1) &&& 0xFFEC ∧
    u.word (b + 2) = wordOf (u.enf.get arm).pause.bits ∧ u.word (b + 3) = wordOf (u.enf.get arm).stop.bits ∧
    u.word (b + 13) = 0 ∧ u.word (b + 14) = 0 ∧
    u.word (b + 15) = (match f.lastSeq with | none => 0 | some q => wordOf (2 + q.toNat * 256)) ∧
    u.word (b + 16) = wordOf (u.tallies.get arm).owned ∧ u.word (b + 17) = wordOf (u.tallies.get arm).lingering ∧
    u.word (b + 18) = f.good ∧ u.word (b + 19) = f.bad ∧ u.word (b + 20) = f.duplicate ∧ u.word (b + 21) = f.overrun

/-- The words that the snapshot write of a swap writes. -/
abbrev inSwapSnapshot (arm : Arm) (a : Nat) : Prop := a ∈ offsets (snapshotBase arm) 4 ∨ a ∈ offsets (snapshotBase arm + 13) 9

theorem State.writeEventSnapshot_swapShown (wf : s.memoryOk) (absent : (s.feeds.get arm).state = .absent)
    (unseated : (s.enf.get arm).seated = false) : s.swapShown (s.writeEventSnapshot arm true) arm ∧
      ∀ a, ¬ inSwapSnapshot arm a → (s.writeEventSnapshot arm true).word a = s.word a := by
  have old : (s.raiseSnapshotCount arm).word (snapshotBase arm + 1) = s.word (snapshotBase arm + 1) :=
    s.raiseSnapshotCount_word_of_ne arm (by omega)
  have cleared := eventWord (s.word (snapshotBase arm + 1)) .absent false
  rw [show wordOf (FeedState.absent.code + markAt false 4) = 0#16 from rfl, BitVec.or_zero] at cleared
  have written : s.writeEventSnapshot arm true = s.eventWritten arm
      ((s.word (snapshotBase arm + 1) &&& 0xFFEC) :: s.causeWords arm)
      ([0, 0, wordOf (lastSeqBits (s.feeds.get arm).lastSeq)] ++ s.tallyWords arm) := by
    unfold State.writeEventSnapshot State.eventTraverseWords
    simp only [if_true, old]
    rw [show (s.raiseSnapshotCount arm).feeds = s.feeds from rfl, show (s.raiseSnapshotCount arm).enf = s.enf from rfl, absent,
      unseated, cleared]
    rfl
  obtain ⟨m, memory⟩ := s.writeEventSnapshot_memory arm true
  have enf : (s.writeEventSnapshot arm true).enf = s.enf := by rw [memory]; rfl
  have feeds : (s.writeEventSnapshot arm true).feeds = s.feeds := by rw [memory]; rfl
  have tallies : (s.writeEventSnapshot arm true).tallies = s.tallies := by rw [memory]; rfl
  rw [State.swapShown, enf, feeds, tallies, written]
  obtain ⟨count, low, high, rest⟩ := State.eventWritten_words (arm := arm) (low := _ :: s.causeWords arm)
    (high := [_, _, _] ++ s.tallyWords arm) wf rfl rfl
  refine ⟨⟨count, low 0 (by omega), low 1 (by omega), low 2 (by omega), high 0 (by omega), high 1 (by omega),
    (high 2 (by omega)).trans ?_, high 3 (by omega), high 4 (by omega), high 5 (by omega), high 6 (by omega), high 7 (by omega),
    high 8 (by omega)⟩, fun a ha => ?_⟩
  · cases (s.feeds.get arm).lastSeq <;> rfl
  · simp only [inSwapSnapshot, mem_offsets] at ha
    exact rest a (by omega) (by omega) (by omega)

/-! ## The refill interlock (R147, R152) -/

variable {r : Refill} {t : ZoneTable} {had rfreq : Bool}

/-- R152: the interlock with the debounced level and the debounce timer of the new table. -/
def Refill.levelled (r : Refill) (t : ZoneTable) (had rfreq : Bool) : Refill :=
  { r with debounced := had && r.debounced, debounceTimer := debounceTimerFor t rfreq (had && r.debounced) }

theorem Refill.swapped_of_idle (idle : r.state = .idle) : r.swapped t had rfreq =
    if t.refillCount ≠ 0 ∧ (had && r.debounced) = true then (r.levelled t had rfreq).requestOf t else r.levelled t had rfreq := by
  rw [if_congr (and_congr_left' t.hasRefillSet_iff.symm) rfl rfl]
  cases r
  cases idle
  rfl

theorem Refill.swapped_of_requested (requested : r.state = .requested) : r.swapped t had rfreq =
    if t.refillCount ≠ 0 then (r.levelled t had rfreq).carryRequest t else (r.levelled t had rfreq).toIdle := by
  rw [if_congr t.hasRefillSet_iff.symm rfl rfl]
  cases r
  cases requested
  rfl

theorem Refill.carryRequest_eq (r : Refill) (t : ZoneTable) :
    r.carryRequest t = { r with stallTimer := r.stallTimer.map (fun _ => t.rsl.toNat * 1000000) } := by
  obtain ⟨-, -, -, -, timer⟩ := r
  cases timer <;> rfl

/-- R147, R152: the debounced level and the debounce timer after a swap. -/
theorem Refill.swapped_debounce (calm : r.state ≠ .granted) : (r.swapped t had rfreq).debounced = (had && r.debounced) ∧
    (r.swapped t had rfreq).debounceTimer = debounceTimerFor t rfreq (had && r.debounced) := by
  cases state : r.state with
  | idle =>
    rw [Refill.swapped_of_idle state]
    split <;> exact ⟨rfl, rfl⟩
  | requested =>
    rw [Refill.swapped_of_requested state, Refill.carryRequest_eq]
    split <;> exact ⟨rfl, rfl⟩
  | granted => exact absurd state calm

/-- R147: the debounce timer runs, for the time of its level, while the two levels differ. -/
theorem debounceTimerFor_rule (t : ZoneTable) (sampled debounced : Bool) :
    (debounceTimerFor t sampled debounced = none ↔ sampled = debounced) ∧
      ∀ d, debounceTimerFor t sampled debounced = some d → d = (if debounced then t.rdf.toNat else t.rdr.toNat) * 1000000 := by
  rw [debounceTimerFor_eq]
  by_cases same : sampled = debounced
  · simp [same]
  · rw [if_neg same]
    exact ⟨by simp [same], fun d h => (Option.some.inj h).symm⟩

/-- R152: the state, the stall mark and the stall timer after a swap. -/
theorem Refill.swapped_stall (r : Refill) (t : ZoneTable) (had rfreq : Bool) :
    let n := r.swapped t had rfreq
    (r.state = .idle → t.refillCount = 0 ∨ n.debounced = false →
      n.state = .idle ∧ n.stalled = r.stalled ∧ n.stallTimer = r.stallTimer) ∧
    (r.state = .idle → t.refillCount ≠ 0 → n.debounced = true →
      n.state = .requested ∧ n.stalled = false ∧ n.stallTimer = some (t.rsl.toNat * 1000000)) ∧
    (r.state = .requested → t.refillCount = 0 → n.state = .idle ∧ n.stalled = false ∧ n.stallTimer = none) ∧
    (r.state = .requested → t.refillCount ≠ 0 →
      n.state = .requested ∧ n.stalled = r.stalled ∧ n.stallTimer = r.stallTimer.map (fun _ => t.rsl.toNat * 1000000)) := by
  refine ⟨fun idle still => ?_, fun idle set high => ?_, fun requested noSet => ?_, fun requested set => ?_⟩
  · obtain ⟨level, -⟩ := Refill.swapped_debounce (r := r) (t := t) (had := had) (rfreq := rfreq) (by simp [idle])
    rw [level] at still
    rw [Refill.swapped_of_idle idle, if_neg (by rintro ⟨set, high⟩; exact set (still.resolve_right (by simp [high])))]
    exact ⟨idle, rfl, rfl⟩
  · obtain ⟨level, -⟩ := Refill.swapped_debounce (r := r) (t := t) (had := had) (rfreq := rfreq) (by simp [idle])
    rw [level] at high
    rw [Refill.swapped_of_idle idle, if_pos ⟨set, high⟩]
    exact ⟨rfl, rfl, rfl⟩
  · rw [Refill.swapped_of_requested requested, if_neg (not_not.mpr noSet)]
    exact ⟨rfl, rfl, rfl⟩
  · rw [Refill.swapped_of_requested requested, if_pos set, Refill.carryRequest_eq]
    exact ⟨requested, rfl, rfl⟩

/-- R147, R152: the debounced level, the debounce timer and the rest of the interlock after a swap. -/
theorem Refill.swapped_rule {n : Refill} (calm : r.state ≠ .granted) (h : n = r.swapped t had rfreq) :
    n.debounced = (had && r.debounced) ∧ (n.debounceTimer = none ↔ rfreq = n.debounced) ∧
    (∀ d, n.debounceTimer = some d → d = (if n.debounced then t.rdf.toNat else t.rdr.toNat) * 1000000) ∧
    (r.state = .idle → t.refillCount = 0 ∨ n.debounced = false →
      n.state = .idle ∧ n.stalled = r.stalled ∧ n.stallTimer = r.stallTimer) ∧
    (r.state = .idle → t.refillCount ≠ 0 → n.debounced = true →
      n.state = .requested ∧ n.stalled = false ∧ n.stallTimer = some (t.rsl.toNat * 1000000)) ∧
    (r.state = .requested → t.refillCount = 0 → n.state = .idle ∧ n.stalled = false ∧ n.stallTimer = none) ∧
    (r.state = .requested → t.refillCount ≠ 0 →
      n.state = .requested ∧ n.stalled = r.stalled ∧ n.stallTimer = r.stallTimer.map (fun _ => t.rsl.toNat * 1000000)) := by
  obtain ⟨level, timer⟩ := Refill.swapped_debounce (t := t) (had := had) (rfreq := rfreq) calm
  obtain ⟨stopped, time⟩ := debounceTimerFor_rule t rfreq (had && r.debounced)
  rw [← timer, ← level] at stopped time
  subst h
  exact ⟨level, stopped, time, r.swapped_stall t had rfreq⟩

/-! ## The table, the fence set, the standoff count and the interlock (R117, R142, R152, R181) -/

/-- R168: the new table becomes active, its image is written, the fence set is emptied and the standoff count is 0. -/
def State.tabled (s : State) (t : ZoneTable) : State :=
  (((s.setFence []).setSurvey { (s.setFence []).survey with standoff := 0 }).setActive (some t)).writeWords 0x400 t.image

/-- R152, R146: the interlock carried into the new table. -/
def State.interlocked (s : State) (t : ZoneTable) (had : Bool) : State :=
  (s.putRefill (s.refill.swapped t had s.rfreq)).flagRefillChange s.refill.state

/-- R128: the snapshot writes of a swap. -/
def State.shownBoth (s : State) : State := (s.writeEventSnapshot .a true).writeEventSnapshot .b true

/-- R166: the install record of a swap. -/
def Install.installed (i : Install) (t : ZoneTable) : Install :=
  { i with state := .installed, reason := none, activeSerial := t.serial, pendingTable := none, window := none }

theorem State.tabled_frame (s : State) (t : ZoneTable) : s.tabled t =
    { s with active := some t, fence := [], survey := { s.survey with standoff := 0 }, mem := (s.tabled t).mem } := by
  unfold State.tabled
  generalize t.image = ws
  rfl

theorem State.tabled_memoryOk (wf : s.memoryOk) (t : ZoneTable) : (s.tabled t).memoryOk := by
  unfold State.tabled
  generalize t.image = ws
  exact Memory.wf_writeFrom _ _ wf

theorem State.interlocked_frame (s : State) (t : ZoneTable) (had : Bool) : s.interlocked t had =
    { s with refill := s.refill.swapped t had s.rfreq, ports := (s.interlocked t had).ports, mem := (s.interlocked t had).mem } := by
  unfold State.interlocked
  generalize s.refill.swapped t had s.rfreq = r
  conv_lhs => rw [State.flagRefillChange_frame]
  rw [State.flagRefillChange_mem]
  rfl

theorem State.interlocked_memoryOk (wf : s.memoryOk) (t : ZoneTable) (had : Bool) : (s.interlocked t had).memoryOk := by
  unfold State.interlocked State.memoryOk
  rw [State.flagRefillChange_mem]
  exact Memory.wf_write _ _ (Memory.wf_write _ _ wf)

/-- R146, R152: the flag of a refill state that a swap changes. -/
def State.refillFlag (s u : State) : List Flag := if u.refill.state = s.refill.state then [] else [.refill]

theorem State.interlocked_port (s : State) (t : ZoneTable) (had : Bool) (p : Port) : (s.interlocked t had).ports.get p =
    { s.ports.get p with flags := (s.ports.get p).flags ||| flagBits (s.refillFlag (s.interlocked t had)) } := by
  have refill : (s.interlocked t had).refill = s.refill.swapped t had s.rfreq := by rw [State.interlocked_frame]
  rw [State.refillFlag, refill]
  unfold State.interlocked
  generalize s.refill.swapped t had s.rfreq = r
  by_cases same : r.state = s.refill.state
  · rw [State.flagRefillChange_of_eq same, if_pos same, flagBits_nil]
    exact (congrArg (fun f => { s.ports.get p with flags := f }) BitVec.or_zero).symm
  · rw [State.flagRefillChange_of_ne same, if_neg same, State.raiseBoth_port, PortRegs.raised_eq]
    rfl

theorem State.shownBoth_memory (s : State) : ∃ m, s.shownBoth = s.setMem m := by
  obtain ⟨m, first⟩ := s.writeEventSnapshot_memory .a true
  obtain ⟨m', second⟩ := (s.setMem m).writeEventSnapshot_memory .b true
  refine ⟨m', ?_⟩
  rw [State.shownBoth, first, second]
  rfl

theorem State.swapShown_congr {x z : State} (before : ∀ k < 22, x.word (snapshotBase arm + k) = s.word (snapshotBase arm + k))
    (after : ∀ k < 22, z.word (snapshotBase arm + k) = u.word (snapshotBase arm + k)) (enf : z.enf = u.enf)
    (feeds : z.feeds = u.feeds) (tallies : z.tallies = u.tallies) (h : x.swapShown u arm) : s.swapShown z arm := by
  have first := after 0 (by omega)
  have first' := before 0 (by omega)
  rw [Nat.add_zero] at first first'
  obtain ⟨h0, h1, h2, h3, h13, h14, h15, h16, h17, h18, h19, h20, h21⟩ := h
  rw [first'] at h0
  rw [before 1 (by omega)] at h1
  rw [State.swapShown, enf, feeds, tallies]
  exact ⟨first.trans h0, (after 1 (by omega)).trans h1, (after 2 (by omega)).trans h2, (after 3 (by omega)).trans h3,
    (after 13 (by omega)).trans h13, (after 14 (by omega)).trans h14, (after 15 (by omega)).trans h15,
    (after 16 (by omega)).trans h16, (after 17 (by omega)).trans h17, (after 18 (by omega)).trans h18,
    (after 19 (by omega)).trans h19, (after 20 (by omega)).trans h20, (after 21 (by omega)).trans h21⟩

/-- The snapshots lie apart from each other. -/
theorem snapshotBase_apart (arm : Arm) {k : Nat} (hk : k < 22) : ¬ inSwapSnapshot arm.other (snapshotBase arm + k) := by
  simp only [inSwapSnapshot, mem_offsets]
  cases arm <;> simp only [Side.other, snapshotBase] <;> omega

theorem State.shownBoth_shown (wf : s.memoryOk) (absent : ∀ arm, (s.feeds.get arm).state = .absent)
    (unseated : ∀ arm, (s.enf.get arm).seated = false) : (∀ arm, s.swapShown s.shownBoth arm) ∧
      ∀ a, (∀ arm, ¬ inSwapSnapshot arm a) → s.shownBoth.word a = s.word a := by
  obtain ⟨shownA, keptA⟩ := State.writeEventSnapshot_swapShown wf (absent .a) (unseated .a)
  have enf : (s.writeEventSnapshot .a true).enf = s.enf := s.writeEventSnapshot_enf .a true
  have feeds : (s.writeEventSnapshot .a true).feeds = s.feeds := s.writeEventSnapshot_feeds .a true
  have wf' := State.writeEventSnapshot_memoryOk wf .a true
  unfold State.shownBoth
  generalize s.writeEventSnapshot .a true = x at *
  obtain ⟨shownB, keptB⟩ := State.writeEventSnapshot_swapShown wf' (arm := .b) (by rw [feeds]; exact absent .b)
    (by rw [enf]; exact unseated .b)
  have enf' : (x.writeEventSnapshot .b true).enf = x.enf := x.writeEventSnapshot_enf .b true
  have feeds' : (x.writeEventSnapshot .b true).feeds = x.feeds := x.writeEventSnapshot_feeds .b true
  have tallies' : (x.writeEventSnapshot .b true).tallies = x.tallies := x.writeEventSnapshot_tallies .b true
  generalize x.writeEventSnapshot .b true = y at *
  refine ⟨fun arm => ?_, fun a away => (keptB a (away .b)).trans (keptA a (away .a))⟩
  cases arm with
  | a => exact State.swapShown_congr (fun _ _ => rfl) (fun k hk => keptB _ (snapshotBase_apart .a hk)) enf' feeds' tallies' shownA
  | b => exact State.swapShown_congr (fun k hk => keptA _ (snapshotBase_apart .b hk)) (fun _ _ => rfl) rfl rfl rfl shownB

/-- R168: the blocks that take the table after both arms' sides. -/
def State.tableTaken (s : State) (t : ZoneTable) (had : Bool) : State :=
  (((s.tabled t).interlocked t had).shownBoth).changeInstall ((((s.tabled t).interlocked t had).shownBoth).install.installed t)

theorem State.swap_eq (s : State) (t : ZoneTable) :
    s.swap t = ((s.swapArm .a).swapArm .b).tableTaken t s.active.isSome := by
  generalize sides : (s.swapArm .a).swapArm .b = x
  unfold State.swap
  rw [sides]
  rfl

/-- The change from `s` to `u` is that of the blocks that take the table after both arms' sides. -/
structure State.TableTaken (s u : State) (t : ZoneTable) (had : Bool) : Prop where
  frame : u = { s with
    active := some t, fence := [], survey := { s.survey with standoff := 0 }, refill := s.refill.swapped t had s.rfreq
    install := s.install.installed t, ports := u.ports, mem := u.mem }
  image : ∀ k < 256, u.word (0x400 + k) = t.image.getD k 0
  install : u.word 0x008 = 2 ∧ u.word 0x00A = t.serial ∧ u.word 0x009 = s.install.pendingSerial
  refill : u.word 0x00B = u.refillWord
  status : u.word 0x004 = u.statusWord
  snapshots : ∀ arm, s.swapShown u arm
  words : ∀ a, a ∉ [0x004, 0x008, 0x009, 0x00A, 0x00B] → ¬ (0x400 ≤ a ∧ a < 0x500) → (∀ arm, ¬ inSwapSnapshot arm a) →
    u.word a = s.word a
  ports : ∀ p, u.ports.get p =
    { s.ports.get p with flags := (s.ports.get p).flags ||| flagBits (s.refillFlag u ++ [.install]) }

theorem State.tabled_words (wf : s.memoryOk) (length : t.image.length = 256) :
    (∀ k < 256, (s.tabled t).word (0x400 + k) = t.image.getD k 0) ∧
      ∀ a, ¬ (0x400 ≤ a ∧ a < 0x500) → (s.tabled t).word a = s.word a := by
  unfold State.tabled
  generalize t.image = ws at *
  exact ⟨fun k hk => State.writeWords_word_inside (s := ((s.setFence []).setSurvey _).setActive _) wf (length ▸ hk),
    fun a ha => State.writeWords_word_outside _ ws (by omega)⟩

theorem State.tableTaken_taken (wf : s.memoryOk) (length : t.image.length = 256) (absent : ∀ arm, (s.feeds.get arm).state = .absent)
    (unseated : ∀ arm, (s.enf.get arm).seated = false) (had : Bool) : s.TableTaken (s.tableTaken t had) t had := by
  have frame1 := s.tabled_frame t
  have wf1 := State.tabled_memoryOk wf t
  obtain ⟨image, words1⟩ := State.tabled_words wf length
  unfold State.tableTaken
  generalize s.tabled t = x at *
  have frame2 := x.interlocked_frame t had
  have wf2 := State.interlocked_memoryOk wf1 t had
  have ports2 := x.interlocked_port t had
  obtain ⟨record, status, words2⟩ : x.refillShown (x.interlocked t had) :=
    State.flagRefillChange_refillShown _ (State.putRefill_shown wf1 _)
  generalize x.interlocked t had = y at *
  obtain ⟨snapshots, words3⟩ := State.shownBoth_shown wf2 (fun arm => by rw [frame2, frame1]; exact absent arm)
    (fun arm => by rw [frame2, frame1]; exact unseated arm)
  obtain ⟨m, memory⟩ := y.shownBoth_memory
  rw [memory] at snapshots words3 ⊢
  have wf3 : (y.setMem m).memoryOk := by
    rw [← memory]
    exact State.writeEventSnapshot_memoryOk (State.writeEventSnapshot_memoryOk wf2 .a true) .b true
  have frame4 := (y.setMem m).changeInstall_frame (((y.setMem m).install).installed t)
  have ports4 := (y.setMem m).changeInstall_port (((y.setMem m).install).installed t)
  obtain ⟨state, pendingSerial, activeSerial, words4⟩ := State.changeInstall_shown wf3 (((y.setMem m).install).installed t)
  generalize (y.setMem m).changeInstall (((y.setMem m).install).installed t) = u at *
  have install : u.install = s.install.installed t := by rw [frame4, frame2, frame1]; rfl
  have refill : u.refill = y.refill := by rw [frame4]; rfl
  have active : u.active = y.active := by rw [frame4]; rfl
  have enf : u.enf = y.enf := by rw [frame4]; rfl
  have sip : u.survey.sip = y.survey.sip := by rw [frame4]; rfl
  have same : (x.refill, x.rfreq, x.ports) = (s.refill, s.rfreq, s.ports) := by rw [frame1]
  obtain ⟨refill1, same⟩ := Prod.mk.inj same
  obtain ⟨rfreq1, ports1⟩ := Prod.mk.inj same
  have late : ∀ a, a ∉ installWords → (∀ arm, ¬ inSwapSnapshot arm a) → u.word a = y.word a := fun a off away =>
    (words4 a off).trans (words3 a away)
  have low : ∀ a < 0x80, ∀ arm, ¬ inSwapSnapshot arm a := fun a ha arm => by
    simp only [inSwapSnapshot, mem_offsets]
    cases arm <;> simp only [snapshotBase] <;> omega
  have high : ∀ a, 0x100 ≤ a → ∀ arm, ¬ inSwapSnapshot arm a := fun a ha arm => by
    simp only [inSwapSnapshot, mem_offsets]
    cases arm <;> simp only [snapshotBase] <;> omega
  refine ⟨?_, fun k hk => ?_, ⟨?_, ?_, ?_⟩, ?_, ?_, fun arm => ?_, fun a off outside away => ?_, fun p => ?_⟩
  · rw [refill1, rfreq1] at frame2
    conv_lhs => rw [frame4, frame2, frame1]
    rfl
  · rw [late _ (by simp; omega) (high _ (by omega)), words2 _ (by simp; omega), image k hk]
  · rw [state, State.installWord_of_noReason (by rw [install]; rfl), install]
    rfl
  · rw [activeSerial, install]
    rfl
  · rw [pendingSerial, install]
    rfl
  · rw [late _ (by decide) (low _ (by omega)), record, State.refillWord, State.refillWord, refill, active]
  · rw [late _ (by decide) (low _ (by omega)), status]
    exact (State.statusWord_congr sip active enf refill).symm
  · refine State.swapShown_congr (fun k hk => ?_) (fun k hk => words4 _ ?_) ?_ ?_ ?_ (snapshots arm)
    · rw [words2 _ (by cases arm <;> simp [snapshotBase] <;> omega),
        words1 _ (by cases arm <;> simp only [snapshotBase] <;> omega)]
    · cases arm <;> simp only [snapshotBase, List.mem_cons, List.not_mem_nil, or_false] <;> omega
    · exact enf
    · rw [frame4]
    · rw [frame4]
  · simp only [List.mem_cons, List.not_mem_nil, or_false, not_or] at off
    obtain ⟨status, h8, h9, hA, record⟩ := off
    rw [late a (by simp [h8, h9, hA]) away, words2 a (by simp [status, record]), words1 a outside]
  · have flag : x.refillFlag y = s.refillFlag u := by rw [State.refillFlag, State.refillFlag, refill1, refill]
    rw [ports4, PortRegs.raised_eq]
    show { y.ports.get p with flags := (y.ports.get p).flags ||| flagBits [.install] } = _
    rw [ports2, ports1, flag, flagBits_append, BitVec.or_assoc]

end
end Sys2Proof.Machine
end

section
/-! SUPPORT. R164, R167, R168: the gate test of a configuration service with no accepted command. -/

namespace Sys2Proof.Machine

section
variable {s v u : State} {p : PendingTable}

/-- R164: the state whose gate is tested: the service's request is taken out. -/
def State.gateState (s : State) : State := s.setWaiting (s.dropRequest .configuration).waiting

theorem exec_configurationService_of_pending (ready : s.readyFor .configuration) (none : s.accepted = [])
    (pending : s.install.pendingTable = some p) : exec (.configurationService []) s =
      .next ((if gateRule s p.mask then s.gateState.swap p.table else s.gateState).requestTogether [.grantPhase]) := by
  have taken : (s.dropRequest .configuration).setAccepted [] = s.gateState := by
    rw [← none]
    rfl
  have tested : s.gateState.testGate = if gateRule s p.mask then s.gateState.swap p.table else s.gateState := by
    have held : s.gateState.install.pendingTable = some p := pending
    have rule : s.gateState.gateOpen p.mask = true ↔ gateRule s p.mask := State.gateOpen_iff p.mask
    unfold State.testGate
    rw [held]
    exact if_congr rule rfl rfl
  rw [exec_configurationService_of_readyFor s ready, none, State.serviceRun, List.foldl_nil, taken, tested]

/-! ## The flags of a swap (R125, R183, R186) -/

theorem State.SidesSwapped.port_flagged (sides : s.SidesSwapped v) {arm : Arm} {fs : List Flag} (enf : u.enf = v.enf)
    (port : u.ports.get arm = { v.ports.get arm with flags := (v.ports.get arm).flags ||| flagBits fs }) :
    let own := ((s.laneFlag arm ++ s.feedFlag arm) ++ s.lineFlags u arm) ++ fs
    u.ports.get arm = { s.portAfter u arm own with history := (u.ports.get arm).history } ∧
      (s.guardConditions &&& ~~~(s.ports.get arm).history = 0 → u.ports.get arm = s.portAfter u arm own) := by
  obtain ⟨shape, whole⟩ := sides.ports arm
  have conditions : v.guardConditions = u.guardConditions := State.guardConditions_congr enf.symm
  have after : s.portAfter u arm (((s.laneFlag arm ++ s.feedFlag arm) ++ s.lineFlags u arm) ++ fs) =
      { s.portAfter v arm ((s.laneFlag arm ++ s.feedFlag arm) ++ s.lineFlags v arm) with
        flags := (s.portAfter v arm ((s.laneFlag arm ++ s.feedFlag arm) ++ s.lineFlags v arm)).flags ||| flagBits fs } := by
    rw [State.lineFlags_congr (s' := s) (u' := u) (s := s) (u := v) rfl (by rw [enf])]
    simp only [State.portAfter, conditions, flagBits_append, BitVec.or_assoc]
  dsimp only
  rw [after, port]
  refine ⟨?_, fun marked => by rw [whole marked]⟩
  conv_lhs => rw [shape]

/-! ## The words of a swap -/

theorem State.SidesSwapped.words_snapshot (sides : s.SidesSwapped v) (arm : Arm) {k : Nat} (hk : k < 22) :
    v.word (snapshotBase arm + k) = s.word (snapshotBase arm + k) := by
  have low : 0x80 ≤ snapshotBase arm ∧ snapshotBase arm + 22 ≤ 0x100 := by cases arm <;> decide
  refine sides.words _ (by omega) fun arm' k' _ m => ?_
  have := slotBase_lt arm' k'
  rw [mem_offsets] at m
  omega

theorem State.TableTaken.words_slot {t : ZoneTable} {had : Bool} (taken : v.TableTaken u t had) (arm : Arm) (k : Slot) {j : Nat}
    (hj : j < 16) : u.word (slotBase arm k + j) = v.word (slotBase arm k + j) := by
  have := slotBase_lt arm k
  refine taken.words _ ?_ (by omega) fun arm' m => ?_
  · simp only [List.mem_cons, List.not_mem_nil, or_false]
    omega
  · have low : snapshotBase arm' + 22 ≤ 0x100 := by cases arm' <;> decide
    simp only [inSwapSnapshot, mem_offsets] at m
    omega

/-- R69, R102: the requests that wait after a swap's service. -/
theorem mem_waiting_of_swap (s : State) (q : Request) :
    q ∈ (((s.gateState.dropRequest (.evaluation .a)).dropRequest (.evaluation .b)).requestTogether [.grantPhase]).waiting.flatten ↔
      q = .grantPhase ∨ (q ∈ s.waiting.flatten ∧ q = .refillTest) := by
  have first : s.gateState.waiting.flatten = s.waiting.flatten.filter (fun q => q != .configuration) :=
    s.dropRequest_flatten .configuration
  rw [State.requestTogether_flatten, State.dropRequest_flatten, State.dropRequest_flatten, first]
  simp only [List.mem_append, List.mem_filter, List.mem_singleton, bne_iff_ne]
  rcases q with arm | _ | _ | _
  · cases arm <;> simp
  all_goals simp

/-- The change from `s` to `u` is a swap and what the two structures say of its parts. -/
theorem State.gateState_swap (wf : s.memoryOk) (ok : Install.Ok s.install) (pending : s.install.pendingTable = some p) :
    ∃ v x, s.gateState.SidesSwapped v ∧ v.TableTaken x p.table s.active.isSome ∧ s.gateState.swap p.table = x := by
  obtain ⟨-, -, -, tables⟩ := ok
  obtain ⟨-, zones, entries⟩ := tables p pending
  have wf' : s.gateState.memoryOk := wf
  have sides := State.swapSides wf'
  rw [State.swap_eq]
  generalize (s.gateState.swapArm .a).swapArm .b = v at *
  refine ⟨v, _, sides, State.tableTaken_taken sides.canonical (ZoneTable.image_length zones entries) (fun arm => ?_) (fun arm => ?_) _, rfl⟩
  · rw [sides.frame]
    cases arm <;> rfl
  · rw [sides.frame]
    cases arm <;> rfl

/-- R39, R125, R146, R166, R183, R186: the flags of a swap. -/
theorem State.SidesSwapped.swapFlags_port {x : State} {t : ZoneTable} {had : Bool} {w : List (List Request)}
    (sides : s.gateState.SidesSwapped v) (taken : v.TableTaken x t had) (served : u = x.setWaiting w) (arm : Arm) :
    u.ports.get arm = { s.portAfter u arm (s.swapFlags u arm) with history := (u.ports.get arm).history } ∧
      (s.guardConditions &&& ~~~(s.ports.get arm).history = 0 → u.ports.get arm = s.portAfter u arm (s.swapFlags u arm)) := by
  have enf : u.enf = v.enf := by
    rw [served, taken.frame]
    rfl
  have flag : v.refillFlag x = s.refillFlag u := by
    rw [State.refillFlag, State.refillFlag, served, sides.frame]
    rfl
  have port : u.ports.get arm = { v.ports.get arm with
      flags := (v.ports.get arm).flags ||| flagBits (s.refillFlag u ++ [.install]) } := by
    rw [← flag, ← taken.ports arm, served]
    rfl
  have flags : s.swapFlags u arm = ((s.laneFlag arm ++ s.feedFlag arm) ++ s.lineFlags u arm) ++ (s.refillFlag u ++ [.install]) := by
    simp only [State.swapFlags, List.append_assoc]
    rfl
  rw [flags]
  exact sides.port_flagged enf port

end
end Sys2Proof.Machine

open Sys2Proof Sys2Proof.Machine

/-- Settles O36: the gate is the rule's; a swap is the work on each arm's side and then that of the blocks that take the table. -/
theorem quietGateOpensTheSwap : Obligations.QuietGateOpensTheSwap := by
  intro s p ready wf none ok pending
  have ran := exec_configurationService_of_pending ready none pending
  refine ⟨fun shut => ?_, fun opened => ?_⟩
  · rw [ran, if_neg shut]
    rfl
  have calm : s.refill.state ≠ .granted := opened.2.2.1
  rw [if_pos opened] at ran
  obtain ⟨v, x, sides, taken, swapped⟩ := State.gateState_swap wf ok pending
  rw [swapped] at ran
  generalize requested : x.requestTogether [.grantPhase] = u at ran
  have grant : u = x.setWaiting (x.waiting ++ [[.grantPhase]]) := requested.symm
  have refill : u.refill = s.refill.swapped p.table s.active.isSome s.rfreq := by
    rw [grant, taken.frame, sides.frame]
    rfl
  have enf : u.enf = ⟨s.enf.a.swapped, s.enf.b.swapped⟩ := by
    rw [grant, taken.frame, sides.frame]
    rfl
  have lanes : u.lanes = v.lanes := by
    rw [grant, taken.frame]
    rfl
  have waiting : u.waiting = (((s.gateState.dropRequest (.evaluation .a)).dropRequest (.evaluation .b)).requestTogether
      [.grantPhase]).waiting := by
    rw [grant, taken.frame, sides.frame]
    rfl
  have word : ∀ a, u.word a = x.word a := fun a => by rw [grant]; rfl
  obtain ⟨level, stopped, time, idleKept, idleRequests, requestEnds, requestKept⟩ := Refill.swapped_rule calm refill
  obtain ⟨state, activeSerial, pendingSerial⟩ := taken.install
  refine ⟨u, ran, ?_, fun q => ?_, fun arm => ?_, level, stopped, time, idleKept, idleRequests, requestEnds, requestKept,
    fun k hk => (word _).trans (taken.image k hk), (word _).trans state, (word _).trans activeSerial,
    (word _).trans (pendingSerial.trans ?_), (word _).trans (taken.refill.trans ?_), (word _).trans (taken.status.trans ?_),
    fun a off outside away slots => ?_, fun arm => ?_⟩
  · rw [grant, taken.frame, sides.frame]
    rfl
  · rw [waiting]
    exact mem_waiting_of_swap s q
  · have shown : s.swapShown u arm :=
      State.swapShown_congr (fun k hk => sides.words_snapshot arm hk) (fun k _ => word _) (by rw [grant]; rfl) (by rw [grant]; rfl)
        (by rw [grant]; rfl) (taken.snapshots arm)
    have slot : ∀ k j, j < 16 → u.word (slotBase arm k + j) = v.word (slotBase arm k + j) := fun k j hj =>
      (word _).trans (taken.words_slot arm k hj)
    obtain ⟨next, list, granted⟩ := sides.lists arm
    dsimp only
    rw [lanes]
    refine ⟨next, list, granted, sides.slots arm, fun k held => ?_, by rw [enf]; cases arm <;> rfl, shown⟩
    obtain ⟨result, state, zone⟩ := sides.results arm k held
    exact ⟨(slot k 9 (by omega)).trans result, (slot k 10 (by omega)).trans state, (slot k 11 (by omega)).trans zone⟩
  · rw [sides.frame]
    rfl
  · rw [grant]
    rfl
  · rw [grant]
    rfl
  · have status : a ≠ 0x004 := fun e => off (by simp [e])
    exact (word a).trans ((taken.words a off outside fun arm m => m.elim (away arm).1 (away arm).2).trans (sides.words a status slots))
  · exact sides.swapFlags_port taken grant arm
end

section
/-! SUPPORT. R127, R171, R173, R174, R176: what every piece of a command's work keeps: the queue, the truth of the exchange memory,
and the ports' words but those that a port writes meanwhile. -/

namespace Sys2Proof.Machine

/-! ## The records written at each change (R146, R154, R166, R176) -/

/-- R176: what the word at an offset shows, where it is one that is written "at each change". -/
def State.recordAt (s : State) (a : Nat) : Option Word :=
  if a = 0x004 then some s.statusWord
  else if a = 0x008 then some s.installWord
  else if a = 0x009 then some s.install.pendingSerial
  else if a = 0x00A then some s.install.activeSerial
  else if a = 0x00B then some s.refillWord
  else if a = 0x00C then some s.lockWord
  else none

theorem State.headerOk_iff (s : State) :
    s.headerOk ↔ (s.resetAsserted = false → ∀ a, ∀ w ∈ s.recordAt a, s.word a = w) := by
  refine forall_congr' fun _ => ⟨fun ⟨status, install, pendingSerial, activeSerial, refill, lock⟩ a w shows => ?_, fun h =>
    ⟨h 0x004 _ rfl, h 0x008 _ rfl, h 0x009 _ rfl, h 0x00A _ rfl, h 0x00B _ rfl, h 0x00C _ rfl⟩⟩
  unfold State.recordAt at shows
  split_ifs at shows <;> cases shows <;> subst a <;> assumption

/-- R176: the six words of the header that are written "at each change". -/
theorem State.recordAt_place {s : State} {a : Nat} {w : Word} (record : s.recordAt a = some w) : a = 4 ∨ 8 ≤ a ∧ a ≤ 12 := by
  unfold State.recordAt at record
  split_ifs at record <;> omega

theorem State.recordAt_of_plain (s : State) {a : Nat} (plain : plainWord a = true) : s.recordAt a = none := by
  rw [plainWord_iff] at plain
  refine Option.eq_none_iff_forall_ne_some.mpr fun w record => ?_
  have := State.recordAt_place record
  omega

/-- What the records show, with the queue and RESET_N. -/
def State.recordView (s : State) :=
  ((s.pending, s.resetAsserted), (s.survey.sip, s.active, s.enf.a.pause, s.enf.a.stop, s.enf.b.pause, s.enf.b.stop),
    (s.refill.state, s.refill.stalled, s.refill.debounced), s.install, s.lock)

theorem State.recordAt_of_view {s u : State} (view : u.recordView = s.recordView) : u.recordAt = s.recordAt := by
  simp only [State.recordView, Prod.mk.injEq] at view
  obtain ⟨-, ⟨sip, active, pauseA, stopA, pauseB, stopB⟩, ⟨state, stalled, debounced⟩, install, lock⟩ := view
  funext a
  simp only [State.recordAt, State.statusWord, State.pauseLine, State.stopLine, State.rfgnt, State.installWord, State.refillWord,
    State.lockWord, Pair.get, sip, active, pauseA, stopA, pauseB, stopB, state, stalled, debounced, install, lock]

/-! ## What work keeps -/

/-- Work in which the ports write at most the words of `W`: the queue stays, the exchange memory stays true, and no other word of a
port changes. -/
structure State.Recorded (W : Nat → Prop) (s u : State) : Prop where
  queue : u.pending = s.pending
  sound : s.memoryTrue → u.memoryTrue
  ports : ∀ a, portWritten a = true → ¬ W a → u.word a = s.word a

section
variable {W V : Nat → Prop} {s t u : State}

theorem State.Recorded.refl (s : State) : s.Recorded W s := ⟨rfl, id, fun _ _ _ => rfl⟩

theorem State.Recorded.trans (h : s.Recorded W t) (k : t.Recorded W u) : s.Recorded W u :=
  ⟨k.queue.trans h.queue, k.sound ∘ h.sound, fun a port away => (k.ports a port away).trans (h.ports a port away)⟩

theorem State.Recorded.foldl {α : Type} {g : State → α → State} (h : ∀ (s : State) (x : α), s.Recorded W (g s x)) (l : List α)
    (s : State) : s.Recorded W (l.foldl g s) := by
  induction l generalizing s with
  | nil => exact .refl s
  | cons x l ih => exact (h s x).trans (ih _)

/-- Work that touches only words of `T`, none of them a port's: it is enough that the records among them are shown again, that no
other record changes, and that the snapshot counts among them stay even. -/
theorem State.Recorded.of_touched (T : Nat → Prop) (guard : ∀ a, T a → portWritten a = false)
    (frame : (u.pending, u.resetAsserted) = (s.pending, s.resetAsserted)) (lock : Lock.Ok s.lock → Lock.Ok u.lock)
    (canonical : s.memoryOk → u.memoryOk) (kept : ∀ a, ¬ T a → u.word a = s.word a)
    (unseen : ∀ a, ¬ T a → u.recordAt a = s.recordAt a)
    (shown : s.memoryOk → ∀ a, T a → ∀ w ∈ u.recordAt a, u.word a = w)
    (counts : s.memoryOk → ∀ arm, T (snapshotBase arm) →
      (u.word (snapshotBase arm)).getLsbD 0 = (s.word (snapshotBase arm)).getLsbD 0) : s.Recorded W u := by
  obtain ⟨queue, reset⟩ := Prod.mk.inj frame
  refine ⟨queue, fun ⟨wf, header, ⟨evenA, evenB⟩, lockOk⟩ => ⟨canonical wf, ?_, ?_, lock lockOk⟩, fun a port _ =>
    kept a fun touched => by simp [guard a touched] at port⟩
  · rw [State.headerOk_iff, reset] at *
    intro released a w shows
    by_cases touched : T a
    · exact shown wf a touched w shows
    · rw [kept a touched]
      exact header released a w (unseen a touched ▸ shows)
  · have same : ∀ arm, (u.word (snapshotBase arm)).getLsbD 0 = (s.word (snapshotBase arm)).getLsbD 0 := fun arm => by
      by_cases touched : T (snapshotBase arm)
      · exact counts wf arm touched
      · rw [kept _ touched]
    exact ⟨(same .a).trans evenA, (same .b).trans evenB⟩

/-- Work that changes no record, and of memory plain words alone. -/
theorem State.Recorded.of_plain (view : u.recordView = s.recordView) (canonical : s.memoryOk → u.memoryOk)
    (kept : ∀ a, plainWord a = false → u.word a = s.word a) : s.Recorded W u := by
  have records := State.recordAt_of_view view
  simp only [State.recordView, Prod.mk.injEq] at view
  obtain ⟨⟨queue, reset⟩, -, -, -, lock⟩ := view
  refine .of_touched (fun a => plainWord a = true) (fun a plain => portWritten_of_plain plain) (by rw [queue, reset])
    (by rw [lock]; exact id) canonical (fun a h => kept a (by simpa using h)) (fun a _ => by rw [records])
    (fun _ a plain w shows => ?_) (fun _ arm plain => ?_)
  · rw [u.recordAt_of_plain plain] at shows
    cases shows
  · cases arm <;> exact absurd plain (by decide)

/-- Work that leaves the records and memory. -/
theorem State.Recorded.of_frame (view : u.recordView = s.recordView) (mem : u.mem = s.mem) : s.Recorded W u :=
  .of_plain view (fun wf => (congrArg Memory.wf mem).trans wf) fun a _ => congrArg (Memory.read · a) mem

/-- Work that writes one record. -/
theorem State.Recorded.of_record {a : Nat} {w : Word} (mem : u.mem = s.mem.write a w) (record : u.recordAt a = some w)
    (others : ∀ b, b ≠ a → u.recordAt b = s.recordAt b)
    (frame : (u.pending, u.resetAsserted) = (s.pending, s.resetAsserted)) (lock : Lock.Ok s.lock → Lock.Ok u.lock) :
    s.Recorded W u := by
  have place := State.recordAt_place record
  have guard : portWritten a = false := by
    obtain rfl | ⟨low, high⟩ := place
    · decide
    · interval_cases a <;> decide
  refine .of_touched (· = a) (fun b h => h ▸ guard) frame lock (fun wf => ?_) (fun b ne => ?_) others (fun wf b h x shows => ?_)
    (fun _ arm h => ?_)
  · rw [State.memoryOk, mem]
    exact Memory.wf_write _ _ wf
  · rw [State.word, mem]
    exact Memory.read_write_of_ne _ _ ne
  · subst h
    rw [record, Option.mem_some_iff] at shows
    subst shows
    rw [State.word, mem]
    exact Memory.read_write_same _ _ wf
  · cases arm <;> simp only [snapshotBase] at h <;> omega

end
end Sys2Proof.Machine
end

section
/-! SUPPORT. R76–R97, R125–R128, R142–R153, R165–R168: every effect of the guard keeps the queue, the truth of the exchange memory
and every port's word. -/

namespace Sys2Proof.Machine

section
variable {W : Nat → Prop} (s : State) (arm : Arm) (slot : Slot)

/-! ## Work beside the records -/

theorem State.raise_recorded (f : Flag) (p : Port) : s.Recorded W (s.raise f p) := .of_frame rfl rfl

theorem State.raiseBoth_recorded (f : Flag) : s.Recorded W (s.raiseBoth f) := .of_frame rfl rfl

theorem State.raiseIf_recorded (b : Bool) (f : Flag) (p : Port) : s.Recorded W (s.raiseIf b f p) := by
  cases b
  · exact .refl s
  · exact s.raise_recorded f p

theorem State.setWaiting_recorded (w : List (List Request)) : s.Recorded W (s.setWaiting w) := .of_frame rfl rfl

theorem State.modFeed_recorded (g : Feed → Feed) : s.Recorded W (s.modFeed arm g) := .of_frame rfl rfl

theorem State.modReach_recorded (g : Reach → Reach) : s.Recorded W (s.modReach arm g) := .of_frame rfl rfl

theorem State.modLane_recorded (g : Lane → Lane) : s.Recorded W (s.modLane arm g) := .of_frame rfl rfl

theorem State.putCells_recorded (cs : List Cell) : s.Recorded W (s.putCells cs) := .of_frame rfl rfl

/-- A change of the survey arbiter that leaves SIP. -/
theorem State.setSurvey_recorded {v : Survey} (sip : v.sip = s.survey.sip) : s.Recorded W (s.setSurvey v) :=
  .of_frame (by simp [State.recordView, sip]) rfl

/-- A change of an enforcement record that leaves both cause sets. -/
theorem State.modEnf_recorded {g : Enforcement → Enforcement}
    (sets : ∀ e, ((g e).pause, (g e).stop) = (e.pause, e.stop) := by intro e; rfl) : s.Recorded W (s.modEnf arm g) := by
  simp only [Prod.mk.injEq] at sets
  refine .of_frame ?_ rfl
  cases arm <;> simp [State.recordView, Pair.modify, Pair.set, Pair.get, sets]

theorem State.writeWord_recorded {a : Nat} (plain : plainWord a = true) (v : Word) : s.Recorded W (s.writeWord a v) :=
  .of_plain rfl (Memory.wf_write _ _) fun b beside => State.writeWord_word_of_ne s v fun h => by simp [h ▸ beside] at plain

/-! ## Snapshots (R127, R128) -/

/-- A snapshot write: the count raised by 2, and words of the snapshot. -/
theorem State.Recorded.of_snapshot {s u : State} (view : u.recordView = s.recordView) (canonical : s.memoryOk → u.memoryOk)
    (kept : s.wordsKept u (offsets (snapshotBase arm) 22))
    (count : s.memoryOk → u.word (snapshotBase arm) = s.word (snapshotBase arm) + 2) : s.Recorded W u := by
  have records := State.recordAt_of_view view
  simp only [State.recordView, Prod.mk.injEq] at view
  obtain ⟨⟨queue, reset⟩, -, -, -, lock⟩ := view
  have place : ∀ {a}, a ∈ offsets (snapshotBase arm) 22 → 0x080 ≤ a ∧ a < 0x0C0 := fun {a} h => by
    rw [mem_offsets] at h
    cases arm <;> simp only [snapshotBase] at h <;> omega
  refine .of_touched (· ∈ offsets (snapshotBase arm) 22) (fun a h => ?_) (by rw [queue, reset]) (by rw [lock]; exact id) canonical
    kept (fun a _ => by rw [records]) (fun _ a h w shows => ?_) (fun wf x h => ?_)
  · obtain ⟨low, high⟩ := place h
    interval_cases a <;> decide
  · have := place h
    have := State.recordAt_place shows
    omega
  · have own : x = arm := by
      rw [mem_offsets] at h
      cases x <;> cases arm
      case a.a | b.b => rfl
      all_goals simp only [snapshotBase] at h; omega
    rw [own, count wf, BitVec.getLsbD_add (by omega)]
    simp

theorem State.writeSnapshot_recorded : s.Recorded W (s.writeSnapshot arm) := by
  obtain ⟨m, memory⟩ := s.writeSnapshot_memory arm
  refine .of_snapshot arm ?_ (fun wf => ?_) (s.writeSnapshot_wordsKept arm) fun wf => ?_
  · rw [memory]
    rfl
  · rw [State.writeSnapshot_eq]
    exact State.raiseSnapshotCount_memoryOk (Memory.wf_writeFrom _ _ (State.raiseSnapshotCount_memoryOk wf arm)) arm
  · rw [State.writeSnapshot_eq]
    exact (State.snapshotWritten_words wf arm _).1

/-- R128: an event writes words of the arm's snapshot, whatever the form of memory. -/
theorem State.eventWritten_wordsKept {low high : List Word} (lows : low.length = 3) (highs : high.length = 9) :
    s.wordsKept (s.eventWritten arm low high) (offsets (snapshotBase arm) 22) := fun a away => by
  rw [mem_offsets] at away
  rw [State.eventWritten, State.raiseSnapshotCount_word_of_ne _ _ (by omega), State.writeWords_word_outside _ _ (by omega),
    State.writeWords_word_outside _ _ (by omega), State.raiseSnapshotCount_word_of_ne _ _ (by omega)]

/-- R128: a snapshot write for an event writes three words from word 1 and nine from word 13. -/
theorem State.writeEventSnapshot_written (b : Bool) : ∃ low high : List Word, low.length = 3 ∧ high.length = 9 ∧
    s.writeEventSnapshot arm b = s.eventWritten arm low high := by
  unfold State.writeEventSnapshot
  dsimp only
  refine ⟨_, _, ?_, ?_, rfl⟩
  · rfl
  · cases b <;> rfl

theorem State.writeEventSnapshot_recorded (b : Bool) : s.Recorded W (s.writeEventSnapshot arm b) := by
  obtain ⟨low, high, lows, highs, written⟩ := s.writeEventSnapshot_written arm b
  rw [written]
  exact .of_snapshot arm rfl (fun wf => written ▸ State.writeEventSnapshot_memoryOk wf arm b)
    (s.eventWritten_wordsKept arm lows highs) fun wf => (State.eventWritten_words wf lows highs).1

theorem State.flushSnapshot_recorded : s.Recorded W (s.flushSnapshot arm) := by
  unfold State.flushSnapshot
  split
  · exact (s.modEnf_recorded arm).trans (State.writeEventSnapshot_recorded _ arm false)
  · exact .refl s

/-! ## Changes of a record (R125, R146, R154, R166) -/

/-- A record is that of the parts of State that it shows. -/
theorem State.recordAt_congr {s u : State} {a : Nat} (status : a = 0x004 → u.statusWord = s.statusWord)
    (install : 0x008 ≤ a → a ≤ 0x00A → u.install = s.install) (refill : a = 0x00B → u.refillWord = s.refillWord)
    (lock : a = 0x00C → u.lock = s.lock) : u.recordAt a = s.recordAt a := by
  unfold State.recordAt
  split_ifs with h4 h8 h9 hA hB hC
  · rw [status h4]
  · rw [State.installWord, State.installWord, install (by omega) (by omega)]
  · rw [install (by omega) (by omega)]
  · rw [install (by omega) (by omega)]
  · rw [refill hB]
  · rw [State.lockWord, State.lockWord, lock hC]
  · rfl

/-- The status word written, after a change that no other record shows. -/
theorem State.Recorded.of_status {s u : State} (mem : u.mem = s.mem.write 0x004 u.statusWord)
    (frame : (u.pending, u.resetAsserted) = (s.pending, s.resetAsserted))
    (parts : (u.install, u.refill, u.active, u.lock) = (s.install, s.refill, s.active, s.lock)) : s.Recorded W u := by
  simp only [Prod.mk.injEq] at parts
  obtain ⟨install, refill, active, lock⟩ := parts
  refine .of_record mem rfl (fun b ne => ?_) frame (by rw [lock]; exact id)
  exact State.recordAt_congr (absurd · ne) (fun _ _ => install)
    (fun _ => by rw [State.refillWord, State.refillWord, refill, active]) fun _ => lock

theorem State.setCauses_mem (p : PauseSet) (q : StopSet) :
    (s.setCauses arm p q).mem = s.mem.write 0x004 (s.setCauses arm p q).statusWord := by
  have written : ∀ x : State, x.mem = s.mem → x.writeStatus.mem = s.mem.write 0x004 x.writeStatus.statusWord := fun x h => by
    rw [← h]
    rfl
  exact written _ (by simp)

theorem State.setCauses_recorded (p : PauseSet) (q : StopSet) : s.Recorded W (s.setCauses arm p q) :=
  .of_status (s.setCauses_mem arm p q) (by simp) (by simp)

theorem State.setSip_recorded (b : Bool) : s.Recorded W (s.setSip b) := .of_status rfl rfl rfl

theorem State.putLock_recorded {l : Lock} (ok : Lock.Ok s.lock → Lock.Ok l) : s.Recorded W (s.putLock l) :=
  .of_record (a := 0x00C) rfl rfl
    (fun _ ne => State.recordAt_congr (fun _ => rfl) (fun _ _ => rfl) (fun _ => rfl) (absurd · ne)) rfl ok

/-- R166: the three words of the install record. -/
theorem State.changeInstall_recorded (i : Install) : s.Recorded W (s.changeInstall i) := by
  have kept : ∀ a, ¬ (8 ≤ a ∧ a ≤ 10) → (s.changeInstall i).word a = s.word a := fun a away =>
    State.writeWords_word_outside (s.setInstall i) _ (by simp only [List.length_cons, List.length_nil]; omega)
  refine .of_touched (fun a => 8 ≤ a ∧ a ≤ 10) (fun a ⟨low, high⟩ => by interval_cases a <;> decide) rfl id
    (fun wf => State.changeInstall_memoryOk wf i) kept
    (fun a away => State.recordAt_congr (fun _ => rfl) (fun low high => absurd ⟨low, high⟩ away) (fun _ => rfl) fun _ => rfl)
    (fun wf a ⟨low, high⟩ w shows => ?_) (fun _ arm h => ?_)
  · obtain ⟨state, pendingSerial, activeSerial, -⟩ := State.changeInstall_shown wf i
    interval_cases a <;> cases shows <;> assumption
  · cases arm <;> simp only [snapshotBase] at h <;> omega

/-- R146: the refill record and the status word, after work that changed no other record and plain words alone. -/
theorem State.putRefill_recorded_after {s x : State} (r : Refill)
    (frame : (x.pending, x.resetAsserted) = (s.pending, s.resetAsserted)) (parts : (x.install, x.lock) = (s.install, s.lock)) (canonical : s.memoryOk → x.memoryOk)
    (kept : ∀ a, plainWord a = false → x.word a = s.word a) : s.Recorded W (x.putRefill r) := by
  obtain ⟨install, lock⟩ := Prod.mk.inj parts
  have beside : ∀ a, a ≠ 0x004 → a ≠ 0x00B → (x.putRefill r).word a = x.word a := fun a h4 hB =>
    (State.writeWord_word_of_ne _ _ h4).trans (State.writeWord_word_of_ne _ _ hB)
  refine .of_touched (fun a => a = 0x004 ∨ a = 0x00B ∨ plainWord a = true) (fun a h => ?_) frame (by rw [← lock]; exact id)
    (fun wf => Memory.wf_write _ _ (Memory.wf_write _ _ (canonical wf))) (fun a away => ?_) (fun a away => ?_)
    (fun wf a h w shows => ?_) (fun _ arm h => ?_)
  · obtain rfl | rfl | plain := h
    · decide
    · decide
    · exact portWritten_of_plain plain
  · simp only [not_or, Bool.not_eq_true] at away
    obtain ⟨h4, hB, plain⟩ := away
    rw [beside a h4 hB, kept a plain]
  · exact State.recordAt_congr (fun h => absurd (.inl h) away) (fun _ _ => install) (fun h => absurd (.inr (.inl h)) away)
      fun _ => lock
  · have wf1 : ((x.setRefill r).writeRefillRecord).memoryOk := Memory.wf_write _ _ (canonical wf)
    obtain rfl | rfl | plain := h
    · cases shows
      exact Memory.read_write_same _ _ wf1
    · cases shows
      exact (State.writeWord_word_of_ne _ _ (by decide)).trans (Memory.read_write_same _ _ (canonical wf))
    · rw [State.recordAt_of_plain _ plain] at shows
      cases shows
  · cases arm <;> exact absurd h (by decide)

theorem State.putRefill_recorded (r : Refill) : s.Recorded W (s.putRefill r) :=
  State.putRefill_recorded_after r rfl rfl id fun _ _ => rfl

end
end Sys2Proof.Machine
end

section
/-! SUPPORT. R69, R80–R97, R102–R126, R154–R172: the effects together, the events that arrive, and each service: all keep the queue,
the truth of the exchange memory, and the ports' words but those that the arriving writes name. -/

namespace Sys2Proof.Machine

section
variable {W : Nat → Prop} (s : State) (arm : Arm) (slot : Slot)

/-! ## Compound work of the guard -/

/-- Work on one slot's result half (R76). -/
theorem State.SlotWork.recorded {s u : State} {arm : Arm} {k : Slot} (h : s.SlotWork u arm k) : s.Recorded W u := by
  have frame := h.frame
  unfold State.LaneWork at frame
  refine .of_plain ?_ h.canonical fun a beside => h.words a fun inside => ?_
  · rw [frame]
    rfl
  · rw [mem_offsets] at inside
    have plain := plainWord_slot arm k (a - slotBase arm k) (by omega) (by omega)
    rw [show slotBase arm k + (a - slotBase arm k) = a by omega, beside] at plain
    cases plain

theorem State.changeFeed_recorded (new : FeedState) : s.Recorded W (s.changeFeed arm new) := by
  have flagged := (s.modFeed_recorded (W := W) arm (fun f => { f with state := new })).trans (State.raise_recorded _ .feed arm)
  unfold State.changeFeed
  split
  · exact .refl s
  · dsimp only
    split
    · exact (flagged.trans (State.setCauses_recorded _ arm _ _)).trans (State.modEnf_recorded _ arm)
    · exact flagged.trans (State.setCauses_recorded _ arm _ _)

theorem State.addFeedLoss_recorded : s.Recorded W (s.addFeedLoss arm) :=
  (s.setCauses_recorded arm _ _).trans (State.modEnf_recorded _ arm)

theorem State.clearStop_recorded : s.Recorded W (s.clearStop arm) :=
  ((s.putCells_recorded _).trans (State.setCauses_recorded _ arm _ _)).trans (State.writeEventSnapshot_recorded _ arm false)

theorem State.seat_recorded : s.Recorded W (s.seat arm) := (s.putCells_recorded _).trans (State.modEnf_recorded _ arm)

theorem State.yieldLane_recorded : s.Recorded W (s.yieldLane arm) :=
  (s.modLane_recorded arm _).trans (.foldl (fun x k => (x.endWaiting_work arm k .yielded).recorded) _ _)

theorem State.grant_recorded (t : ZoneTable) (tr : Traverse) : s.Recorded W (s.grant t arm slot tr) := by
  unfold State.grant
  split
  · exact ((s.putCells_recorded _).trans (State.modLane_recorded _ arm _)).trans
      (((State.writeSlotState_work _ arm slot .granted).trans (State.writeBlocker_work _ arm slot .none none)).trans
        (State.writeWord_work _ arm slot (j := 13) (by omega) (by omega) _)).recorded
  · exact .refl s

/-! ## The lock (R154, R155) -/

theorem Lock.request_ok {l : Lock} (ok : l.Ok) (p : Port) : (l.request p).Ok := by
  intro q pending
  unfold Lock.request at pending ⊢
  split at pending
  · rename_i free
    have held := ok q pending
    rw [free] at held
    cases held
  · rename_i h holder
    split_ifs at pending ⊢ with own empty
    · exact ok q pending
    · cases pending
      rw [holder]
      cases h <;> cases p
      case a.b | b.a => rfl
      all_goals exact absurd rfl own
    · exact ok q pending

theorem Lock.release_ok {l : Lock} (ok : l.Ok) (p : Port) : (l.release p).Ok := by
  intro q pending
  unfold Lock.release at pending ⊢
  split at pending
  · exact ok q pending
  · split_ifs at pending ⊢
    · split at pending
      · rename_i none
        rw [none] at pending
        cases pending
      · cases pending
    · cases pending
    · exact ok q pending

theorem State.plockWrite_recorded (p : Port) (v : Word) : s.Recorded W (s.plockWrite p v) := by
  have handed : ∀ (x : State) (q : Option Port), x.Recorded W (x.flagHandover q) := fun x q => by
    cases q
    · exact .refl x
    · exact x.raise_recorded _ _
  unfold State.plockWrite
  split
  · exact .refl s
  split
  · exact (s.putLock_recorded fun ok => Lock.release_ok ok p).trans (handed _ _)
  split
  · exact s.putLock_recorded fun ok => Lock.request_ok ok p
  · exact .refl s

/-! ## The install swap (R168) -/

/-- R95, R97: ending waiting traverses one after another. -/
theorem State.withdrawRun_recorded (r : SlotResult) (l : List Slot) :
    s.Recorded W (l.foldl (fun s k => (s.endWaiting arm k .withdrawn).writeResult arm k r none) s) :=
  .foldl (fun s k => ((s.endWaiting_work arm k .withdrawn).trans (State.writeResult_work _ arm k r none)).recorded) l s

theorem State.swapArm_recorded : s.Recorded W (s.swapArm arm) := by
  have lane : s.Recorded W (s.swapLane arm) := (s.withdrawRun_recorded arm .tableChanged _).trans (State.modLane_recorded _ arm _)
  have feed : ∀ x : State, x.Recorded W (x.swapFeed arm) := fun x =>
    ((x.modFeed_recorded arm _).trans (State.setWaiting_recorded _ _)).trans (State.raiseIf_recorded _ _ .feed arm)
  have causes : ∀ x : State, x.Recorded W (x.swapCauses arm) := fun x =>
    (x.modEnf_recorded arm).trans (State.setCauses_recorded _ arm _ _)
  exact ((lane.trans (feed _)).trans (State.modReach_recorded _ arm _)).trans (causes _)

/-- R152, R181: the table, its image and the interlock, before the new status word and refill record show them. -/
theorem State.interlocked_recorded (t : ZoneTable) (had : Bool) : s.Recorded W ((s.tabled t).interlocked t had) := by
  have flagged : ∀ (x : State) (b : RefillState), x.Recorded W (x.flagRefillChange b) := fun x b => by
    unfold State.flagRefillChange
    split
    · exact .refl x
    · exact x.raiseBoth_recorded .refill
  have frame := s.tabled_frame t
  refine .trans (State.putRefill_recorded_after _ ?_ ?_ (fun wf => State.tabled_memoryOk wf t) fun a beside => ?_) (flagged _ _)
  · rw [frame]
  · rw [frame]
  · refine State.writeWords_word_outside _ _ (.inl ?_)
    by_contra high
    have plain : plainWord a = true := by
      rw [plainWord_iff]
      omega
    rw [plain] at beside
    cases beside

theorem State.swap_recorded (t : ZoneTable) : s.Recorded W (s.swap t) := by
  rw [State.swap_eq]
  have shown : ∀ x : State, x.Recorded W x.shownBoth := fun x =>
    (x.writeEventSnapshot_recorded .a true).trans (State.writeEventSnapshot_recorded _ .b true)
  exact (((s.swapArm_recorded .a).trans (State.swapArm_recorded _ .b)).trans (State.interlocked_recorded _ t _)).trans
    ((shown _).trans (State.changeInstall_recorded _ _))

/-! ## Effects -/

/-- Every part but the ports' words. -/
abbrev NoPort (p : Part) : Prop := p ≠ .port

theorem Effect.recorded {s t : State} (e : Effect NoPort s t) : s.Recorded W t := by
  cases e with
  | raise f p => exact s.raise_recorded f p
  | word a v plain => exact s.writeWord_recorded plain v
  | portWrite _ _ _ h => exact absurd rfl h
  | plockWrite p v => exact s.plockWrite_recorded p v
  | waiting w => exact s.setWaiting_recorded w
  | feedMod arm g => exact s.modFeed_recorded arm g
  | changeFeed arm new => exact s.changeFeed_recorded arm new
  | feedLoss arm => exact s.addFeedLoss_recorded arm
  | order arm => exact s.modEnf_recorded arm
  | flush arm => exact s.flushSnapshot_recorded arm
  | reachMod arm g => exact s.modReach_recorded arm g
  | runCounter arm => exact s.modEnf_recorded arm
  | seat arm => exact s.seat_recorded arm
  | gathered arm g => exact s.setCauses_recorded arm _ _
  | snapshot arm => exact s.writeSnapshot_recorded arm
  | clearStop arm => exact s.clearStop_recorded arm
  | sweep arm => exact s.putCells_recorded _
  | remaining arm k n => exact (s.writeRemaining_work arm k n).recorded
  | endGranted arm k => exact (s.endGranted_work arm k).recorded
  | endWaiting arm k => exact (s.endWaiting_work arm k .withdrawn).recorded
  | acceptPost arm k q tag => exact (s.acceptPost_work arm k q tag).recorded
  | yieldLane arm => exact s.yieldLane_recorded arm
  | laneClear arm => exact s.modLane_recorded arm _
  | grant t arm k tr => exact s.grant_recorded arm k t tr
  | survey v _ sip => exact s.setSurvey_recorded sip
  | sip b => exact s.setSip_recorded b
  | refill r => exact s.putRefill_recorded r
  | install i => exact s.changeInstall_recorded i
  | fence z => exact .of_frame rfl rfl
  | accepted l => exact .of_frame rfl rfl
  | swap p => exact s.swap_recorded p.table

theorem Effects.recorded {s t : State} (e : Effects NoPort s t) : s.Recorded W t := by
  induction e with
  | refl => exact .refl s
  | tail _ x ih => exact ih.trans x.recorded

end

/-! ## Events that arrive -/

section
variable {W : Nat → Prop} (s : State)

/-- R171: what a port may write is a port's word. -/
theorem State.portWritten_of_mayWrite {p : Port} {a : Nat} (allowed : s.mayWrite p a = true) : portWritten a = true := by
  simp only [State.mayWrite, Bool.or_eq_true, Bool.and_eq_true] at allowed
  obtain request | ⟨staging, -⟩ := allowed
  · cases p <;> simp [portWritten, request]
  · simp [portWritten, staging]

/-- R171, R172: a port's write changes its own word or none, and no word of the guard. -/
theorem State.portWrite_recorded (p : Port) {a : Nat} (own : W a) (v : Word) : s.Recorded W (s.portWrite p a v) := by
  unfold State.portWrite
  split
  · exact .refl s
  split
  · rename_i allowed
    have port := s.portWritten_of_mayWrite allowed
    have kept : ∀ {b}, portWritten b = false → (s.writeWord a v).word b = s.word b := fun {b} guard =>
      State.writeWord_word_of_ne s v fun h => by simp [← h, guard] at port
    have even : ∀ {b}, portWritten b = false → (s.word b).getLsbD 0 = false → ((s.writeWord a v).word b).getLsbD 0 = false :=
      fun guard even => (congrArg (BitVec.getLsbD · 0) (kept guard)).trans even
    refine ⟨rfl, fun ⟨wf, header, ⟨evenA, evenB⟩, lock⟩ => ⟨Memory.wf_write _ _ wf, fun released => ?_,
      ⟨even (by decide) evenA, even (by decide) evenB⟩, lock⟩, fun b _ away =>
        State.writeWord_word_of_ne s v fun h => away (h ▸ own)⟩
    obtain ⟨status, install, pendingSerial, activeSerial, refill, mirror⟩ := header released
    exact ⟨(kept (by decide)).trans status, (kept (by decide)).trans install, (kept (by decide)).trans pendingSerial,
      (kept (by decide)).trans activeSerial, (kept (by decide)).trans refill, (kept (by decide)).trans mirror⟩
  · exact s.raise_recorded .misuse p

/-- The words that the writes among the arrivals name. -/
def writtenIn (during : List Arrival) (a : Nat) : Prop :=
  ∃ x ∈ during, ∃ p addr v, x.event = .portWrite p addr v ∧ addr.toNat = a

variable {during l : List Arrival} (arm : Arm) (slot : Slot)

theorem State.arrive_recorded {x : Arrival} (arrives : x ∈ during) : s.Recorded (writtenIn during) (s.arrive x.event) := by
  have feed : ∀ arm, allowsFeed NoPort arm := fun _ => ⟨nofun, nofun, nofun⟩
  cases event : x.event with
  | portWrite p addr v => exact s.portWrite_recorded p ⟨x, arrives, p, addr, v, event, rfl⟩ v
  | plockWrite p v => exact s.plockWrite_recorded p v
  | frameComplete arm chars => exact (State.frameComplete_effects (feed arm) s chars).recorded
  | missExpiry arm => exact (State.missExpiry_effects (feed arm) s).recorded
  | lossGraceExpiry arm => exact (State.lossGraceExpiry_effects (feed arm) s).recorded

variable (during)

theorem State.arriveWhen_recorded (p : Nat → Bool) : s.Recorded (writtenIn during) (s.arriveWhen during p) := by
  suffices part : ∀ l : List Arrival, (∀ x ∈ l, x ∈ during) → ∀ s : State, s.Recorded (writtenIn during) (s.arriveWhen l p) from
    part during (fun _ => id) s
  intro l
  induction l with
  | nil => exact fun _ s => .refl s
  | cons x l ih =>
    intro sub s
    refine .trans ?_ (ih (fun y h => sub y (by simp [h])) _)
    dsimp only
    split
    · exact s.arrive_recorded (sub x (by simp))
    · exact .refl s

theorem State.arriveAt_recorded (k : Nat) : s.Recorded (writtenIn during) (s.arriveAt during k) := s.arriveWhen_recorded during _

theorem State.arriveBetween_recorded (lo hi : Nat) : s.Recorded (writtenIn during) (s.arriveBetween during lo hi) :=
  s.arriveWhen_recorded during _

theorem readRun_recorded (n point a : Nat) : s.Recorded (writtenIn during) (readRun during n point a s).2 := by
  induction n generalizing point a s with
  | zero => exact .refl s
  | succ n ih => exact (s.arriveAt_recorded during point).trans (ih _ _ _)

theorem readRecord_recorded (point base result n : Nat) :
    s.Recorded (writtenIn during) (readRecord during point base result n s).after :=
  ((s.arriveAt_recorded during _).trans (readRun_recorded _ during n _ base)).trans (State.arriveAt_recorded _ during _)

/-! ## Serving a request (R69, R128) -/

theorem State.serve_recorded (r : Request) {body : State → State} (h : ∀ x : State, x.Recorded W (body x)) :
    s.Recorded W (s.serve r body) := by
  unfold State.serve
  split
  · exact (((s.setWaiting_recorded _).trans (State.flushSnapshot_recorded _ .a)).trans (State.flushSnapshot_recorded _ .b)).trans
      (h _)
  · exact .refl s

theorem State.requestTogether_recorded (rs : List Request) : s.Recorded W (s.requestTogether rs) :=
  (State.requestTogether_effects s rs).recorded

/-! ## The frame evaluation (R126) -/

theorem State.countdown_recorded (gap : Option Nat) : s.Recorded W (s.countdown arm gap) := by
  unfold State.countdown
  split
  · rename_i k tr n _ _
    have fell := (s.writeRemaining_work arm k (countedDown tr.remaining n)).recorded (W := W)
    split
    · dsimp only
      split
      · exact fell.trans (State.endGranted_work _ arm k).recorded
      · exact fell
    · exact .refl s
  · exact .refl s

theorem State.seatingStage_recorded : s.Recorded W (s.seatingStage arm).1 := by
  unfold State.seatingStage
  split
  · exact .refl s
  · exact s.seat_recorded arm

theorem State.fullStages_recorded (t : ZoneTable) (gap : Option Nat) (marked : Bool) (g : Gathered) :
    s.Recorded (writtenIn during) (s.fullStages during t arm gap marked g).1 := by
  unfold State.fullStages
  refine .trans ?_ (State.countdown_recorded _ arm gap)
  refine .trans ?_ (State.arriveAt_recorded _ during 6)
  refine .trans ?_ (State.modEnf_recorded _ arm)
  refine .trans ?_ (State.arriveAt_recorded _ during 5)
  refine .trans ?_ (State.arriveAt_recorded _ during 4)
  refine (s.arriveAt_recorded during 3).trans ?_
  split
  · exact .refl _
  · exact State.putCells_recorded _ _

theorem State.evaluationStages_recorded (t : ZoneTable) (f : HeldFrame) (steady : Bool) :
    s.Recorded (writtenIn during) (s.evaluationStages during t arm f steady) := by
  have taken : s.Recorded (writtenIn during) (s.takeFrame arm f) :=
    (s.modFeed_recorded arm _).trans (State.modReach_recorded _ arm _)
  have computed : ∀ x : State, x.Recorded (writtenIn during) (x.arithmetic t arm f) := fun x => x.modReach_recorded arm _
  unfold State.evaluationStages
  refine .trans ?_ (State.writeSnapshot_recorded _ arm)
  refine .trans ?_ (State.arriveAt_recorded _ during 7)
  refine .trans (((taken.trans (State.arriveAt_recorded _ during 1)).trans (computed _)).trans
    (State.arriveAt_recorded _ during 2)) ?_
  cases steady with
  | false => exact State.arriveBetween_recorded _ during 3 7
  | true =>
    simp only [if_true]
    refine .trans ?_ (State.setCauses_recorded _ arm _ _)
    split
    · exact (State.seatingStage_recorded _ arm).trans (State.fullStages_recorded _ during arm t _ _ _)
    · exact (State.seatingStage_recorded _ arm).trans (State.arriveBetween_recorded _ during 3 7)

theorem State.evaluationBody_recorded : s.Recorded (writtenIn during) (s.evaluationBody during arm) := by
  unfold State.evaluationBody
  split
  · exact s.evaluationStages_recorded during arm _ _ _
  · exact .refl s

/-! ## The grant phase (R80, R106–R118) -/

theorem State.intakeLane_recorded : s.Recorded (writtenIn during) (s.intakeLane during arm) := by
  refine .foldl (fun s k => ?_) _ s
  unfold State.visitSlot
  dsimp only
  split
  · exact (readRecord_recorded s during _ _ _ _).trans (State.takeCommand_work _ arm k _ _).recorded
  · exact readRecord_recorded s during _ _ _ _

theorem State.decideGrants_recorded : s.Recorded W s.decideGrants := by
  have blockers : ∀ (x : State) (y : Arm) (f : Finding), x.Recorded W (x.writeBlockers y f) := fun x y f =>
    (State.writeBlockers_effects x y f).recorded
  have granted : ∀ (x : State) (t : ZoneTable) (y : Arm) (f : Finding), x.Recorded W (x.grantFound t y f) := fun x t y f => by
    cases f with
    | grantable k tr => exact x.grant_recorded y k t tr
    | _ => exact .refl x
  unfold State.decideGrants
  split
  · exact s.setSurvey_recorded rfl
  · refine .trans ?_ (State.updateStandoff_effects (U := NoPort) nofun (fun _ => nofun) _ _ _).recorded
    refine .trans ?_ ((granted _ _ .a _).trans (granted _ _ .b _))
    exact ((s.setSurvey_recorded (State.settle_sip s _ _ _)).trans (blockers _ .a _)).trans (blockers _ .b _)

theorem State.grantPhaseBody_recorded : s.Recorded (writtenIn during) (s.grantPhaseBody during) := by
  unfold State.grantPhaseBody
  refine .trans ?_ (State.endGrantPhase_effects (U := NoPort) nofun _).recorded
  refine .trans ?_ (State.captureView_effects (U := NoPort) _).recorded
  refine .trans ?_ (State.arriveWhen_recorded _ during _)
  split
  · exact s.arriveWhen_recorded during _
  · exact (((s.intakeLane_recorded during .a).trans (State.intakeLane_recorded _ during .b)).trans
      (State.arriveAt_recorded _ during 320)).trans (State.decideGrants_recorded _)

/-! ## The survey tick (R102, R159–R162) -/

theorem State.writeMailResult_recorded (p : Port) (r : MailResult) (x : Option HeldReason) (tag : Byte) :
    s.Recorded W (s.writeMailResult p r x tag) :=
  (State.writeMailResult_effects s p r x tag).recorded

theorem State.beginInstall_recorded (p : Port) (tag : Byte) (k : GateMask) (window : Nat) (t : ZoneTable) :
    s.Recorded W (s.beginInstall p tag k window t) := by
  unfold State.beginInstall
  split
  · exact (s.changeInstall_recorded _).trans (State.writeMailResult_recorded _ p _ _ tag)
  · exact (s.changeInstall_recorded _).trans (State.writeMailResult_recorded _ p _ _ tag)

theorem State.takeMail_recorded (point : Nat) (p : Port) (tag : Byte) (c : MailCommand) :
    s.Recorded (writtenIn during) (s.takeMail during point p tag c) := by
  have answered : ∀ {x : State}, s.Recorded (writtenIn during) x →
      s.Recorded (writtenIn during) (x.writeMailResult p .done none tag) := fun h => h.trans (State.writeMailResult_recorded _ p .done none tag)
  unfold State.takeMail
  split
  · exact s.writeMailResult_recorded p _ _ tag
  · unfold State.carryOutAtOnce
    cases c with
    | install k window => exact (readRun_recorded s during 256 point 0x300).trans (State.beginInstall_recorded _ p tag k window _)
    | abandon =>
      refine answered ?_
      unfold State.abandon
      split
      · exact s.changeInstall_recorded _
      · exact .refl s
    | fence n zs => exact answered (.of_frame rfl rfl)
    | priority m o =>
      dsimp only
      split
      · exact answered (s.setSurvey_recorded rfl)
      · exact .refl s
    | hold v => exact answered (s.setSurvey_recorded rfl)
    | period v => exact answered (s.setSurvey_recorded rfl)
    | clearStop a => dsimp only; split <;> exact .of_frame rfl rfl
    | restartLane a => dsimp only; split <;> exact .of_frame rfl rfl
    | unknown => exact .refl s

theorem State.visitMailbox_recorded (p : Port) : s.Recorded (writtenIn during) (s.visitMailbox during p) := by
  have read := readRecord_recorded s during (mailPoint p) (mailboxBase p) (mailboxBase p + 16) 16
  unfold State.visitMailbox
  dsimp only
  split
  · split
    · exact read.trans (State.takeMail_recorded _ during _ p _ _)
    · exact (read.trans (State.takeMail_recorded _ during _ p _ _)).trans (State.arriveBetween_recorded _ during _ _)
  · exact read.trans (State.arriveBetween_recorded _ during _ _)

theorem State.surveyTick_recorded : s.Recorded (writtenIn during) (s.surveyTick during) := by
  unfold State.surveyTick
  split
  · refine .trans ?_ (State.requestTogether_recorded _ _)
    refine .trans ?_ (State.visitMailbox_recorded _ during .b)
    refine .trans ?_ (State.visitMailbox_recorded _ during .a)
    exact (s.setSurvey_recorded (v := { s.survey with timer := some (fullPeriod s.survey.period) }) rfl).trans
      (State.setSip_recorded _ true)
  · exact .refl s

/-! ## The configuration service (R137, R138, R164) -/

theorem releaseRun_recorded (ks : List Slot) (point : Nat) :
    s.Recorded (writtenIn during) (releaseRun during arm point ks s) := by
  induction ks generalizing s point with
  | nil => exact .refl s
  | cons k ks ih =>
    exact ((s.arriveAt_recorded during point).trans
      ((State.endGranted_work _ arm k).trans (State.writeResult_work _ arm k .restarted none)).recorded).trans (ih _ (point + 1))

theorem State.restartLane_recorded (point : Nat) : s.Recorded (writtenIn during) (s.restartLane during point arm) := by
  unfold State.restartLane
  refine .trans ?_ (State.raise_recorded _ .lane arm)
  refine .trans ?_ (.foldl (fun x k => (State.absorbSlot_effects (U := NoPort) x arm k).recorded) _ _)
  refine .trans ?_ (State.modLane_recorded _ arm _)
  exact (s.withdrawRun_recorded arm .restarted _).trans (releaseRun_recorded _ during arm _ point)

theorem State.carryOut_recorded (point : Nat) (c : Accepted) : s.Recorded (writtenIn during) (s.carryOut during point c) := by
  unfold State.carryOut
  split
  · rename_i x _
    exact ((s.arriveAt_recorded during point).trans
      (State.carryClear_effects (U := NoPort) nofun (fun _ => nofun) _ c x).recorded).trans
        (State.arriveBetween_recorded _ during _ _)
  · rename_i x _
    exact ((s.restartLane_recorded during x point).trans (State.writeMailResult_recorded _ _ _ _ _)).trans
      (State.arriveBetween_recorded _ during _ _)

theorem carryOutAll_recorded (cs : List Accepted) (point : Nat) :
    s.Recorded (writtenIn during) (carryOutAll during point cs s) := by
  induction cs generalizing s point with
  | nil => exact s.arriveBetween_recorded during point 40
  | cons c cs ih => exact (s.carryOut_recorded during point c).trans (ih _ (point + 20))

theorem State.configurationBody_recorded : s.Recorded (writtenIn during) (s.configurationBody during) := by
  have taken : s.Recorded (writtenIn during) (s.setAccepted []) := .of_frame rfl rfl
  unfold State.configurationBody
  refine .trans ?_ (State.requestTogether_recorded _ _)
  refine .trans ?_ (State.arriveAt_recorded _ during 41)
  refine .trans ?_ (State.testGate_effects (U := NoPort) nofun _).recorded
  refine .trans ?_ (State.arriveAt_recorded _ during 40)
  exact taken.trans (carryOutAll_recorded _ during s.accepted 0)

end
end Sys2Proof.Machine
end

section
/-! SUPPORT. R99, R163, R173, R174: the words that power-on and the release of RESET_N leave. -/

namespace Sys2Proof.Machine

/-! ## Words taken out, and words written each at its own offset -/

theorem Memory.read_filter (m : Memory) (p : Nat → Bool) (a : Nat) :
    Memory.read (m.filter (fun c => p c.1)) a = if p a then m.read a else 0 := by
  induction m with
  | nil => simp
  | cons c m ih =>
    obtain ⟨b, w⟩ := c
    by_cases kept : p b = true
    · by_cases here : b = a
      · simp [Memory.read, ← here, kept]
      · simp [Memory.read, kept, here, ih]
    · by_cases here : b = a
      · subst here
        simpa [kept] using ih
      · simp [Memory.read, kept, here, ih]

theorem Memory.read_writeAll_of_notMem (m : Memory) {cs : List (Nat × Word)} {a : Nat} (away : a ∉ cs.map Prod.fst) :
    (Memory.writeAll m cs).read a = m.read a := by
  induction cs generalizing m with
  | nil => rfl
  | cons c cs ih =>
    simp only [List.map_cons, List.mem_cons, not_or] at away
    exact (ih _ away.2).trans (Memory.read_write_of_ne m c.2 away.1)

theorem Memory.read_writeAll_of_mem {m : Memory} (wf : m.wf = true) {cs : List (Nat × Word)} (nodup : (cs.map Prod.fst).Nodup)
    {a : Nat} {w : Word} (mem : (a, w) ∈ cs) : (Memory.writeAll m cs).read a = w := by
  induction cs generalizing m with
  | nil => cases mem
  | cons c cs ih =>
    obtain ⟨fresh, nodup⟩ := List.nodup_cons.mp nodup
    obtain rfl | later := List.mem_cons.mp mem
    · exact (Memory.read_writeAll_of_notMem _ fresh).trans (Memory.read_write_same a w wf)
    · exact ih (Memory.wf_write _ _ wf) nodup later

/-! ## The ports' words (R171) -/

theorem portWritten_iff (a : Nat) : portWritten a = true ↔
    (0x0C0 ≤ a ∧ a ≤ 0x0CF) ∨ (0x0E0 ≤ a ∧ a ≤ 0x0EF) ∨ (0x100 ≤ a ∧ a ≤ 0x2FF ∧ a % 16 ≤ 7) ∨ (0x300 ≤ a ∧ a ≤ 0x3FF) := by
  simp only [portWritten, inRequestHalf, inMailboxRequest, inLaneRequest, inStaging, Bool.or_eq_true, Bool.and_eq_true,
    decide_eq_true_eq]
  simp only [mailboxBase, laneBase]
  omega

/-! ## The initial contents (R173) -/

theorem read_writeAll_resetMemory {m : Memory} (wf : m.wf = true) {a : Nat} (clear : m.read a = 0) :
    (Memory.writeAll m resetMemory).read a = powerOnWord a := by
  by_cases listed : a ∈ resetMemory.map Prod.fst
  · have entry : ∀ b ∈ resetMemory.map Prod.fst, (b, powerOnWord b) ∈ resetMemory := by decide
    exact Memory.read_writeAll_of_mem wf (by decide) (entry a listed)
  · rw [Memory.read_writeAll_of_notMem m listed, clear]
    simp only [resetMemory, List.map_cons, List.map_nil, List.mem_cons, List.not_mem_nil, or_false, not_or] at listed
    simp [powerOnWord, listed]

theorem resetMemory_read (a : Nat) : resetMemory.read a = powerOnWord a :=
  read_writeAll_resetMemory (m := []) rfl rfl

/-! ## The release of RESET_N (R99, R163, R174) -/

theorem wordOf_tagOf (w : Word) : wordOf (tagOf w).toNat = w &&& 0x00FF := by
  refine BitVec.eq_of_toNat_eq ?_
  rw [toNat_and_low w 0x00FF 8 rfl, wordOf_toNat]
  simp only [tagOf, BitVec.toNat_ofNat]
  omega

/-- The offsets of the result tags. -/
def resultTagOffsets : List Nat :=
  [mailboxBase .a + 16, mailboxBase .b + 16] ++ slotOrder.map (fun k => slotBase .a k + 8) ++
    slotOrder.map (fun k => slotBase .b k + 8)

theorem resultTagsOf_offsets (m : Memory) : (resultTagsOf m).map Prod.fst = resultTagOffsets := rfl

theorem mem_resultTagOffsets (a : Nat) : a ∈ resultTagOffsets ↔
    (∃ p : Port, a = mailboxBase p + 16) ∨ ∃ (arm : Arm) (k : Slot), a = slotBase arm k + 8 := by
  simp only [resultTagOffsets, List.mem_append, List.mem_cons, List.not_mem_nil, or_false, List.mem_map]
  constructor
  · rintro (((h | h) | ⟨k, -, h⟩) | ⟨k, -, h⟩)
    · exact .inl ⟨.a, h⟩
    · exact .inl ⟨.b, h⟩
    · exact .inr ⟨.a, k, h.symm⟩
    · exact .inr ⟨.b, k, h.symm⟩
  · rintro (⟨p, h⟩ | ⟨arm, k, h⟩)
    · cases p
      · exact .inl (.inl (.inl h))
      · exact .inl (.inl (.inr h))
    · cases arm
      · exact .inl (.inr ⟨k, mem_slotOrder k, h.symm⟩)
      · exact .inr ⟨k, mem_slotOrder k, h.symm⟩

/-- What the release keeps before it writes: the ports' words. -/
def portWords (m : Memory) : Memory := m.filter (fun c => portWritten c.1)

theorem portWords_wf {m : Memory} (wf : m.wf = true) : (portWords m).wf = true := Memory.wf_filter _ wf

theorem portWords_read (m : Memory) (a : Nat) : (portWords m).read a = if portWritten a then m.read a else 0 :=
  m.read_filter portWritten a

theorem rewriteGuardWords_eq (m : Memory) :
    rewriteGuardWords m = Memory.writeAll (Memory.writeAll (portWords m) resetMemory) (resultTagsOf (portWords m)) := rfl

/-- R174: the ports' words stay. -/
theorem rewriteGuardWords_read_port (m : Memory) {a : Nat} (port : portWritten a = true) :
    (rewriteGuardWords m).read a = m.read a := by
  have tags : ∀ b ∈ resultTagOffsets, portWritten b = false := by decide
  have initial : ∀ b ∈ resetMemory.map Prod.fst, portWritten b = false := by decide
  rw [rewriteGuardWords_eq, Memory.read_writeAll_of_notMem _ fun h => by simp [tags a h] at port,
    Memory.read_writeAll_of_notMem _ fun h => by simp [initial a h] at port, portWords_read, if_pos port]

section
variable {m : Memory} (wf : m.wf = true)
include wf

/-- R99, R163: a result tag takes the post tag found. -/
theorem rewriteGuardWords_read_tag {a post : Nat} (port : portWritten post = true)
    (tag : (a, wordOf (tagOf ((portWords m).read post)).toNat) ∈ resultTagsOf (portWords m)) :
    (rewriteGuardWords m).read a = m.read post &&& 0x00FF := by
  have nodup : ((resultTagsOf (portWords m)).map Prod.fst).Nodup := by
    rw [resultTagsOf_offsets]
    decide
  rw [rewriteGuardWords_eq, Memory.read_writeAll_of_mem (Memory.wf_writeAll _ (portWords_wf wf)) nodup tag, portWords_read,
    if_pos port, wordOf_tagOf]

theorem rewriteGuardWords_read_mailboxTag (p : Port) :
    (rewriteGuardWords m).read (mailboxBase p + 16) = m.read (mailboxBase p) &&& 0x00FF := by
  refine rewriteGuardWords_read_tag wf (portWritten_mailbox p (i := 0) (by omega)) ?_
  cases p <;> simp [resultTagsOf]

theorem rewriteGuardWords_read_slotTag (arm : Arm) (k : Slot) :
    (rewriteGuardWords m).read (slotBase arm k + 8) = m.read (slotBase arm k) &&& 0x00FF := by
  refine rewriteGuardWords_read_tag wf (by revert k; cases arm <;> decide) ?_
  cases arm
  · exact List.mem_append_left _ (List.mem_append_right _ (List.mem_map.mpr ⟨k, mem_slotOrder k, rfl⟩))
  · exact List.mem_append_right _ (List.mem_map.mpr ⟨k, mem_slotOrder k, rfl⟩)

/-- R174: every other word takes the contents that power-on leaves. -/
theorem rewriteGuardWords_read_guard {a : Nat} (guard : portWritten a = false) (tag : a ∉ resultTagOffsets) :
    (rewriteGuardWords m).read a = powerOnWord a := by
  rw [rewriteGuardWords_eq, Memory.read_writeAll_of_notMem _ tag]
  refine read_writeAll_resetMemory (portWords_wf wf) ?_
  rw [portWords_read, guard]
  rfl

theorem rewriteGuardWords_read_other {a : Nat} (guard : portWritten a = false) (mailbox : ∀ p : Port, a ≠ mailboxBase p + 16)
    (slot : ∀ (arm : Arm) (k : Slot), a ≠ slotBase arm k + 8) : (rewriteGuardWords m).read a = powerOnWord a := by
  refine rewriteGuardWords_read_guard wf guard fun tag => ?_
  obtain ⟨p, here⟩ | ⟨arm, k, here⟩ := (mem_resultTagOffsets a).mp tag
  · exact mailbox p here
  · exact slot arm k here

/-- The header and both snapshots take their initial contents. -/
theorem rewriteGuardWords_read_low (a : Nat) (low : a < 0x0C0) : (rewriteGuardWords m).read a = powerOnWord a := by
  have guard : portWritten a = false := by
    rw [Bool.eq_false_iff, Ne, portWritten_iff]
    omega
  have tags : ∀ b ∈ resultTagOffsets, 0x0C0 ≤ b := by decide
  exact rewriteGuardWords_read_guard wf guard fun tag => by have := tags a tag; omega

end

/-! ## Truth after a reset -/

/-- R154, R166, R173, R176, R177: what a reset makes of State shows in a memory with power-on's guard words. -/
theorem State.memoryTrue_of_reset {s : State} (view : (s.setPending []).recordView = State.reset.recordView)
    (canonical : s.memoryOk) (words : ∀ a < 0x0C0, s.word a = powerOnWord a) : s.memoryTrue := by
  have records : s.recordAt = State.reset.recordAt :=
    (show s.recordAt = (s.setPending []).recordAt from rfl).trans (State.recordAt_of_view view)
  simp only [State.recordView, Prod.mk.injEq] at view
  obtain ⟨-, -, -, -, lock⟩ := view
  have shown : ∀ a ∈ [0x004, 0x008, 0x009, 0x00A, 0x00B, 0x00C], State.reset.recordAt a = some (powerOnWord a) := by decide
  refine ⟨canonical, s.headerOk_iff.mpr fun _ a w shows => ?_, ⟨?_, ?_⟩, fun q pending => ?_⟩
  · rw [records] at shows
    have place : a ∈ [0x004, 0x008, 0x009, 0x00A, 0x00B, 0x00C] := by
      by_contra away
      simp only [List.mem_cons, List.not_mem_nil, or_false, not_or] at away
      simp [State.recordAt, away] at shows
    rw [shown a place] at shows
    cases shows
    refine words a ?_
    have low : ∀ b ∈ [0x004, 0x008, 0x009, 0x00A, 0x00B, 0x00C], b < 0x0C0 := by decide
    exact low a place
  · exact congrArg (BitVec.getLsbD · 0) (words 0x080 (by decide))
  · exact congrArg (BitVec.getLsbD · 0) (words 0x0A0 (by decide))
  · rw [show s.lock = State.reset.lock from lock] at pending
    cases pending

theorem resetMemory_wf : resetMemory.wf = true := by decide

theorem State.powerOn_memoryTrue (s : State) : s.powerOn.memoryTrue :=
  State.memoryTrue_of_reset rfl resetMemory_wf fun a _ => resetMemory_read a

theorem State.resetRelease_recorded {W : Nat → Prop} (s : State) : s.Recorded W s.resetRelease := by
  unfold State.resetRelease
  split
  · have canonical : s.memoryOk → (rewriteGuardWords s.mem).wf = true := rewriteGuardWords_wf
    have words := rewriteGuardWords_read_low (m := s.mem)
    have ports := fun a => rewriteGuardWords_read_port s.mem (a := a)
    generalize rewriteGuardWords s.mem = m at *
    exact ⟨rfl, fun ⟨wf, _⟩ => State.memoryTrue_of_reset rfl (canonical wf) (words wf), fun a port _ => ports a port⟩
  · exact .refl s

theorem State.resetAssert_recorded {W : Nat → Prop} (s : State) : s.Recorded W s.resetAssert :=
  ⟨rfl, fun ⟨wf, _, even, _⟩ => ⟨wf, nofun, even, nofun⟩, fun _ _ _ => rfl⟩

end Sys2Proof.Machine
end

section
/-! SUPPORT. R171, R172, R176: every command keeps the queue, the truth of the exchange memory, and the ports' words but those that
it or its arrivals write. -/

namespace Sys2Proof.Machine

/-- The ports' words that a command may change: all at power-on, its own word for a port's write, and those that the writes among
its arrivals name. -/
def portWordsOf : Instr → Nat → Prop
  | .powerOn => fun _ => True
  | .memoryWrite _ addr _ => fun a => addr.toNat = a
  | .stagingWrite _ k _ => fun a => 0x300 + k.toNat = a
  | .frameEvaluation _ during => writtenIn during
  | .surveyTick during => writtenIn during
  | .configurationService during => writtenIn during
  | .surveyGrantPhase during => writtenIn during
  | _ => fun _ => False

/-- R172: no command stops the part. -/
theorem exec_answers (c : Instr) (s : State) : ∃ t, exec c s = .next t := by
  cases c <;> exact ⟨_, rfl⟩

theorem exec_recorded {c : Instr} {s t : State} (e : exec c s = .next t) : s.Recorded (portWordsOf c) t := by
  have feed : ∀ arm, allowsFeed NoPort arm := fun _ => ⟨nofun, nofun, nofun⟩
  cases c with
  | powerOn => cases e; exact ⟨rfl, fun _ => s.powerOn_memoryTrue, fun _ _ h => absurd trivial h⟩
  | resetNAssert => cases e; exact s.resetAssert_recorded
  | resetNRelease => cases e; exact s.resetRelease_recorded
  | readyRise => cases e; unfold State.readyRise; split; exacts [.refl s, .of_frame rfl rfl]
  | frameComplete arm chars => cases e; exact (State.frameComplete_effects (feed arm) s chars).recorded
  | missTimerExpiry arm => cases e; exact (State.missExpiry_effects (feed arm) s).recorded
  | lossGraceExpiry arm => cases e; exact (State.lossGraceExpiry_effects (feed arm) s).recorded
  | stateSnapshotWrite arm => cases e; exact s.flushSnapshot_recorded arm
  | frameEvaluation arm during => cases e; exact s.serve_recorded _ fun x => x.evaluationBody_recorded during arm
  | surveyTick during => cases e; exact s.surveyTick_recorded during
  | configurationService during => cases e; exact s.serve_recorded _ fun x => x.configurationBody_recorded during
  | refillTest => cases e; exact s.serve_recorded _ fun x => (State.refillTestBody_effects (U := NoPort) nofun x).recorded
  | surveyGrantPhase during => cases e; exact s.serve_recorded _ fun x => x.grantPhaseBody_recorded during
  | surveyEnd => cases e; exact (State.surveyEnd_effects (U := NoPort) nofun s).recorded
  | rfreqChange high => cases e; unfold State.rfreqChange; (repeat' split) <;> exact .of_frame rfl rfl
  | debounceExpiry => cases e; exact (State.debounceExpiry_effects (U := NoPort) nofun s).recorded
  | stallTimerExpiry => cases e; exact (State.stallExpiry_effects (U := NoPort) nofun s).recorded
  | installWindowExpiry => cases e; exact (State.windowExpiry_effects (U := NoPort) nofun s).recorded
  | lockRequest p v meets =>
    cases e
    split
    · exact (s.plockWrite_recorded _ _).trans (State.plockWrite_recorded _ _ _)
    · exact s.plockWrite_recorded p v
  | lockRelease p v => cases e; exact s.plockWrite_recorded p v
  | pstatRead p => cases e; exact .of_frame rfl rfl
  | pmaskWrite p v => cases e; unfold State.pmaskWrite; split <;> exact .of_frame rfl rfl
  | pguardRead p => cases e; exact .of_frame rfl rfl
  | registerWrite p k v =>
    cases e
    unfold State.registerWrite State.pmaskWrite
    split
    · split <;> exact .of_frame rfl rfl
    · exact s.plockWrite_recorded p v
    · split <;> exact .of_frame rfl rfl
  | stagingWrite p k v => cases e; exact s.portWrite_recorded p rfl v
  | memoryWrite p addr v => cases e; exact s.portWrite_recorded p rfl v
  | feedIdleSeen arm => cases e; split <;> exact .of_frame rfl rfl

end Sys2Proof.Machine

open Sys2Proof Sys2Proof.Machine

/-- Settles O54: every command keeps the exchange memory true, and the taking of a command leaves it. -/
theorem everyStepKeepsTheHeaderTrue : Obligations.EveryStepKeepsTheHeaderTrue := by
  intro s t ok e
  unfold step at e
  split at e
  · cases e
    exact ok
  · exact (exec_recorded e).sound ok

/-- Settles O59: a port's word that changes is one that the command or its arrivals write. -/
theorem guardNeverWritesAPortsWords : Obligations.GuardNeverWritesAPortsWords := by
  intro c s t a e port changed
  have written : portWordsOf c a := by
    by_contra away
    exact changed ((exec_recorded e).ports a port away)
  cases c with
  | powerOn => exact .inl rfl
  | memoryWrite p addr v => exact .inr (.inl ⟨p, addr, v, rfl, written⟩)
  | stagingWrite p k v => exact .inr (.inr (.inl ⟨p, k, v, rfl, written⟩))
  | surveyTick during => exact .inr (.inr (.inr ⟨during, .inl rfl, written⟩))
  | configurationService during => exact .inr (.inr (.inr ⟨during, .inr (.inl rfl), written⟩))
  | surveyGrantPhase during => exact .inr (.inr (.inr ⟨during, .inr (.inr (.inl rfl)), written⟩))
  | frameEvaluation arm during => exact .inr (.inr (.inr ⟨during, .inr (.inr (.inr ⟨arm, rfl⟩)), written⟩))
  | _ => exact written.elim

/-- Settles O2: every command answers, and its work leaves the queue. -/
theorem everyCommandAnswersAndKeepsTheQueue : Obligations.EveryCommandAnswersAndKeepsTheQueue := by
  intro c s
  obtain ⟨t, e⟩ := exec_answers c s
  exact ⟨t, e, (exec_recorded e).queue⟩
end

section
/-! Statements: both resets and the rise of READY (R101, R141, R173, R174). -/

open Sys2Proof Sys2Proof.Machine

/-- Settles O4: power-on writes the initial contents word by word, and both resets give the reset state. -/
theorem bothResetsGiveTheResetValues : Obligations.BothResetsGiveTheResetValues := by
  have lines : ∀ arm : Arm, State.reset.pauseLine arm = true ∧ State.reset.stopLine arm = true := fun arm => by
    cases arm <;> decide
  have attention : ∀ p : Port, State.reset.attention p = false := fun p => by cases p <;> decide
  exact ⟨fun _ => ⟨_, rfl, rfl, rfl, resetMemory_read, lines, attention⟩, fun _ => ⟨_, rfl, rfl, rfl, lines, attention⟩⟩

/-- Settles O5: of the words that no port writes, the result tags take the post tags found, and the rest what power-on
leaves. -/
theorem resetReleaseRewritesTheGuardWords : Obligations.ResetReleaseRewritesTheGuardWords := by
  refine ⟨fun s wf asserted => ?_, fun s released => ?_⟩
  · have taken : exec .resetNRelease s = .next { State.reset with
        pending := s.pending, rfreq := s.rfreq, mem := rewriteGuardWords s.mem, memBefore := s.memBefore } :=
      congrArg _ (if_pos asserted)
    have ports := fun a => rewriteGuardWords_read_port s.mem (a := a)
    have mailboxTags := rewriteGuardWords_read_mailboxTag wf
    have slotTags := rewriteGuardWords_read_slotTag wf
    have others := fun a => rewriteGuardWords_read_other wf (a := a)
    generalize rewriteGuardWords s.mem = m at *
    exact ⟨_, taken, rfl, ports, mailboxTags, slotTags, others⟩
  · exact congrArg _ (if_neg (by simp [released]))

/-- Settles O6: READY rises only while it is 0 and RESET_N is released. -/
theorem readyRiseStartsTheSurveyTimer : Obligations.ReadyRiseStartsTheSurveyTimer := by
  refine ⟨fun s released waiting => congrArg _ (if_neg ?_), _, rfl, rfl⟩
  simp [released, waiting]

/-- Settles O58, from the reset state's part in each invariant's own development. -/
theorem resetStateMeetsTheInvariants : Obligations.ResetStateMeetsTheInvariants := by
  obtain ⟨claims, refill⟩ := State.claimsSound_reset.claimsOk
  obtain ⟨causes, report⟩ := State.reset.causesAgree_iff.mp State.resetCauses_agree
  obtain ⟨requests, feeds⟩ := State.reset.receiversOk_iff.mp (State.receiversOk_of_resetView rfl)
  exact ⟨State.reset.powerOn_memoryTrue, claims, refill, causes, report, requests, feeds⟩

end

section
/-! SUPPORT. R158, R171, R172, R174: a port's access to exchange memory. -/

namespace Sys2Proof.Machine

section
variable (s : State) (p : Port)

theorem State.mayWrite_iff (a : Nat) : s.mayWrite p a = true ↔ mapAllows s p a := by
  simp only [State.mayWrite, inRequestHalf, inMailboxRequest, inLaneRequest, inStaging, mapAllows, Bool.or_eq_true,
    Bool.and_eq_true, decide_eq_true_eq, ← and_assoc]
  refine or_congr ?_ (and_congr (by omega) Iff.rfl)
  cases p <;> simp only [mailboxBase, laneBase] <;> omega

/-- R183: a flag set alone. -/
theorem State.raise_eq (f : Flag) : s.raise f p = { s with ports := s.ports.set p (s.portAfter s p [f]) } := by
  simp [State.raise, State.modPort, State.setPorts, State.portAfter, Pair.modify, PortRegs.raised]

theorem State.portWrite_of_unready (ready : s.ready = false) (a : Nat) (v : Word) : s.portWrite p a v = s := by
  simp [State.portWrite, ready]

theorem State.writeWord_alone (wf : s.memoryOk) (a : Nat) (v : Word) :
    (s.writeWord a v).word a = v ∧ s.wordsKept (s.writeWord a v) [a] :=
  ⟨Memory.read_write_same _ _ wf, fun _ away => State.writeWord_word_of_ne s v (by simpa using away)⟩

/-- R172: a write that the map allows. -/
theorem State.portWrite_of_allowed {a : Nat} (ready : s.ready = true) (allowed : mapAllows s p a) (v : Word) :
    s.portWrite p a v = s.writeWord a v := by
  simp [State.portWrite, ready, (s.mayWrite_iff p a).mpr allowed]

/-- R172: a write that the map does not allow. -/
theorem State.portWrite_of_barred {a : Nat} (ready : s.ready = true) (barred : ¬ mapAllows s p a) (v : Word) :
    s.portWrite p a v = { s with ports := s.ports.set p (s.portAfter s p [.misuse]) } := by
  rw [← s.mayWrite_iff p a] at barred
  simp [State.portWrite, ready, barred, State.raise_eq]

/-- R158: in the staging table the lock's holder alone may write. -/
theorem mapAllows_staging (k : Byte) : mapAllows s p (0x300 + k.toNat) ↔ s.lock.holder = some p := by
  have := k.isLt
  simp only [mapAllows]
  cases p <;> grind

/-- R182: a write to PID, PSTAT, PGUARD or a select code 5–7. -/
theorem State.registerWrite_of_barred {select : BitVec 3} (mask : select ≠ 2) (lock : select ≠ 3) (v : Word) :
    s.registerWrite p select v = if s.ready then s.raise .misuse p else s := by
  unfold State.registerWrite
  split
  · next two => exact absurd (BitVec.eq_of_toNat_eq two) mask
  · next three => exact absurd (BitVec.eq_of_toNat_eq three) lock
  · rfl

theorem State.registerWrite_of_unready (ready : s.ready = false) (select : BitVec 3) (v : Word) :
    s.registerWrite p select v = s := by
  unfold State.registerWrite
  split
  · simp [State.pmaskWrite, ready]
  · simp [State.plockWrite, ready]
  · simp [ready]

end

/-- R174: what a port finds in a word of the guard while READY is 0. -/
theorem State.readMemory_of_unready (s : State) {addr : BitVec 11} {nth : Nat} (low : addr.toNat < 0x500) (ready : s.ready = false)
    (guard : portWritten addr.toNat = false) (fresh : s.readMemory addr nth ≠ s.memBefore.read addr.toNat) :
    s.readMemory addr nth = (rewriteGuardWords s.memBefore).read addr.toNat := by
  have inside : ¬ Config.memoryWords ≤ addr.toNat := by simpa [Config.memoryWords] using low
  simp only [State.readMemory, if_neg inside, ready, guard, Bool.or_self, Bool.false_eq_true, if_false] at fresh ⊢
  split at fresh
  · exact absurd rfl fresh
  · next reset => rw [if_neg reset]

end Sys2Proof.Machine

open Sys2Proof Sys2Proof.Machine

/-- Settles O53: a port's write is the map's to allow, and a read before READY finds a guard's word as before or as a release of
RESET_N would leave it. -/
theorem portWritesFollowTheMap : Obligations.PortWritesFollowTheMap := by
  refine ⟨fun s p addr v wf ready => ⟨fun allowed => ?_, fun barred => ?_⟩, fun s p k v wf ready =>
    ⟨fun holds => ?_, fun barred => ?_⟩, fun s p select v ready mask lock => congrArg Host.Outcome.next ?_,
    fun s p addr k select v unready => ⟨?_, ?_, ?_⟩, portWritten_iff, fun s addr nth wf => ?_⟩
  · exact ⟨_, congrArg Host.Outcome.next (s.portWrite_of_allowed p ready allowed v), rfl, s.writeWord_alone wf _ v⟩
  · exact congrArg _ (s.portWrite_of_barred p ready barred v)
  · have allowed := (mapAllows_staging s p k).mpr holds
    exact ⟨_, congrArg Host.Outcome.next (s.portWrite_of_allowed p ready allowed v), rfl, s.writeWord_alone wf _ v⟩
  · exact congrArg _ (s.portWrite_of_barred p ready (mt (mapAllows_staging s p k).mp barred) v)
  · rw [s.registerWrite_of_barred p mask lock, if_pos ready, State.raise_eq]
  · exact congrArg _ (s.portWrite_of_unready p unready _ v)
  · exact congrArg _ (s.portWrite_of_unready p unready _ v)
  · exact congrArg _ (s.registerWrite_of_unready p unready select v)
  · refine ⟨fun high => if_pos high, fun low known => ?_, fun low unready guard fresh => ?_⟩
    · have inside : ¬ Config.memoryWords ≤ addr.toNat := by simpa [Config.memoryWords] using low
      exact (if_neg inside).trans (if_pos (by simpa using known))
    · rw [s.readMemory_of_unready low unready guard fresh]
      refine ⟨fun p here => ?_, fun arm k here => ?_, fun mailbox slot => ?_⟩
      · rw [here]
        exact rewriteGuardWords_read_mailboxTag wf p
      · rw [here]
        exact rewriteGuardWords_read_slotTag wf arm k
      · exact rewriteGuardWords_read_other wf guard mailbox slot

end

section
/-! SUPPORT. R182–R186: the words of a port's registers, bit by bit. -/

namespace Sys2Proof.Machine

section
variable (s : State) (p : Port)

/-- R183: every bit of PSTAT is a flag's. -/
theorem Flag.exists_bit {j : Nat} (flag : j < 11) : ∃ f : Flag, f.bit = j := by
  have all : ∀ j < 11, ∃ f ∈ [Flag.survey, .lane, .mailbox, .pause, .stop, .feed, .standoff, .refill, .install, .lock, .misuse],
      f.bit = j := by decide
  obtain ⟨f, -, here⟩ := all j flag
  exact ⟨f, here⟩

theorem Flag.bit_lt (f : Flag) : f.bit < 11 := by cases f <;> decide

theorem State.pstat_toNat :
    (s.pstat p).toNat = 2 ^ 14 * (s.survey.sip.toNat + 2 * s.ready.toNat) + (s.ports.get p).flags.toNat := by
  have := (s.ports.get p).flags.isLt
  have := s.survey.sip.toNat_le
  have := s.ready.toNat_le
  rw [State.pstat, wordOf_toNat, markAt_eq, markAt_eq]
  omega

/-- R183: PSTAT's low bits are the flags, and bits 11 to 13 are clear. -/
theorem State.pstat_low {j : Nat} (low : j < 14) : (s.pstat p).getLsbD j = (s.ports.get p).flags.getLsbD j := by
  have small : (s.ports.get p).flags.toNat < 2 ^ 14 := (s.ports.get p).flags.isLt.trans (by decide)
  rw [BitVec.getLsbD, State.pstat_toNat, Nat.testBit_two_pow_mul_add _ small, if_pos low, BitVec.getLsbD]

/-- R183: PSTAT's high bits are SIP and READY. -/
theorem State.pstat_high {j : Nat} (high : 14 ≤ j) :
    (s.pstat p).getLsbD j = (s.survey.sip.toNat + 2 * s.ready.toNat).testBit (j - 14) := by
  have small : (s.ports.get p).flags.toNat < 2 ^ 14 := (s.ports.get p).flags.isLt.trans (by decide)
  rw [BitVec.getLsbD, State.pstat_toNat, Nat.testBit_two_pow_mul_add _ small, if_neg (by omega)]

/-- R184: the line follows the enabled flags. -/
theorem State.attention_iff :
    s.attention p = true ↔ ∃ f : Flag, s.flagSet f p = true ∧ (s.ports.get p).mask.getLsbD f.bit = true := by
  simp only [State.attention, State.flagSet, decide_eq_true_eq]
  constructor
  · intro asserted
    by_contra none
    refine asserted (BitVec.eq_of_getLsbD_eq fun j flag => ?_)
    obtain ⟨f, rfl⟩ := Flag.exists_bit flag
    simpa using fun set enabled => none ⟨f, set, enabled⟩
  · rintro ⟨f, set, enabled⟩ clear
    have bit := congrArg (BitVec.getLsbD · f.bit) clear
    simp [set, enabled] at bit

/-- R186: each condition is in a bit of its own. -/
theorem State.guardConditions_bit :
    s.guardConditions.getLsbD 0 = s.stopLine .a ∧ s.guardConditions.getLsbD 1 = s.pauseLine .a ∧
    s.guardConditions.getLsbD 2 = (s.enf.get .a).stop.trespass ∧ s.guardConditions.getLsbD 4 = s.stopLine .b ∧
    s.guardConditions.getLsbD 5 = s.pauseLine .b ∧ s.guardConditions.getLsbD 6 = (s.enf.get .b).stop.trespass ∧
    s.guardConditions.getLsbD 15 = false := by
  have bits : ∀ a b c d e f : Bool,
      let w := wordOf (markAt a 0 + markAt b 1 + markAt c 2 + markAt d 4 + markAt e 5 + markAt f 6)
      w.getLsbD 0 = a ∧ w.getLsbD 1 = b ∧ w.getLsbD 2 = c ∧ w.getLsbD 4 = d ∧ w.getLsbD 5 = e ∧ w.getLsbD 6 = f ∧
        w.getLsbD 15 = false := by decide
  exact bits _ _ _ _ _ _

/-- R182: the select codes 5–7 read zero. -/
theorem State.readRegister_of_unused {select : BitVec 3} (high : 5 ≤ select.toNat) : s.readRegister p select = 0 := by
  unfold State.readRegister
  split
  case h_6 => rfl
  all_goals omega

/-! ## The reads with an effect (R183, R186) -/

theorem PortRegs.afterGuardRead_history {r : PortRegs} (stage : r.stage = .history) (value now : Word) :
    r.afterGuardRead value now = { r with readData := value, stage := .present, history := now } := by
  simp [PortRegs.afterGuardRead, stage]

theorem PortRegs.afterGuardRead_present {r : PortRegs} (stage : r.stage = .present) (value now : Word) :
    r.afterGuardRead value now = { r with readData := value } := by
  simp [PortRegs.afterGuardRead, stage]

theorem PortRegs.afterGuardRead_stage (r : PortRegs) (value now : Word) : (r.afterGuardRead value now).stage = .present := by
  cases stage : r.stage
  · rw [PortRegs.afterGuardRead_history stage]
  · rw [PortRegs.afterGuardRead_present stage, stage]

theorem PortRegs.afterGuardRead_readData (r : PortRegs) (value now : Word) : (r.afterGuardRead value now).readData = value := by
  cases stage : r.stage
  · rw [PortRegs.afterGuardRead_history stage]
  · rw [PortRegs.afterGuardRead_present stage]

theorem State.modPort_eq (g : PortRegs → PortRegs) :
    s.modPort p g = { s with ports := s.ports.set p (g (s.ports.get p)) } := rfl

theorem State.pguard_of_history (stage : (s.ports.get p).stage = .history) :
    s.pguard p = (s.ports.get p).history ||| 0x8000 := by
  simp [State.pguard, stage]

theorem State.pguard_of_present (stage : (s.ports.get p).stage = .present) : s.pguard p = s.guardConditions := by
  simp [State.pguard, stage]

end
end Sys2Proof.Machine

open Sys2Proof Sys2Proof.Machine

/-- Settles O52: a read leaves the stage at present and the conditions alone, so that the second of two returns them. -/
theorem pguardReportsInTwoStages : Obligations.PguardReportsInTwoStages := by
  intro s p
  obtain ⟨stopA, pauseA, trespassA, stopB, pauseB, trespassB, top⟩ := s.guardConditions_bit
  refine ⟨fun arm => ?_, top, fun stage => congrArg Host.Outcome.next ?_, fun stage =>
    congrArg Host.Outcome.next ?_, _, _, rfl, rfl, ?_⟩
  · cases arm
    · exact ⟨stopA, pauseA, trespassA⟩
    · exact ⟨stopB, pauseB, trespassB⟩
  · rw [State.modPort_eq, PortRegs.afterGuardRead_history stage, s.pguard_of_history p stage]
  · rw [State.modPort_eq, PortRegs.afterGuardRead_present stage, s.pguard_of_present p stage]
  · have present : ∀ g : PortRegs → PortRegs, (g (s.ports.get p)).stage = .present →
        (s.modPort p g).pguard p = s.guardConditions := fun g stage => by
      rw [State.pguard_of_present _ _ (by rw [State.modPort_ports, Pair_get_modify_same, stage])]
      exact State.guardConditions_congr rfl
    rw [State.modPort_ports, Pair_get_modify_same, PortRegs.afterGuardRead_readData,
      present _ (PortRegs.afterGuardRead_stage _ _ _)]

/-- Settles O51: PSTAT and PMASK bit by bit, and each register's word by its select code. -/
theorem pstatAndPmaskFollowTheFlags : Obligations.PstatAndPmaskFollowTheFlags := by
  refine ⟨fun s p => ⟨_, rfl, ?_⟩, fun s p v ready => ?_, fun s p v unready => ?_, fun s p =>
    ⟨?_, ⟨_, rfl, ?_⟩, fun j low => ?_, ?_, ⟨_, rfl, ?_⟩, fun select high => ?_⟩⟩
  · simp only [State.modPort_eq, Pair_get_set_same]
    refine ⟨trivial, trivial, fun f => s.pstat_low p (by have := f.bit_lt; omega), ?_, ?_, fun j low high => ?_, ?_⟩
    · rw [s.pstat_high p (by decide)]
      cases s.survey.sip <;> cases s.ready <;> rfl
    · rw [s.pstat_high p (by decide)]
      cases s.survey.sip <;> cases s.ready <;> rfl
    · rw [s.pstat_low p (by omega), BitVec.getLsbD_of_ge _ _ low]
    · simp [State.attention]
  · refine ⟨s.modPort p fun r => { r with mask := BitVec.ofNat 11 v.toNat }, congrArg Host.Outcome.next (if_pos ready), ?_⟩
    have bits : ∀ j < 11, (BitVec.ofNat 11 v.toNat).getLsbD j = v.getLsbD j := fun j flag => by simp [flag]
    rw [State.attention_iff]
    simp only [State.modPort_eq, State.flagSet, Pair_get_set_same]
    refine ⟨trivial, trivial, bits, ?_, ?_⟩
    · exact exists_congr fun f => by rw [bits _ f.bit_lt]
    · simp [State.attention]
  · exact congrArg Host.Outcome.next (if_neg (by simp [unready]))
  · cases p <;> cases ready : s.ready <;> simp [State.readRegister, State.pid, markAt, ready]
  · rw [State.modPort_ports, Pair_get_modify_same]
    rfl
  · simp [State.readRegister, wordOf, low]
  · show (s.plock p).toNat = _
    rw [State.plock, wordOf_toNat]
    by_cases waits : s.lock.pendingPort = some p <;> rcases s.lock.holder with _ | _ | _ <;> simp [sideCode, markAt, waits]
  · rw [State.modPort_ports, Pair_get_modify_same, PortRegs.afterGuardRead_readData]
    rfl
  · exact s.readRegister_of_unused p high

end

section
/-! Statements: what a step does with the queue of commands (`Sys2Proof/Machine/Step.lean`). -/

namespace Sys2Proof.Machine
section
variable {s : State}

theorem step_of_pending_cons {c : Instr} {rest : List Instr} (queue : s.pending = c :: rest) :
    step s = exec c (s.setPending rest) := by
  rw [step, queue]

/-- The model's choice (log 2). -/
theorem step_of_pending_nil (queue : s.pending = []) : step s = .next s := by
  rw [step, queue]

end
end Sys2Proof.Machine

open Sys2Proof Sys2Proof.Machine

/-- Settles O1, by the two shapes of the queue. -/
theorem stepTakesTheFrontCommand : Obligations.StepTakesTheFrontCommand :=
  ⟨fun _ _ _ queue => step_of_pending_cons queue, fun _ queue => step_of_pending_nil queue⟩

end
